-- ==== Sys2Proof/Word.lean ====
section
/-! DEFINITION. The plain words of the part: bytes, the six terminal ports, and sparse tables.
Money is a number of cents (a `Nat`, or an `Int` where the manual allows a credit), times are run times
in whole seconds (`Nat`), and slots are `Nat`; only what the manual treats as bits is a bit vector. -/

namespace Sys2Proof

/-- One byte of a terminal frame or of a management frame (R159, R178). -/
abbrev Byte := BitVec 8

/-- A terminal port, TP0 to TP5 (R159). -/
abbrev Port := Fin 6

/-- A table of the part held by the slots, numbers or entries that are in use: pairs of a key and a value.
The canonical form (keys strictly rising) is `Table.wf` of Machine/Tables.lean. -/
abbrev Table (α : Type) := List (Nat × α)

end Sys2Proof
end

