-- ==== Sys2Proof/Syntax.lean ====
section
/-! DEFINITION. The commands of the part, one constructor for each row of spec/opcode_table.json.

Four senders stand behind them. A TERMINAL sends bytes on its link: `receivedByte`, and the receiver's own
`interByteGap` and `frameArrival`. A PORT takes the oldest frame of its queue: `ping`, `unlock` and the other
requests name the port alone, since what they carry stands in that frame (R165). The HOST makes transactions:
each management request carries the body of its frame as bytes; `writeDiscarded` and `readReply` carry the bytes that
the host shifts in during a transaction that takes no request, the first of which names a write, a read or a poll
(R178 to R181; log 30). The TIME BASE and the owners of timers make the rest. -/

namespace Sys2Proof

/-- A command of the part. -/
inductive Instr where
  /-- FRAME_ARRIVAL (R161): A whole frame collected by a terminal port receiver is checked for TERM and CRC, then queued, answered PORT_FULL, or discarded. -/
  | frameArrival (port : Port)
  /-- INTER_BYTE_GAP (R160): A gap of more than 2 ms between bytes of a frame in FRAME ends that frame; it is discarded and the receiver returns to HUNT. -/
  | interByteGap (port : Port)
  /-- UNKNOWN_REQUEST_KIND (R172): A taken terminal frame whose KIND code is not a known request kind is answered BAD_REQUEST. -/
  | unknownRequestKind (port : Port)
  /-- PING (R174): A PING, taken from any terminal in any service state, is answered OK with the service state and the entry's kind and enabled flag. -/
  | ping (port : Port)
  /-- UNLOCK (R42): A lock terminal asks whether a presented credential opens its cabin or zone door, and the nine ordered checks decide the result. -/
  | unlock (port : Port)
  /-- LOCK_MODE (R36): A cabin lock's privacy button asks to set PRIVACY_ON or PRIVACY_OFF, and the cabin mode at take decides the outcome. -/
  | lockMode (port : Port)
  /-- CHARGE (R127): A POS charge is put through eleven checks and the seven-stage computation, then approved and posted or declined. -/
  | charge (port : Port)
  /-- OPEN_TAB (R144): A POS opens a tab against a credential and places a hold on the opener's folio after fourteen checks. -/
  | openTab (port : Port)
  /-- CLOSE_TAB (R147): A POS closes a tab with a final amount; the hold is released and the amount is computed and posted, or the close is declined. -/
  | closeTab (port : Port)
  /-- VOID_TAB (R152): A POS of the tab's venue voids an open tab; the hold is released and nothing is posted. -/
  | voidTab (port : Port)
  /-- GANGWAY (R56): A gangway reader presents a credential with a direction, and the nine ordered checks decide the pass and any change of location. -/
  | gangway (port : Port)
  /-- MUSTER_TAP (R90): A muster reader presents a credential during MUSTER, and the record is checked in at the tapped station or refused. -/
  | musterTap (port : Port)
  /-- LOOKUP (R25): A POS or kiosk looks up a credential and receives the record's summary, without consuming a message showing. -/
  | lookup (port : Port)
  /-- RESERVATION_EXPIRY (R14): A reservation reaching its expiry run time is removed, and RESERVE_EXPIRED is raised. -/
  | reservationExpiry (slot : Nat)
  /-- TAB_EXPIRY (R154): A tab reaching its expiry run time ends with its hold released and nothing posted. -/
  | tabExpiry (entry : Nat)
  /-- PORT_SILENCE_EXPIRY (R168): An ACTIVE port reaching its silence expiry becomes SILENT, its timer stops, and PORT_SILENT is raised. -/
  | portSilenceExpiry (port : Port)
  /-- SERVER_WATCHDOG_EXPIRY (R186): In SERVING, watchdog expiry moves the service state to STANDALONE, records the entry time and stops the watchdog. -/
  | serverWatchdogExpiry
  /-- ROLLOVER (R79): When the ship-day number exceeds the last-rolled day, a rollover is made and DAY_ROLLOVER is raised. -/
  | rollover
  /-- PULSE_END (R200): The end of a NOTICE pulse moves the line to NEGATED or HOLDOFF. -/
  | pulseEnd
  /-- HOLDOFF_END (R199): The end of the NOTICE holdoff asserts the line, pulses it, or negates it, according to demand and any pulse owed. -/
  | holdoffEnd
  /-- POWER_ON_RESET (R191): Power-on or the RESET input sets every block, table and setting to its power-on value and puts the part in LOADING. -/
  | powerOnReset
  /-- WRITE_DISCARDED (R180): A management write frame that is not taken is discarded and sets the rejected flag. -/
  | writeDiscarded (bytes : List Byte)
  /-- READ_REPLY (R181): A read transaction sends the status byte and the reply frame; a complete read in REPLY_WAITING makes the port IDLE. -/
  | readReply (bytes : List Byte)
  /-- UNKNOWN_KIND (R182): A taken management request with an unlisted kind code is refused UNKNOWN_KIND and still restarts the watchdog. -/
  | unknownKind (kind : Byte) (body : List Byte)
  /-- ISSUE_RECORD (R8): Issues a new record in the lowest FREE slot, linked to a folio and counted in the count matrix. -/
  | issueRecord (body : List Byte)
  /-- RESERVE_CREDENTIAL (R10): Reserves a credential number as PENDING on a record, with an expiry. -/
  | reserveCredential (body : List Byte)
  /-- CONFIRM_CREDENTIAL (R12): Confirms a pending credential, revoking the replaced credential if it is still active. -/
  | confirmCredential (body : List Byte)
  /-- CANCEL_CREDENTIAL (R13): Cancels a record's pending reservation. -/
  | cancelCredential (body : List Byte)
  /-- REVOKE_CREDENTIAL (R15): Revokes an ACTIVE credential with reason LOST or HOST. -/
  | revokeCredential (body : List Byte)
  /-- REMOVE_REVOKED (R6): Removes a number from the revocation list, so that it becomes unknown. -/
  | removeRevoked (body : List Byte)
  /-- HOLD_RECORD (R16): Takes an ACTIVE record to HELD. -/
  | holdRecord (body : List Byte)
  /-- RELEASE_RECORD (R16): Takes a HELD record back to ACTIVE. -/
  | releaseRecord (body : List Byte)
  /-- RETIRE_RECORD (R17): Retires a record, revoking its credentials and removing it from cabins, the watch set, the counts and its folio. -/
  | retireRecord (body : List Byte)
  /-- SET_MESSAGE (R19): Sets or clears a record's pending message code and show count. -/
  | setMessage (body : List Byte)
  /-- SET_WATCH (R20): Sets a record's watch mode. -/
  | setWatch (body : List Byte)
  /-- SET_FINAL (R20): Sets or clears a record's final flag. -/
  | setFinal (body : List Byte)
  /-- SET_TIER (R21): Sets a record's package tier. -/
  | setTier (body : List Byte)
  /-- SET_CAP (R21): Sets or removes a record's daily cap. -/
  | setCap (body : List Byte)
  /-- READ_RECORD (R26): Returns every field of a record slot. -/
  | readRecord (body : List Byte)
  /-- FIND_CREDENTIAL (R26): Reports whether a credential number is ACTIVE, PENDING, REVOKED or UNKNOWN. -/
  | findCredential (body : List Byte)
  /-- READ_REVOKED (R7): Returns up to 32 revocation list entries from a given position. -/
  | readRevoked (body : List Byte)
  /-- SET_CABIN_ZONES (R30): Loads the zones of up to 32 consecutive cabins. -/
  | setCabinZones (body : List Byte)
  /-- ASSIGN_CABIN (R31): Adds a record to a cabin's occupant list as its home or second cabin. -/
  | assignCabin (body : List Byte)
  /-- VACATE_CABIN (R33): Removes a record from a cabin's occupant list and adjusts its cabin fields. -/
  | vacateCabin (body : List Byte)
  /-- SET_CABIN_MODE (R35): Sets a cabin's door mode from the host. -/
  | setCabinMode (body : List Byte)
  /-- LOAD_ROLE (R39): Replaces a crew role's zone set and attributes. -/
  | loadRole (body : List Byte)
  /-- SET_ROLE (R40): Changes the role of a CREW record. -/
  | setRole (body : List Byte)
  /-- SET_CLASS_POLICY (R41): Sets a class's ashore-check setting and passback policy. -/
  | setClassPolicy (body : List Byte)
  /-- READ_CABIN (R50): Returns the zone, mode and occupants of up to 16 cabins. -/
  | readCabin (body : List Byte)
  /-- READ_ROLE (R50): Returns a role's zone set and attributes. -/
  | readRole (body : List Byte)
  /-- SET_LOCATION (R65): The host overrides a record's location, with the effects of a change of location, and clears its last passage. -/
  | setLocation (body : List Byte)
  /-- READ_COUNTS (R54): Returns the sixteen count-matrix cells, the phase and the run time. -/
  | readCounts (body : List Byte)
  /-- READ_WATCH (R69): Returns and removes up to 16 of the oldest watch-set entries. -/
  | readWatch (body : List Byte)
  /-- SCAN (R73): Returns up to 32 records matching a criterion, from a start slot. -/
  | scan (body : List Byte)
  /-- SET_TIME (R77): Sets the ship-time offset and status, with the first-day setting or a rollover test. -/
  | setTime (body : List Byte)
  /-- READ_TIME (R82): Returns run time, ship time, offset, day numbers and the time to the next boundary. -/
  | readTime (body : List Byte)
  /-- SET_PHASE (R84): Changes the ship phase along the permitted transitions, including entry to MUSTER. -/
  | setPhase (body : List Byte)
  /-- END_MUSTER (R87): Restores the saved phase and leaves the muster results readable. -/
  | endMuster (body : List Byte)
  /-- SET_STATION (R95): Changes a record's assigned muster station. -/
  | setStation (body : List Byte)
  /-- READ_MUSTER (R96): Returns the phase, mustered counts, station tallies and ABOARD cells. -/
  | readMuster (body : List Byte)
  /-- OPEN_FOLIO (R110): Opens an ACTIVE folio in the lowest FREE slot with the given limits. -/
  | openFolio (body : List Byte)
  /-- CLOSE_FOLIO (R111): Closes a folio with no tabs and a zero balance, releasing its prepaid credit. -/
  | closeFolio (body : List Byte)
  /-- REOPEN_FOLIO (R112): Returns a CLOSED folio to ACTIVE. -/
  | reopenFolio (body : List Byte)
  /-- SUSPEND_FOLIO (R113): Suspends a folio with cause HOST. -/
  | suspendFolio (body : List Byte)
  /-- RESUME_FOLIO (R114): Ends a suspension according to the folio's exposure. -/
  | resumeFolio (body : List Byte)
  /-- SET_LIMITS (R115): Sets a folio's limits, grace allowance and resume mode, and re-evaluates it. -/
  | setLimits (body : List Byte)
  /-- POST_PAYMENT (R116): Lowers a folio's balance by a payment and re-evaluates it. -/
  | postPayment (body : List Byte)
  /-- POST_REFUND (R116): Lowers a folio's balance and spend today by a refund and re-evaluates it. -/
  | postRefund (body : List Byte)
  /-- POST_ADJUSTMENT (R117): Adds an amount to a folio's balance and spend today and re-evaluates it. -/
  | postAdjustment (body : List Byte)
  /-- ADD_PREPAID (R118): Adds prepaid credit to a folio, clamped at 10,000,000. -/
  | addPrepaid (body : List Byte)
  /-- LINK_RECORD (R102): Moves a record to another folio. -/
  | linkRecord (body : List Byte)
  /-- READ_FOLIO (R121): Returns every field of a folio and its exposure. -/
  | readFolio (body : List Byte)
  /-- LOAD_VENUE (R123): Loads a venue's category, service rate, class set and tab-timeout code. -/
  | loadVenue (body : List Byte)
  /-- SET_VENUE_OPEN (R124): Sets a venue's open flag. -/
  | setVenueOpen (body : List Byte)
  /-- LOAD_TIER (R125): Loads a package tier's per-item cap and daily count. -/
  | loadTier (body : List Byte)
  /-- READ_VENUE (R126): Returns the fields of up to 16 venues. -/
  | readVenue (body : List Byte)
  /-- READ_TIER (R126): Returns the cap and count of tiers 1 to 7. -/
  | readTier (body : List Byte)
  /-- HOST_VOID_TAB (R153): The host voids an open tab at any venue, releasing its hold with nothing posted. -/
  | hostVoidTab (body : List Byte)
  /-- READ_TAB (R158): Returns an open tab's fields and the time to its expiry. -/
  | readTab (body : List Byte)
  /-- LIST_TABS (R158): Returns up to 16 open tabs from a start entry, optionally for one folio. -/
  | listTabs (body : List Byte)
  /-- LOAD_TERMINAL (R170): Replaces a terminal table entry. -/
  | loadTerminal (body : List Byte)
  /-- SET_TERMINAL_ENABLED (R170): Sets a loaded terminal entry's enabled flag. -/
  | setTerminalEnabled (body : List Byte)
  /-- PORT_RESET (R175): Empties one port's queue, returns its receiver to HUNT, clears its error counter and makes it ACTIVE. -/
  | portReset (body : List Byte)
  /-- READ_PORT (R176): Returns a port's error counter, silence state, queue depth and last arrival, and clears the counter. -/
  | readPort (body : List Byte)
  /-- READ_TERMINALS (R176): Returns up to 16 terminal entries of a port. -/
  | readTerminals (body : List Byte)
  /-- OPEN_SERVICE (R184): Takes the part from LOADING to SERVING and starts the watchdog. -/
  | openService (body : List Byte)
  /-- RESUME_SERVICE (R187): Takes the part from STANDALONE back to SERVING. -/
  | resumeService (body : List Byte)
  /-- SERVICE_RESET (R190): Empties the queues, notices and watch set, restores the notice settings, and returns STANDALONE to SERVING. -/
  | serviceReset (body : List Byte)
  /-- SET_SETTING (R188): Sets one named setting of the settings record, with the step that setting names. -/
  | setSetting (body : List Byte)
  /-- READ_SETTINGS (R189): Returns every setting. -/
  | readSettings (body : List Byte)
  /-- READ_SERVICE (R189): Returns the service state, standalone entry time, watchdog code and expiry, time status and run time. -/
  | readService (body : List Byte)
  /-- READ_NOTICES (R196): Returns the pending conditions and notice state, and in READ_CLEARS mode clears what it shows. -/
  | readNotices (body : List Byte)
  /-- ACK_NOTICES (R197): Clears the named pending conditions that acknowledgement may clear. -/
  | ackNotices (body : List Byte)
  /-- RUN_TIME_ADVANCE (R75): Run time advances by 1 at the end of each second and the millisecond count advances at the end of each millisecond, each advance being an event of the time base. -/
  | runTimeAdvance
  /-- RECEIVED_BYTE (R160): A byte received on a terminal link is dropped or begins a frame in HUNT, or in FRAME is collected, or ends the frame with a discard for a bad stop bit or a LENGTH above 60. -/
  | receivedByte (port : Port) (byte : Byte) (stopGood : Bool)
  deriving DecidableEq, Repr

end Sys2Proof
end

