-- ==== Sys2Proof/Config.lean ====
section
/-! DEFINITION. What one part fixes: the sizes of its tables as the manual gives them, and the free values,
which the manual leaves open and which no proof can see. -/

namespace Sys2Proof.Config

/-- Slots of the record table (01, "The record table"). -/
def recordSlots : Nat := 12288
/-- Entries the credential index may hold (R3). -/
def indexSize : Nat := 24576
/-- Entries the revocation list may hold (01, "The revocation list"; R5). -/
def revocationSize : Nat := 2048
/-- Cabins of the cabin table (02, "The cabin table"). -/
def cabins : Nat := 3072
/-- Occupants one cabin may hold (R29, R31). -/
def cabinOccupants : Nat := 6
/-- Crew roles (02, "The crew role table"). -/
def roles : Nat := 32
/-- Zones of the ship (02, "The cabin table"). -/
def zones : Nat := 64
/-- Entries of the watch set (R67). -/
def watchSize : Nat := 64
/-- Slots of the folio table (05, "The folio table"). -/
def folioSlots : Nat := 8192
/-- Members one folio may have (R101). -/
def folioMembers : Nat := 8
/-- Open tabs one folio may secure (R109). -/
def folioTabs : Nat := 4
/-- Venues of the venue table (06, "The venue table"). -/
def venues : Nat := 128
/-- Entries of the tab table (07, "The tab table"). -/
def tabEntries : Nat := 1024
/-- Largest tab number (R142). -/
def lastTabNumber : Nat := 65535
/-- Terminals of one port (08, "The terminal table"). -/
def terminalsPerPort : Nat := 64
/-- Frames one request queue may hold (R164). -/
def queueSize : Nat := 8
/-- Largest body of a terminal frame (R159). -/
def frameBody : Nat := 60
/-- Largest body of a management frame (R178). -/
def managementBody : Nat := 1024
/-- Muster stations (R89). -/
def stations : Nat := 16
/-- Gangways (08, "The terminal table"). -/
def gangways : Nat := 8

/-- FREE VALUE (log 5). The run time that follows 4,294,967,295: R75 says that run time does not reach the top
of its range in service and states nothing of what follows. -/
opaque runTimeAfterTop : BitVec 32

/-- FREE VALUE (log 6). Whether a presence byte that is neither 00h nor 01h counts, in the size of a management
body, as announcing its field: R178 gives the two codes and states nothing of the others. -/
opaque strayPresence : Byte → Bool

end Sys2Proof.Config
end

