-- ==== Sys2Proof/Machine/State.lean ====
section
/-! DEFINITION. The state of the part as plain data, one structure for each block that owns state
(00, "Block overview"), and the state after a power-on reset (R191). A slot, entry or number that a sparse
table does not list is FREE, free, unknown or at its power-on value. -/

namespace Sys2Proof.Machine

/-! ## Coded values (R167) -/

/-- Life state of a record that is not FREE (R1); a FREE slot is one the record table does not list. -/
inductive Life | active | held
  deriving DecidableEq, Repr

/-- The kind of person a record describes. -/
inductive PersonClass | guestAdult | guestMinor | crew | visitor
  deriving DecidableEq, Repr

/-- Where a record stands (R51). -/
inductive Location | notEmbarked | aboard | ashore | disembarked
  deriving DecidableEq, Repr

/-- The direction of a gangway pass (R52). -/
inductive Direction | outbound | inbound
  deriving DecidableEq, Repr

/-- Which location changes of a record are reported (R20, R66). -/
inductive WatchMode | none | onAshore | onAboard | any
  deriving DecidableEq, Repr

/-- The kind of a credential (01, the record table). -/
inductive CredentialKind | card | band
  deriving DecidableEq, Repr

/-- The status of an entry of the credential index (R3). -/
inductive CredentialStatus | active | pending
  deriving DecidableEq, Repr

/-- Why a credential was revoked (R5). -/
inductive RevocationReason | lost | replaced | retired | host
  deriving DecidableEq, Repr

/-- The door mode of a cabin (02, the cabin table). -/
inductive CabinMode | normal | privacy | service | lockout
  deriving DecidableEq, Repr

/-- What a wrong-direction pass gives (R62). -/
inductive Passback | hard | soft
  deriving DecidableEq, Repr

/-- The ship's phase (R83). -/
inductive Phase | atSea | inPort | cutoff | muster
  deriving DecidableEq, Repr

/-- Whether the part has been told the time (R76). -/
inductive TimeStatus | unset | set
  deriving DecidableEq, Repr

/-- Credit state of a folio that is not FREE (05, the folio table). -/
inductive FolioState | active | grace | suspended | closed
  deriving DecidableEq, Repr

/-- Why a folio is suspended. -/
inductive SuspensionCause | limit | ceiling | host
  deriving DecidableEq, Repr

/-- How a LIMIT or CEILING suspension ends. -/
inductive ResumeMode | auto | latched
  deriving DecidableEq, Repr

/-- The kind of a venue (06, the venue table). -/
inductive Category | bar | dining | retail | spa | services
  deriving DecidableEq, Repr

/-- The standalone policy of a venue category (R134). -/
inductive StandalonePolicy | hold | cap
  deriving DecidableEq, Repr

/-- The kind of a terminal (R169). -/
inductive TerminalKind | lock | pos | gangway | muster | kiosk
  deriving DecidableEq, Repr

/-- What a terminal serves (08, the terminal table). -/
inductive Binding
  | cabin (n : Nat) | zone (n : Nat) | venue (n : Nat) | gangway (n : Nat) | station (n : Nat)
  deriving DecidableEq, Repr

/-- Whether a port has been quiet (R168). -/
inductive Silence | active | silent
  deriving DecidableEq, Repr

/-- The service state (R183). -/
inductive Service | loading | serving | standalone
  deriving DecidableEq, Repr

/-- The port state of the management port (R179). -/
inductive PortState | idle | working | replyWaiting
  deriving DecidableEq, Repr

/-- The seventeen conditions, in the order of their codes (R167, R192). -/
inductive Condition
  | allAboard | allClear | ashoreAtSailing | watchHit | watchOverflow | tabExpired | tabAshore | reserveExpired
  | revokedPresented | revokeOverflow | refusal | folioSuspended | standalone | capacity | portSilent
  | portErrors | dayRollover
  deriving DecidableEq, Repr

/-- The tables whose occupancy is reported (R195). -/
inductive CapacityTable | records | credentials | revocations | tabs
  deriving DecidableEq, Repr

/-- The level of a reported table (R195). -/
inductive CapacityLevel | below | at
  deriving DecidableEq, Repr

/-- The capacity latch mode (R195). -/
inductive LatchMode | latched | live
  deriving DecidableEq, Repr

/-- The acknowledge mode (R196). -/
inductive AckMode | readClears | explicit
  deriving DecidableEq, Repr

/-- The line mode of the NOTICE line (R199, R200). -/
inductive LineMode | level | pulse
  deriving DecidableEq, Repr

/-- The terminal results (R177). -/
inductive Result
  | ok | okGrace | repeated | passbackNoted | okElsewhere
  | denyUnknown | denyRevoked | denyPending | denyHeld | denyDeparted | denyNotEmbarked | denyAshore
  | denyPassback | denyPhase
  | denyNotOccupant | denyPrivacy | denyLockout | denyZone | denyMode
  | denyClass | denyVenueClosed | denyLimit | denySuspended | denyCap | denyTabLimit | denyTabUnknown
  | denyWrongVenue | denyFolioClosed | denyTableFull
  | wrongTerminal | terminalDisabled | badRequest | range
  | notReady | portFull
  deriving DecidableEq, Repr

/-- The reply codes of the management port (R182). -/
inductive ReplyCode
  | done | unknownKind | badRequest | range | notFound | wrongState | duplicate | full | tabsOpen | folioOpen
  | standalone | timeNotSet | stillOver | revokedNumber | credFull
  deriving DecidableEq, Repr

/-! ## Families of like things -/

/-- One value for each class. -/
structure ByClass (α : Type) where
  guestAdult : α
  guestMinor : α
  crew : α
  visitor : α
  deriving DecidableEq, Repr

/-- One value for each location. -/
structure ByLocation (α : Type) where
  notEmbarked : α
  aboard : α
  ashore : α
  disembarked : α
  deriving DecidableEq, Repr

/-- One value for each venue category. -/
structure ByCategory (α : Type) where
  bar : α
  dining : α
  retail : α
  spa : α
  services : α
  deriving DecidableEq, Repr

/-- One value for each reported table. -/
structure ByTable (α : Type) where
  records : α
  credentials : α
  revocations : α
  tabs : α
  deriving DecidableEq, Repr

/-! ## Terminal ports -/

/-- A request frame that has arrived (R159, R161): SYNC, LENGTH and the check sum are spent. -/
structure Frame where
  term : Nat
  tag : Byte
  kind : Byte
  body : List Byte
  deriving DecidableEq, Repr

/-- A reply frame (R166); `Operands.replyFrameBytes` gives its bytes on the link. -/
structure TerminalReply where
  term : Nat
  tag : Byte
  result : Result
  body : List Byte
  deriving DecidableEq, Repr

/-- The request that a port has in hand: its frame, judged at its take, and the reply that is decided next (R165, R166;
log 33). -/
structure InHand where
  frame : Frame
  reply : TerminalReply
  deriving DecidableEq, Repr

/-- The receiver of a port (R160). In FRAME it holds the bytes collected after SYNC and the time of the last
byte of the frame, in milliseconds of run time. -/
inductive Receiver
  | hunt
  | frame (collected : List Byte) (lastByteAt : Nat)
  deriving DecidableEq, Repr

/-- One terminal port (08). -/
structure PortBlock where
  /-- The request queue, oldest first (R164). -/
  queue : List Frame
  /-- The request the port has taken, until its reply is decided (R165). -/
  inHand : Option InHand
  receiver : Receiver
  /-- A frame collected whole (LENGTH to the last check-sum byte) whose frame checks come next (R160, R161; log 7). -/
  whole : Option (List Byte)
  /-- The error counter (R163). -/
  errors : Nat
  silence : Silence
  /-- The silence timer: its expiry run time, or stopped (R168). -/
  silenceExpiry : Option Nat
  /-- Run time of the last arrival (R176). -/
  lastArrival : Option Nat
  /-- The replies decided at the port since power-on, in the order decided (R166; log 8). -/
  replies : List TerminalReply
  deriving DecidableEq, Repr

/-- An entry of the terminal table (R169). -/
structure TerminalEntry where
  kind : Option TerminalKind
  binding : Option Binding
  enabled : Bool
  deriving DecidableEq, Repr

/-! ## Management port and settings -/

/-- The request of the one-deep request slot (09). -/
structure ManagementRequest where
  kind : Byte
  body : List Byte
  deriving DecidableEq, Repr

/-- The reply of the reply slot (R181). -/
structure ManagementReply where
  kind : Byte
  code : ReplyCode
  body : List Byte
  deriving DecidableEq, Repr

/-- The management port (R179 to R186). -/
structure ManagementPort where
  state : PortState
  rejected : Bool
  request : Option ManagementRequest
  reply : ManagementReply
  service : Service
  /-- The standalone entry time (R183). -/
  standaloneSince : Option Nat
  /-- The server watchdog: its expiry run time, or stopped (R185). -/
  watchdog : Option Nat
  /-- The bytes the part shifted out in the last transaction (R178 to R181; log 9). -/
  shiftedOut : List Byte
  deriving DecidableEq, Repr

/-- The settings record (09, the table of settings). -/
structure Settings where
  reservationCode : Nat
  blankingCode : Nat
  rolloverHour : Nat
  watchdogCode : Nat
  policies : ByCategory StandalonePolicy
  standaloneLimit : Nat
  /-- Notice enables, bit n for the condition coded n (R193). -/
  enables : BitVec 17
  /-- Refusal selection mask, bit n for the result coded n (R194). -/
  refusalMask : BitVec 88
  threshold : Nat
  latchMode : LatchMode
  ackMode : AckMode
  lineMode : LineMode
  pulseCode : Nat
  holdoff : Nat
  deriving DecidableEq, Repr

/-! ## Record store -/

/-- An active credential of a record. -/
structure Credential where
  number : Nat
  kind : CredentialKind
  deriving DecidableEq, Repr

/-- The reservation in progress of a record: its pending field (R11). -/
structure Reservation where
  number : Nat
  kind : CredentialKind
  replaces : Option Nat
  expiry : Nat
  deriving DecidableEq, Repr

/-- The last passage of a record (R52). -/
structure Passage where
  gangway : Nat
  direction : Direction
  time : Nat
  deriving DecidableEq, Repr

/-- A record that is not FREE (01, the record table). -/
structure Record where
  life : Life
  cls : PersonClass
  reference : Nat
  folio : Nat
  role : Option Nat
  homeCabin : Option Nat
  secondCabin : Option Nat
  location : Location
  final : Bool
  lastPassage : Option Passage
  station : Nat
  musterFlag : Bool
  musteredAt : Option Nat
  tier : Nat
  /-- Drinks used today, U. -/
  drinks : Nat
  /-- Daily cap, Q. -/
  cap : Option Nat
  /-- Spend today, Y. -/
  spend : Nat
  spendPrevious : Nat
  message : Nat
  shows : Nat
  watchMode : WatchMode
  credentials : List Credential
  reservation : Option Reservation
  deriving DecidableEq, Repr

/-- An entry of the credential index (R3). -/
structure IndexEntry where
  slot : Nat
  status : CredentialStatus
  deriving DecidableEq, Repr

/-- An entry of the revocation list (R5). -/
structure Revocation where
  number : Nat
  slot : Nat
  reason : RevocationReason
  time : Nat
  deriving DecidableEq, Repr

/-- The record store (01): records by slot, the index by credential number, and the revocation list, oldest first. -/
structure RecordStore where
  records : Table Record
  index : Table IndexEntry
  revoked : List Revocation
  deriving DecidableEq, Repr

/-! ## Access unit -/

/-- An entry of the cabin table (R28). -/
structure Cabin where
  zone : Nat
  occupants : List Nat
  mode : CabinMode
  deriving DecidableEq, Repr

/-- An entry of the crew role table (R39); bit n of the zone set is zone n. -/
structure Role where
  zones : BitVec 64
  cabin : Bool
  privacyOverride : Bool
  lockoutOverride : Bool
  sweep : Bool
  deriving DecidableEq, Repr

/-- An entry of the class-policy table (R41, R62). -/
structure ClassPolicy where
  ashoreCheck : Bool
  passback : Passback
  deriving DecidableEq, Repr

/-- The access unit (02). -/
structure AccessUnit where
  cabins : Table Cabin
  roles : Table Role
  policies : ByClass ClassPolicy
  deriving DecidableEq, Repr

/-! ## Passage unit, phase and muster unit, time base -/

/-- An entry of the watch set (R67). -/
structure WatchEntry where
  slot : Nat
  wentAshore : Bool
  cameAboard : Bool
  deriving DecidableEq, Repr

/-- The count matrix and the watch set, oldest entry first (R53, R67). -/
structure PassageUnit where
  counts : ByClass (ByLocation Nat)
  watch : List WatchEntry
  deriving DecidableEq, Repr

/-- The phase and muster unit (R83, R89); a station that `tallies` does not list has tally 0. -/
structure MusterUnit where
  phase : Phase
  savedPhase : Option Phase
  mustered : ByClass Nat
  tallies : Table Nat
  deriving DecidableEq, Repr

/-- The time base (R75, R76, R78). -/
structure TimeBase where
  runTime : Nat
  millis : Nat
  status : TimeStatus
  offset : Option Int
  lastRolled : Option Int
  deriving DecidableEq, Repr

/-! ## Folios, venues, tabs -/

/-- A folio that is not FREE (05, the folio table). -/
structure Folio where
  state : FolioState
  cause : Option SuspensionCause
  resumeMode : ResumeMode
  /-- Soft limit, L. -/
  soft : Nat
  /-- Hard ceiling, M. -/
  hard : Nat
  /-- Grace allowance, Gc. -/
  allowance : Nat
  /-- Grace remaining, G. -/
  grace : Nat
  /-- Balance, B. -/
  balance : Int
  /-- Holds, H. -/
  holds : Nat
  /-- Prepaid credit, P. -/
  prepaid : Nat
  openTabs : Nat
  members : Nat
  spend : Nat
  spendPrevious : Nat
  deriving DecidableEq, Repr

/-- An entry of the venue table (06); bit n of the class set is the class coded n. -/
structure Venue where
  category : Category
  rate : Nat
  classes : BitVec 4
  isOpen : Bool
  timeoutCode : Nat
  deriving DecidableEq, Repr

/-- An entry of the package tier table (R125). -/
structure Tier where
  cap : Nat
  count : Nat
  deriving DecidableEq, Repr

/-- The charge unit (06): venues by number, tiers by number 1 to 7. -/
structure ChargeUnit where
  venues : Table Venue
  tiers : Table Tier
  deriving DecidableEq, Repr

/-- An open tab (07, the tab table). -/
structure Tab where
  number : Nat
  folio : Nat
  opener : Nat
  venue : Nat
  hold : Nat
  opened : Nat
  expiry : Nat
  deriving DecidableEq, Repr

/-- The tab table (R141, R142): open tabs by entry, and the next-number counter. -/
structure TabTable where
  entries : Table Tab
  nextNumber : Nat
  deriving DecidableEq, Repr

/-! ## Notice unit -/

/-- The last-refusal record (R194). -/
structure Refused where
  port : Port
  term : Nat
  result : Result
  credential : Option Nat
  slot : Option Nat
  time : Nat
  deriving DecidableEq, Repr

/-- The line state of the NOTICE line, with the end of a pulse or holdoff in milliseconds of run time (R198). -/
inductive Line
  | negated
  | asserted
  | pulse (ends : Nat)
  | holdoff (ends : Nat)
  deriving DecidableEq, Repr

/-- The notice unit (10). `pending` has bit n for the condition coded n; the bits of WATCH_HIT and CAPACITY stay
clear there, because those two follow the watch set and the capacity flags (R192, R195). -/
structure NoticeUnit where
  pending : BitVec 17
  silentPorts : BitVec 6
  errorPorts : BitVec 6
  levels : ByTable CapacityLevel
  flags : ByTable Bool
  lastRefusal : Option Refused
  line : Line
  owed : Bool
  deriving DecidableEq, Repr

/-! ## The whole part -/

/-- The state of the part, and the queue of the commands that wait, first in, first out. -/
structure State where
  ports : Vector PortBlock 6
  terminals : Table TerminalEntry
  management : ManagementPort
  settings : Settings
  store : RecordStore
  access : AccessUnit
  passage : PassageUnit
  muster : MusterUnit
  clock : TimeBase
  folios : Table Folio
  charge : ChargeUnit
  tabs : TabTable
  notice : NoticeUnit
  pending : List Instr
  deriving DecidableEq, Repr

/-! ## Power-on values (R191) -/

/-- A terminal port after power-on reset (R160, R163, R164, R168, R176). -/
def PortBlock.powerOn : PortBlock where
  queue := []
  inHand := none
  receiver := .hunt
  whole := none
  errors := 0
  silence := .silent
  silenceExpiry := none
  lastArrival := none
  replies := []

/-- The management port after power-on reset (R179, R181, R183, R185). -/
def ManagementPort.powerOn : ManagementPort where
  state := .idle
  rejected := false
  request := none
  reply := { kind := 0, code := .done, body := [] }
  service := .loading
  standaloneSince := none
  watchdog := none
  shiftedOut := []

/-- The settings record after power-on reset (09, the table of settings). -/
def Settings.powerOn : Settings where
  reservationCode := 2
  blankingCode := 1
  rolloverHour := 4
  watchdogCode := 0
  policies := { bar := .cap, dining := .cap, retail := .cap, spa := .cap, services := .cap }
  standaloneLimit := 20000
  enables := BitVec.allOnes 17
  refusalMask := 0
  threshold := 90
  latchMode := .latched
  ackMode := .explicit
  lineMode := .level
  pulseCode := 1
  holdoff := 0

/-- The class policies after power-on reset (R41, R62). -/
def ClassPolicy.powerOn : ByClass ClassPolicy where
  guestAdult := { ashoreCheck := true, passback := .hard }
  guestMinor := { ashoreCheck := true, passback := .hard }
  crew := { ashoreCheck := false, passback := .soft }
  visitor := { ashoreCheck := true, passback := .hard }

/-- The notice unit after power-on reset (R192, R194, R195, R198). -/
def NoticeUnit.powerOn : NoticeUnit where
  pending := 0
  silentPorts := 0
  errorPorts := 0
  levels := { records := .below, credentials := .below, revocations := .below, tabs := .below }
  flags := { records := false, credentials := false, revocations := false, tabs := false }
  lastRefusal := none
  line := .negated
  owed := false

/-- Four counts of 0, one for each location. -/
def ByLocation.zero : ByLocation Nat := { notEmbarked := 0, aboard := 0, ashore := 0, disembarked := 0 }

/-- The part right after a power-on reset (R191). -/
def State.reset : State where
  ports := Vector.replicate 6 PortBlock.powerOn
  terminals := []
  management := ManagementPort.powerOn
  settings := Settings.powerOn
  store := { records := [], index := [], revoked := [] }
  access := { cabins := [], roles := [], policies := ClassPolicy.powerOn }
  passage :=
    { counts := { guestAdult := .zero, guestMinor := .zero, crew := .zero, visitor := .zero }, watch := [] }
  muster :=
    { phase := .atSea, savedPhase := none,
      mustered := { guestAdult := 0, guestMinor := 0, crew := 0, visitor := 0 }, tallies := [] }
  clock := { runTime := 0, millis := 0, status := .unset, offset := none, lastRolled := none }
  folios := []
  charge := { venues := [], tiers := [] }
  tabs := { entries := [], nextNumber := 1 }
  notice := NoticeUnit.powerOn
  pending := []

/-! ## Outcomes other than a next state -/

/-- The reasons the machine stops. The manual describes no event at which the part stops: a request that fails
a check is answered with a code, and a frame that fails one is dropped. So there is no fault, and none is raised. -/
inductive Fault
  deriving DecidableEq, Repr

/-- The reasons the model gives no meaning. -/
inductive Refusal
  /-- Raised by an arm of `exec` whose command has no meaning in the model yet; safe. No arm raises it now. -/
  | notModelled (mnemonic : String)
  deriving DecidableEq, Repr

end Sys2Proof.Machine
end

