-- ==== Sys2Proof/Machine/Tables.lean ====
section
/-! DEFINITION. Reading and writing a sparse table. Its one canonical form (`Table.wf`) has the keys strictly
rising; an entry at its power-on value is not listed where `Table.putValue` writes it. Laws/Tables.lean says once what each
operation does. -/

namespace Sys2Proof.Table

variable {α : Type}

/-- The entry at a key, if the table lists one. -/
def find : Table α → Nat → Option α
  | [], _ => none
  | (j, v) :: t, k => if j = k then some v else find t k

/-- The table with an entry written at its place in the order of the keys. -/
def put : Table α → Nat → α → Table α
  | [], k, v => [(k, v)]
  | (j, w) :: t, k, v =>
    if k < j then (k, v) :: (j, w) :: t else if k = j then (k, v) :: t else (j, w) :: put t k v

/-- The table without its entry at a key. -/
def drop : Table α → Nat → Table α
  | [], _ => []
  | (j, w) :: t, k => if j = k then t else (j, w) :: drop t k

/-- The entry at a key, or the power-on value of an entry that is not listed. -/
def value (t : Table α) (initial : α) (k : Nat) : α := (find t k).getD initial

/-- Writes an entry of a table whose every entry exists: the power-on value is not listed. -/
def putValue [DecidableEq α] (t : Table α) (initial : α) (k : Nat) (v : α) : Table α :=
  if v = initial then drop t k else put t k v

/-- Every entry changed by one function of its value, the keys kept. -/
def mapValues (f : α → α) (t : Table α) : Table α := t.map fun e => (e.1, f e.2)

/-- The keys of a table, in their order. -/
def keys (t : Table α) : List Nat := t.map Prod.fst

/-- The lowest key from `k` on, among `n` keys, at which the table lists nothing. -/
def lowestFree (t : Table α) : Nat → Nat → Option Nat
  | 0, _ => none
  | n + 1, k => if (find t k).isNone then some k else lowestFree t n (k + 1)

/-- The canonical form: the keys strictly rise. -/
def wf : Table α → Bool
  | [] => true
  | [_] => true
  | (j, _) :: (k, w) :: t => decide (j < k) && wf ((k, w) :: t)

end Sys2Proof.Table
end

