-- ==== Sys2Proof/Machine/Operands.lean ====
section
/-! DEFINITION. The operand forms of the part: the codes of R167, R177 and R182, numbers as bytes, the check sum
of R162, the splitting of a management body into its fields (R178), the fields of each request, and the bytes of a
reply. -/

namespace Sys2Proof.Machine

/-! ## Codes (R167, R171, R177, R182) -/

def flagCode (b : Bool) : Nat := if b then 1 else 0

def flagOf : Nat → Option Bool
  | 0 => some false
  | 1 => some true
  | _ => none

/-- Code of the state of a record slot: FREE when the record table lists none (R167). -/
def recordStateCode : Option Life → Nat
  | none => 0
  | some .active => 1
  | some .held => 2

def classCode : PersonClass → Nat
  | .guestAdult => 0
  | .guestMinor => 1
  | .crew => 2
  | .visitor => 3

def classOf : Nat → Option PersonClass
  | 0 => some .guestAdult
  | 1 => some .guestMinor
  | 2 => some .crew
  | 3 => some .visitor
  | _ => none

def locationCode : Location → Nat
  | .notEmbarked => 0
  | .aboard => 1
  | .ashore => 2
  | .disembarked => 3

def locationOf : Nat → Option Location
  | 0 => some .notEmbarked
  | 1 => some .aboard
  | 2 => some .ashore
  | 3 => some .disembarked
  | _ => none

def directionCode : Direction → Nat
  | .outbound => 0
  | .inbound => 1

def directionOf : Nat → Option Direction
  | 0 => some .outbound
  | 1 => some .inbound
  | _ => none

def cabinModeCode : CabinMode → Nat
  | .normal => 0
  | .privacy => 1
  | .service => 2
  | .lockout => 3

def cabinModeOf : Nat → Option CabinMode
  | 0 => some .normal
  | 1 => some .privacy
  | 2 => some .service
  | 3 => some .lockout
  | _ => none

def credentialKindCode : CredentialKind → Nat
  | .card => 0
  | .band => 1

def credentialKindOf : Nat → Option CredentialKind
  | 0 => some .card
  | 1 => some .band
  | _ => none

def reasonCode : RevocationReason → Nat
  | .lost => 0
  | .replaced => 1
  | .retired => 2
  | .host => 3

def watchModeCode : WatchMode → Nat
  | .none => 0
  | .onAshore => 1
  | .onAboard => 2
  | .any => 3

def watchModeOf : Nat → Option WatchMode
  | 0 => some .none
  | 1 => some .onAshore
  | 2 => some .onAboard
  | 3 => some .any
  | _ => none

def passbackOf : Nat → Option Passback
  | 0 => some .hard
  | 1 => some .soft
  | _ => none

def phaseCode : Phase → Nat
  | .atSea => 0
  | .inPort => 1
  | .cutoff => 2
  | .muster => 3

def phaseOf : Nat → Option Phase
  | 0 => some .atSea
  | 1 => some .inPort
  | 2 => some .cutoff
  | 3 => some .muster
  | _ => none

def timeStatusCode : TimeStatus → Nat
  | .unset => 0
  | .set => 1

def folioStateCode : FolioState → Nat
  | .active => 1
  | .grace => 2
  | .suspended => 3
  | .closed => 4

def causeCode : SuspensionCause → Nat
  | .limit => 0
  | .ceiling => 1
  | .host => 2

def resumeModeCode : ResumeMode → Nat
  | .auto => 0
  | .latched => 1

def resumeModeOf : Nat → Option ResumeMode
  | 0 => some .auto
  | 1 => some .latched
  | _ => none

def categoryCode : Category → Nat
  | .bar => 0
  | .dining => 1
  | .retail => 2
  | .spa => 3
  | .services => 4

def categoryOf : Nat → Option Category
  | 0 => some .bar
  | 1 => some .dining
  | 2 => some .retail
  | 3 => some .spa
  | 4 => some .services
  | _ => none

def policyCode : StandalonePolicy → Nat
  | .hold => 0
  | .cap => 1

def policyOf : Nat → Option StandalonePolicy
  | 0 => some .hold
  | 1 => some .cap
  | _ => none

def terminalKindCode : TerminalKind → Nat
  | .lock => 0
  | .pos => 1
  | .gangway => 2
  | .muster => 3
  | .kiosk => 4

def terminalKindOf : Nat → Option TerminalKind
  | 0 => some .lock
  | 1 => some .pos
  | 2 => some .gangway
  | 3 => some .muster
  | 4 => some .kiosk
  | _ => none

/-- The number a binding names. -/
def Binding.number : Binding → Nat
  | .cabin n => n
  | .zone n => n
  | .venue n => n
  | .gangway n => n
  | .station n => n

/-- The marker byte of a binding (R167). -/
def Binding.marker : Binding → Nat
  | .cabin _ => 0
  | .zone _ => 1
  | .venue _ => 2
  | .gangway _ => 3
  | .station _ => 4

def silenceCode : Silence → Nat
  | .active => 0
  | .silent => 1

def serviceCode : Service → Nat
  | .loading => 0
  | .serving => 1
  | .standalone => 2

def conditionCode : Condition → Nat
  | .allAboard => 0
  | .allClear => 1
  | .ashoreAtSailing => 2
  | .watchHit => 3
  | .watchOverflow => 4
  | .tabExpired => 5
  | .tabAshore => 6
  | .reserveExpired => 7
  | .revokedPresented => 8
  | .revokeOverflow => 9
  | .refusal => 10
  | .folioSuspended => 11
  | .standalone => 12
  | .capacity => 13
  | .portSilent => 14
  | .portErrors => 15
  | .dayRollover => 16

def levelCode : CapacityLevel → Nat
  | .below => 0
  | .at => 1

def latchModeCode : LatchMode → Nat
  | .latched => 0
  | .live => 1

def latchModeOf : Nat → Option LatchMode
  | 0 => some .latched
  | 1 => some .live
  | _ => none

def ackModeCode : AckMode → Nat
  | .readClears => 0
  | .explicit => 1

def ackModeOf : Nat → Option AckMode
  | 0 => some .readClears
  | 1 => some .explicit
  | _ => none

def lineModeCode : LineMode → Nat
  | .level => 0
  | .pulse => 1

def lineModeOf : Nat → Option LineMode
  | 0 => some .level
  | 1 => some .pulse
  | _ => none

def lineCode : Line → Nat
  | .negated => 0
  | .asserted => 1
  | .pulse _ => 2
  | .holdoff _ => 3

/-- Terminal result codes (R177). -/
def Result.code : Result → Byte
  | .ok => 0x00
  | .okGrace => 0x01
  | .repeated => 0x02
  | .passbackNoted => 0x03
  | .okElsewhere => 0x04
  | .denyUnknown => 0x10
  | .denyRevoked => 0x11
  | .denyPending => 0x12
  | .denyHeld => 0x13
  | .denyDeparted => 0x14
  | .denyNotEmbarked => 0x15
  | .denyAshore => 0x16
  | .denyPassback => 0x17
  | .denyPhase => 0x18
  | .denyNotOccupant => 0x20
  | .denyPrivacy => 0x21
  | .denyLockout => 0x22
  | .denyZone => 0x23
  | .denyMode => 0x24
  | .denyClass => 0x30
  | .denyVenueClosed => 0x31
  | .denyLimit => 0x32
  | .denySuspended => 0x33
  | .denyCap => 0x34
  | .denyTabLimit => 0x35
  | .denyTabUnknown => 0x36
  | .denyWrongVenue => 0x37
  | .denyFolioClosed => 0x38
  | .denyTableFull => 0x39
  | .wrongTerminal => 0x40
  | .terminalDisabled => 0x41
  | .badRequest => 0x42
  | .range => 0x43
  | .notReady => 0x50
  | .portFull => 0x51

/-- The results that are refusals: every one outside the OK class (00, "Requests, replies and results"). -/
def Result.isRefusal : Result → Bool
  | .ok | .okGrace | .repeated | .passbackNoted | .okElsewhere => false
  | _ => true

/-- The codes that a refusal selection mask may hold, bit n for the code n (R194). -/
def refusalCodes : BitVec 88 :=
  [0x10, 0x11, 0x12, 0x13, 0x14, 0x15, 0x16, 0x17, 0x18, 0x20, 0x21, 0x22, 0x23, 0x24, 0x30, 0x31, 0x32, 0x33,
    0x34, 0x35, 0x36, 0x37, 0x38, 0x39, 0x40, 0x41, 0x42, 0x43, 0x50, 0x51].foldl
    (fun m n => m ||| ((1 : BitVec 88) <<< (n : Nat))) 0

/-- Reply codes (R182). -/
def ReplyCode.code : ReplyCode → Byte
  | .done => 0x00
  | .unknownKind => 0x61
  | .badRequest => 0x62
  | .range => 0x63
  | .notFound => 0x64
  | .wrongState => 0x65
  | .duplicate => 0x66
  | .full => 0x67
  | .tabsOpen => 0x68
  | .folioOpen => 0x69
  | .standalone => 0x6A
  | .timeNotSet => 0x6B
  | .stillOver => 0x6C
  | .revokedNumber => 0x6D
  | .credFull => 0x6E

/-- The kind codes of R182. -/
def managementKinds : List Byte :=
  [0x01, 0x02, 0x03, 0x04, 0x05, 0x06, 0x07, 0x08, 0x09, 0x0A, 0x0B, 0x0C, 0x0D, 0x0E, 0x0F, 0x10, 0x11,
    0x20, 0x21, 0x22, 0x23, 0x24, 0x25, 0x26, 0x27, 0x28, 0x30, 0x31, 0x32, 0x33,
    0x38, 0x39, 0x3A, 0x3B, 0x3C, 0x3D,
    0x40, 0x41, 0x42, 0x43, 0x44, 0x45, 0x46, 0x47, 0x48, 0x49, 0x4A, 0x4B,
    0x50, 0x51, 0x52, 0x53, 0x54, 0x58, 0x59, 0x5A, 0x60, 0x61, 0x62, 0x63, 0x64,
    0x70, 0x71, 0x72, 0x73, 0x74, 0x75, 0x78, 0x79]

/-- The kinds that R182 marks accepted in STANDALONE. -/
def standaloneKinds : List Byte :=
  [0x0F, 0x10, 0x11, 0x27, 0x28, 0x31, 0x32, 0x33, 0x39, 0x3D, 0x4B, 0x53, 0x54, 0x59, 0x5A, 0x63, 0x64,
    0x71, 0x72, 0x74, 0x75, 0x78, 0x79]

/-- The request kinds of a terminal frame (R171). -/
def terminalKinds : List Byte := [0x00, 0x10, 0x11, 0x20, 0x21, 0x22, 0x23, 0x30, 0x31, 0x40]

/-! ## Numbers as bytes -/

/-- The number that bytes spell, most significant byte first (R159, R178). -/
def number (bs : List Byte) : Nat := bs.foldl (fun a b => a * 256 + b.toNat) 0

/-- A number in `n` bytes, most significant byte first. -/
def bytes : Nat → Nat → List Byte
  | 0, _ => []
  | n + 1, v => BitVec.ofNat 8 (v / 256 ^ n) :: bytes n v

/-- A signed number in `n` bytes, two's complement (R178). -/
def signedBytes (n : Nat) (v : Int) : List Byte := bytes n (v % (256 ^ n : Nat)).toNat

/-- A number of `n` bytes read as two's complement (R178). -/
def signedNumber (n v : Nat) : Int := if v < 256 ^ n / 2 then v else (v : Int) - (256 ^ n : Nat)

/-- A field that may be absent: the presence byte, and the field when present (R166, R178). -/
def optional {α : Type} (f : α → List Byte) : Option α → List Byte
  | none => [0x00]
  | some a => 0x01 :: f a

/-- A list or run of entries: the count byte, and the entries (R178). -/
def listBytes {α : Type} (f : α → List Byte) (l : List α) : List Byte :=
  bytes 1 l.length ++ l.flatMap f

/-- A coded value or flag, in one byte (R167). -/
def byte (n : Nat) : List Byte := bytes 1 n

/-- A flag in one byte (R167). -/
def flagByte (b : Bool) : List Byte := byte (flagCode b)

/-! ## The check sum (R162) -/

/-- One bit of the register of the check sum: the generator is 1021h. -/
def crcBit (r : BitVec 16) : BitVec 16 := if r.msb then (r <<< 1) ^^^ 0x1021 else r <<< 1

/-- One byte enters the register, most significant bit first. -/
def crcByte (r : BitVec 16) (b : Byte) : BitVec 16 :=
  crcBit (crcBit (crcBit (crcBit (crcBit (crcBit (crcBit (crcBit (r ^^^ (b.setWidth 16 <<< 8)))))))))

/-- The check sum of a run of bytes: the register starts at FFFFh. -/
def checkSum (bs : List Byte) : BitVec 16 := bs.foldl crcByte 0xFFFF

/-- The two check-sum bytes, high byte first. -/
def checkSumBytes (bs : List Byte) : List Byte := bytes 2 (checkSum bs).toNat

/-! ## Frames on the wires -/

/-- A reply frame as its bytes on the link (R159, R166). -/
def replyFrameBytes (r : TerminalReply) : List Byte :=
  let sum := bytes 1 r.body.length ++ bytes 1 r.term ++ [r.tag, r.result.code] ++ r.body
  0xC3 :: sum ++ checkSumBytes sum

/-- A management reply frame as its bytes (R178). -/
def managementReplyBytes (r : ManagementReply) : List Byte :=
  let sum := [r.kind, r.code.code] ++ bytes 2 r.body.length ++ r.body
  sum ++ checkSumBytes sum

/-- Whether the bytes of a write frame match their body length and check sum (R178, R180). -/
def managementFrameGood (bs : List Byte) : Bool :=
  let length := number ((bs.drop 1).take 2)
  decide (5 ≤ bs.length) && decide (length ≤ Config.managementBody) && decide (bs.length = length + 5) &&
    decide (bs.drop (length + 3) = checkSumBytes (bs.take (length + 3)))

/-! ## Splitting a management body (R178) -/

/-- A field of a request body: a number of bytes, or a presence byte and then that number of bytes. -/
inductive Field
  | fixed (n : Nat)
  | optional (n : Nat)
  deriving DecidableEq, Repr

/-- What a body holds at a field: a number, nothing, or a presence byte outside 00h and 01h. -/
inductive Chunk
  | here (v : Nat)
  | absent
  | stray
  deriving DecidableEq, Repr

/-- The chunks of a body that has exactly the size its fields give; `none` for a body of the wrong size.
A stray presence byte counts in the size as `Config.strayPresence` has it (log 6). -/
def split : List Field → List Byte → Option (List Chunk)
  | [], [] => some []
  | [], _ :: _ => none
  | .fixed n :: fs, bs =>
    if bs.length < n then none else (split fs (bs.drop n)).map (Chunk.here (number (bs.take n)) :: ·)
  | .optional _ :: _, [] => none
  | .optional n :: fs, b :: bs =>
    if b = 0x00 then (split fs bs).map (Chunk.absent :: ·)
    else if b = 0x01 then
      if bs.length < n then none else (split fs (bs.drop n)).map (Chunk.here (number (bs.take n)) :: ·)
    else if Config.strayPresence b then
      if bs.length < n then none else (split fs (bs.drop n)).map (Chunk.stray :: ·)
    else (split fs bs).map (Chunk.stray :: ·)

/-- What the size and range checks of a request find in its body (R2, R100, R182). -/
inductive Parsed (α : Type)
  | good (a : α)
  | badRequest
  | range
  deriving DecidableEq, Repr

/-- A field that may be absent, read as an optional number that passes a test; `none` when it fails its range. -/
def Chunk.optionalNumber (test : Nat → Bool) : Chunk → Option (Option Nat)
  | .here v => if test v then some (some v) else none
  | .absent => some none
  | .stray => none

/-- The size check, and then the range check of the fields: a range failure is RANGE. -/
def fields {α : Type} (layout : List Field) (body : List Byte) (read : List Chunk → Option α) : Parsed α :=
  match split layout body with
  | none => .badRequest
  | some cs =>
    match read cs with
    | some a => .good a
    | none => .range

def slotGood (v : Nat) : Bool := decide (v < Config.recordSlots)
def cabinGood (v : Nat) : Bool := decide (v < Config.cabins)
def folioGood (v : Nat) : Bool := decide (v < Config.folioSlots)
/-- A credential number other than 0; 48 bits are what its 6 bytes hold (R2). -/
def credentialGood (v : Nat) : Bool := decide (0 < v)
/-- A daily cap, at most 1,000,000 cents (R8, R21). -/
def capGood (v : Nat) : Bool := decide (v ≤ 1000000)

/-- A request that carries no fields beyond its kind. -/
def readNothing (body : List Byte) : Parsed Unit :=
  fields [] body fun
    | [] => some ()
    | _ => none

/-- A request that carries a record slot alone. -/
def readSlot (body : List Byte) : Parsed Nat :=
  fields [.fixed 2] body fun
    | [.here slot] => if slotGood slot then some slot else none
    | _ => none

/-- A request that carries a record slot and one coded value of one byte. -/
def readSlotAnd {α : Type} (decode : Nat → Option α) (body : List Byte) : Parsed (Nat × α) :=
  fields [.fixed 2, .fixed 1] body fun
    | [.here slot, .here v] => if slotGood slot then (decode v).map (slot, ·) else none
    | _ => none

/-- A number of one byte up to a bound, as a coded value. -/
def upTo (top : Nat) (v : Nat) : Option Nat := if v ≤ top then some v else none

/-- A request that carries a credential number alone. -/
def readCredential (body : List Byte) : Parsed Nat :=
  fields [.fixed 6] body fun
    | [.here n] => if credentialGood n then some n else none
    | _ => none

/-- A request that carries a record slot and a credential number. -/
def readSlotCredential (body : List Byte) : Parsed (Nat × Nat) :=
  fields [.fixed 2, .fixed 6] body fun
    | [.here slot, .here n] => if slotGood slot && credentialGood n then some (slot, n) else none
    | _ => none

/-- What ISSUE_RECORD carries (R8). -/
structure IssueFields where
  cls : PersonClass
  reference : Nat
  folio : Nat
  location : Location
  tier : Nat
  cap : Option Nat
  station : Nat
  role : Option Nat
  deriving DecidableEq, Repr

/-- ISSUE_RECORD (R8): a role that is absent for CREW, or present for another class, is BAD_REQUEST and comes with
the size check, before the ranges (log 16). -/
def readIssue (body : List Byte) : Parsed IssueFields :=
  let layout : List Field :=
    [.fixed 1, .fixed 4, .fixed 2, .fixed 1, .fixed 1, .optional 4, .fixed 1, .optional 1]
  match split layout body with
  | some [.here c, .here reference, .here folio, .here l, .here tier, q, .here station, r] =>
    if (decide (classOf c = some .crew) && decide (r = .absent)) ||
        (decide (classOf c ≠ some .crew) && decide (r ≠ .absent)) then .badRequest
    else
      match classOf c, locationOf l, q.optionalNumber capGood, r.optionalNumber (fun v => decide (v < Config.roles)) with
      | some cls, some location, some cap, some role =>
        if folioGood folio && (decide (location = .notEmbarked) || decide (location = .aboard)) &&
            decide (tier ≤ 7) && decide (station < Config.stations)
        then .good ⟨cls, reference, folio, location, tier, cap, station, role⟩
        else .range
      | _, _, _, _ => .range
  | _ => .badRequest

/-- What RESERVE_CREDENTIAL carries (R10). -/
structure ReserveFields where
  slot : Nat
  number : Nat
  kind : CredentialKind
  replaces : Option Nat
  deriving DecidableEq, Repr

/-- RESERVE_CREDENTIAL (R10). -/
def readReserve (body : List Byte) : Parsed ReserveFields :=
  fields [.fixed 2, .fixed 6, .fixed 1, .optional 6] body fun
    | [.here slot, .here n, .here k, r] =>
      match credentialKindOf k, r.optionalNumber credentialGood with
      | some kind, some replaces =>
        if slotGood slot && credentialGood n then some ⟨slot, n, kind, replaces⟩ else none
      | _, _ => none
    | _ => none

/-- REVOKE_CREDENTIAL (R15): the reasons REPLACED and RETIRED are outside its range. -/
def readRevoke (body : List Byte) : Parsed (Nat × RevocationReason) :=
  fields [.fixed 6, .fixed 1] body fun
    | [.here n, .here 0] => if credentialGood n then some (n, .lost) else none
    | [.here n, .here 3] => if credentialGood n then some (n, .host) else none
    | _ => none

/-- SET_MESSAGE (R19): a record slot, a message code and a show count. -/
def readMessage (body : List Byte) : Parsed (Nat × Nat × Nat) :=
  fields [.fixed 2, .fixed 1, .fixed 1] body fun
    | [.here slot, .here code, .here count] =>
      if slotGood slot && decide (count ≤ 7) then some (slot, code, count) else none
    | _ => none

/-- SET_CAP (R21): a record slot and a daily cap or its absence. -/
def readCap (body : List Byte) : Parsed (Nat × Option Nat) :=
  fields [.fixed 2, .optional 4] body fun
    | [.here slot, q] => if slotGood slot then (q.optionalNumber capGood).map (slot, ·) else none
    | _ => none

/-- READ_REVOKED (R7): a position of the revocation list. -/
def readPosition (body : List Byte) : Parsed Nat :=
  fields [.fixed 2] body fun
    | [.here p] => if p < Config.revocationSize then some p else none
    | _ => none

/-- SET_CABIN_ZONES (R30): a first cabin, a count, and as many zones as the count says. -/
def readCabinZones : List Byte → Parsed (Nat × List Nat)
  | f1 :: f0 :: c :: zones =>
    let first := number [f1, f0]
    if zones.length ≠ c.toNat then .badRequest
    else if 1 ≤ c.toNat ∧ c.toNat ≤ 32 ∧ first + c.toNat - 1 < Config.cabins ∧
        zones.all (fun z => decide (z.toNat < Config.zones)) then .good (first, zones.map BitVec.toNat)
    else .range
  | _ => .badRequest

/-- ASSIGN_CABIN and VACATE_CABIN (R31, R33): a record slot and a cabin. -/
def readSlotCabin (body : List Byte) : Parsed (Nat × Nat) :=
  fields [.fixed 2, .fixed 2] body fun
    | [.here slot, .here cabin] => if slotGood slot && cabinGood cabin then some (slot, cabin) else none
    | _ => none

/-- SET_CABIN_MODE (R35). -/
def readCabinMode (body : List Byte) : Parsed (Nat × CabinMode) :=
  fields [.fixed 2, .fixed 1] body fun
    | [.here cabin, .here m] => if cabinGood cabin then (cabinModeOf m).map (cabin, ·) else none
    | _ => none

/-- LOAD_ROLE (R39): a role number, a zone set of 64 flags and the four attribute flags. -/
def readRoleLoad (body : List Byte) : Parsed (Nat × Role) :=
  fields [.fixed 1, .fixed 8, .fixed 1, .fixed 1, .fixed 1, .fixed 1] body fun
    | [.here role, .here zones, .here c, .here p, .here l, .here w] =>
      match flagOf c, flagOf p, flagOf l, flagOf w with
      | some cabin, some privacy, some lockout, some sweep =>
        if role < Config.roles then some (role, ⟨BitVec.ofNat 64 zones, cabin, privacy, lockout, sweep⟩) else none
      | _, _, _, _ => none
    | _ => none

/-- SET_CLASS_POLICY (R41). -/
def readClassPolicy (body : List Byte) : Parsed (PersonClass × ClassPolicy) :=
  fields [.fixed 1, .fixed 1, .fixed 1] body fun
    | [.here c, .here a, .here p] =>
      match classOf c, flagOf a, passbackOf p with
      | some cls, some check, some passback => some (cls, ⟨check, passback⟩)
      | _, _, _ => none
    | _ => none

/-- A first entry and a count of entries of a table, the first in `n` bytes: READ_CABIN and READ_VENUE (R50, R126). -/
def readRun (n top size : Nat) (body : List Byte) : Parsed (Nat × Nat) :=
  fields [.fixed n, .fixed 1] body fun
    | [.here first, .here count] =>
      if 1 ≤ count ∧ count ≤ top ∧ first + count - 1 < size then some (first, count) else none
    | _ => none

/-- One number of `n` bytes that passes a test. -/
def readNumber (n : Nat) (test : Nat → Bool) (body : List Byte) : Parsed Nat :=
  fields [.fixed n] body fun
    | [.here v] => if test v then some v else none
    | _ => none

/-- The SCAN criteria (R74). -/
inductive Criterion
  | ashore | notEmbarked | aboardNotMustered | visitorAboard | held | watched | folioSuspended | folioGrace
  | openerOfTabs
  | memberOf (folio : Nat)
  deriving DecidableEq, Repr

/-- The criterion of a code that names no folio (R167). -/
def criterionOf : Nat → Option Criterion
  | 0 => some .ashore
  | 1 => some .notEmbarked
  | 2 => some .aboardNotMustered
  | 3 => some .visitorAboard
  | 4 => some .held
  | 5 => some .watched
  | 6 => some .folioSuspended
  | 7 => some .folioGrace
  | 8 => some .openerOfTabs
  | _ => none

/-- SCAN (R73): a folio slot that is absent for MEMBER_OF_FOLIO, or present for another criterion, is BAD_REQUEST,
before the ranges (log 16). -/
def readScan (body : List Byte) : Parsed (Criterion × Nat) :=
  match split [.fixed 1, .fixed 2, .optional 2] body with
  | some [.here 9, .here start, f] =>
    match f with
    | .absent => .badRequest
    | .stray => .range
    | .here folio => if slotGood start && folioGood folio then .good (.memberOf folio, start) else .range
  | some [.here c, .here start, .absent] =>
    match criterionOf c with
    | some criterion => if slotGood start then .good (criterion, start) else .range
    | none => .range
  | _ => .badRequest

/-- SET_TIME (R77): a ship time of 8 bytes, signed, within 0 to 4,294,967,295. -/
def readShipTime (body : List Byte) : Parsed Int :=
  fields [.fixed 8] body fun
    | [.here v] =>
      if 0 ≤ signedNumber 8 v ∧ signedNumber 8 v ≤ 4294967295 then some (signedNumber 8 v) else none
    | _ => none

/-- What OPEN_FOLIO and SET_LIMITS set (R110, R115); the grace allowance is clamped to 15. -/
structure LimitFields where
  soft : Nat
  hard : Nat
  allowance : Nat
  mode : ResumeMode
  deriving DecidableEq, Repr

/-- The limits of a request, if they are in range: neither above 100,000,000, and L no greater than M. -/
def limitsOf (soft hard allowance mode : Nat) : Option LimitFields :=
  if hard ≤ 100000000 ∧ soft ≤ hard then (resumeModeOf mode).map (⟨soft, hard, min allowance 15, ·⟩) else none

/-- OPEN_FOLIO (R110). -/
def readOpenFolio (body : List Byte) : Parsed LimitFields :=
  fields [.fixed 4, .fixed 4, .fixed 1, .fixed 1] body fun
    | [.here l, .here m, .here g, .here r] => limitsOf l m g r
    | _ => none

/-- A request that carries a folio slot alone. -/
def readFolioSlot (body : List Byte) : Parsed Nat := readNumber 2 folioGood body

/-- What SET_LIMITS carries before its order check: L greater than M is RANGE too, but the FREE folio is NOT_FOUND
before it (R115: "After the checks of R100 ... an L greater than M is refused RANGE"). -/
structure SetLimitsFields where
  folio : Nat
  soft : Nat
  hard : Nat
  allowance : Nat
  mode : ResumeMode
  deriving DecidableEq, Repr

/-- SET_LIMITS (R115). -/
def readSetLimits (body : List Byte) : Parsed SetLimitsFields :=
  fields [.fixed 2, .fixed 4, .fixed 4, .fixed 1, .fixed 1] body fun
    | [.here folio, .here l, .here m, .here g, .here r] =>
      if folioGood folio ∧ l ≤ 100000000 ∧ m ≤ 100000000 then
        (resumeModeOf r).map (⟨folio, l, m, min g 15, ·⟩)
      else none
    | _ => none

/-- A folio slot and an amount from 1 to a top: the host postings (R116 to R118). -/
def readPosting (top : Nat) (body : List Byte) : Parsed (Nat × Nat) :=
  fields [.fixed 2, .fixed 4] body fun
    | [.here folio, .here amount] =>
      if folioGood folio ∧ 1 ≤ amount ∧ amount ≤ top then some (folio, amount) else none
    | _ => none

/-- LINK_RECORD (R102): a record slot and a target folio slot. -/
def readLink (body : List Byte) : Parsed (Nat × Nat) :=
  fields [.fixed 2, .fixed 2] body fun
    | [.here slot, .here folio] => if slotGood slot && folioGood folio then some (slot, folio) else none
    | _ => none

/-- What LOAD_VENUE carries (R123); the service rate is clamped to 3,000. -/
structure VenueFields where
  venue : Nat
  category : Category
  rate : Nat
  classes : BitVec 4
  timeoutCode : Nat
  deriving DecidableEq, Repr

/-- LOAD_VENUE (R123). -/
def readVenueLoad (body : List Byte) : Parsed VenueFields :=
  fields [.fixed 1, .fixed 1, .fixed 2, .fixed 1, .fixed 1] body fun
    | [.here v, .here c, .here rate, .here set, .here code] =>
      if v < Config.venues ∧ set < 16 ∧ code ≤ 15 then
        (categoryOf c).map (⟨v, ·, min rate 3000, BitVec.ofNat 4 set, code⟩)
      else none
    | _ => none

/-- SET_VENUE_OPEN (R124). -/
def readVenueOpen (body : List Byte) : Parsed (Nat × Bool) :=
  fields [.fixed 1, .fixed 1] body fun
    | [.here v, .here f] => if v < Config.venues then (flagOf f).map (v, ·) else none
    | _ => none

/-- LOAD_TIER (R125): a cap above 10,000 and a count above 30 are clamped. -/
def readTierLoad (body : List Byte) : Parsed (Nat × Tier) :=
  fields [.fixed 1, .fixed 4, .fixed 1] body fun
    | [.here t, .here cap, .here count] =>
      if 1 ≤ t ∧ t ≤ 7 then some (t, ⟨min cap 10000, min count 30⟩) else none
    | _ => none

/-- LIST_TABS (R158): a start entry and a folio, absent allowed. -/
def readTabList (body : List Byte) : Parsed (Nat × Option Nat) :=
  fields [.fixed 2, .optional 2] body fun
    | [.here start, f] =>
      if start < Config.tabEntries then (f.optionalNumber folioGood).map (start, ·) else none
    | _ => none

/-- A port of the part by its number. -/
def portOf (v : Nat) : Option Port := if h : v < 6 then some ⟨v, h⟩ else none

/-- The binding of a marker and a number, if it is in range for the terminal kind (R167, R170). -/
def bindingOf (kind : TerminalKind) (marker n : Nat) : Option Binding :=
  match kind, marker with
  | .lock, 0 => if n < Config.cabins then some (.cabin n) else none
  | .lock, 1 => if n < Config.zones then some (.zone n) else none
  | .pos, 2 => if n < Config.venues then some (.venue n) else none
  | .gangway, 3 => if n < Config.gangways then some (.gangway n) else none
  | .muster, 4 => if n < Config.stations then some (.station n) else none
  | _, _ => none

/-- What LOAD_TERMINAL carries (R170). -/
structure TerminalFields where
  port : Port
  term : Nat
  entry : TerminalEntry
  deriving DecidableEq, Repr

/-- The binding a LOAD_TERMINAL gives a kind: present for every kind but KIOSK, absent for KIOSK (R170; log 17). -/
def loadedBinding (kind : TerminalKind) : Chunk → Option (Option Binding)
  | .absent => if kind = .kiosk then some none else none
  | .here v => if kind = .kiosk then none else (bindingOf kind (v / 65536) (v % 65536)).map some
  | .stray => none

/-- LOAD_TERMINAL (R170): the binding is a marker byte and a number of 2 bytes (R167). -/
def readTerminalLoad (body : List Byte) : Parsed TerminalFields :=
  fields [.fixed 1, .fixed 1, .fixed 1, .optional 3, .fixed 1] body fun
    | [.here p, .here t, .here k, b, .here e] =>
      match portOf p, terminalKindOf k, flagOf e with
      | some port, some kind, some enabled =>
        if t < Config.terminalsPerPort then
          (loadedBinding kind b).map fun binding => ⟨port, t, ⟨some kind, binding, enabled⟩⟩
        else none
      | _, _, _ => none
    | _ => none

/-- SET_TERMINAL_ENABLED (R170). -/
def readTerminalEnable (body : List Byte) : Parsed (Port × Nat × Bool) :=
  fields [.fixed 1, .fixed 1, .fixed 1] body fun
    | [.here p, .here t, .here e] =>
      match portOf p, flagOf e with
      | some port, some enabled => if t < Config.terminalsPerPort then some (port, t, enabled) else none
      | _, _ => none
    | _ => none

/-- PORT_RESET and READ_PORT (R175, R176): a port. -/
def readPort (body : List Byte) : Parsed Port :=
  fields [.fixed 1] body fun
    | [.here p] => portOf p
    | _ => none

/-- READ_TERMINALS (R176): a port and a first terminal. -/
def readTerminalRun (body : List Byte) : Parsed (Port × Nat) :=
  fields [.fixed 1, .fixed 1] body fun
    | [.here p, .here t] => if t < Config.terminalsPerPort then (portOf p).map (·, t) else none
    | _ => none

/-- ACK_NOTICES (R197): a set of conditions in 3 bytes; a bit beyond the seventeen is outside its range. -/
def readConditions (body : List Byte) : Parsed (BitVec 17) :=
  fields [.fixed 3] body fun
    | [.here v] => if v < 2 ^ 17 then some (BitVec.ofNat 17 v) else none
    | _ => none

/-- One setting and its new value (R188). -/
inductive SettingValue
  | reservationCode (v : Nat)
  | blankingCode (v : Nat)
  | rolloverHour (v : Nat)
  | watchdogCode (v : Nat)
  | policy (c : Category) (p : StandalonePolicy)
  | standaloneLimit (v : Nat)
  | enables (v : BitVec 17)
  | refusalMask (v : BitVec 88)
  | threshold (v : Nat)
  | latchMode (m : LatchMode)
  | ackMode (m : AckMode)
  | lineMode (m : LineMode)
  | pulseCode (v : Nat)
  | holdoff (v : Nat)
  deriving DecidableEq, Repr

/-- The size in bytes of a setting's value (R178, R188). -/
def settingSize : Nat → Nat
  | 0x09 => 4
  | 0x0A => 3
  | 0x0B => 11
  | _ => 1

/-- The setting of a name and the number its value spells, if the name and the value are in range (R188). -/
def settingOf (name v : Nat) : Option SettingValue :=
  match name with
  | 0x00 => (upTo 3 v).map .reservationCode
  | 0x01 => (upTo 3 v).map .blankingCode
  | 0x02 => (upTo 23 v).map .rolloverHour
  | 0x03 => (upTo 3 v).map .watchdogCode
  | 0x04 => (policyOf v).map (.policy .bar)
  | 0x05 => (policyOf v).map (.policy .dining)
  | 0x06 => (policyOf v).map (.policy .retail)
  | 0x07 => (policyOf v).map (.policy .spa)
  | 0x08 => (policyOf v).map (.policy .services)
  | 0x09 => (upTo 100000 v).map .standaloneLimit
  | 0x0A => if v < 2 ^ 17 then some (.enables (BitVec.ofNat 17 v)) else none
  | 0x0B => if BitVec.ofNat 88 v &&& ~~~refusalCodes = 0 then some (.refusalMask (BitVec.ofNat 88 v)) else none
  | 0x0C => if 50 ≤ v ∧ v ≤ 95 ∧ v % 5 = 0 then some (.threshold v) else none
  | 0x0D => (latchModeOf v).map .latchMode
  | 0x0E => (ackModeOf v).map .ackMode
  | 0x0F => (lineModeOf v).map .lineMode
  | 0x10 => (upTo 3 v).map .pulseCode
  | 0x11 => (upTo 255 v).map .holdoff
  | _ => none

/-- SET_SETTING (R188). A name outside the table has no size of its own, so a body that holds one is RANGE
whatever follows the name (log 17). -/
def readSetting : List Byte → Parsed SettingValue
  | [] => .badRequest
  | name :: rest =>
    if name.toNat ≤ 0x11 ∧ rest.length ≠ settingSize name.toNat then .badRequest
    else
      match settingOf name.toNat (number rest) with
      | some v => .good v
      | none => .range

/-! ## Fields of a reply -/

def passageBytes (p : Passage) : List Byte := byte p.gangway ++ byte (directionCode p.direction) ++ bytes 4 p.time

def credentialBytes (c : Credential) : List Byte := bytes 6 c.number ++ byte (credentialKindCode c.kind)

def reservationBytes (r : Reservation) : List Byte :=
  bytes 6 r.number ++ byte (credentialKindCode r.kind) ++ optional (bytes 6) r.replaces ++ bytes 4 r.expiry

/-- Every field of a record in the order of the field table (R26). -/
def recordBytes (r : Record) : List Byte :=
  byte (recordStateCode (some r.life)) ++ byte (classCode r.cls) ++ bytes 4 r.reference ++ bytes 2 r.folio ++
    optional byte r.role ++ optional (bytes 2) r.homeCabin ++ optional (bytes 2) r.secondCabin ++
    byte (locationCode r.location) ++ flagByte r.final ++ optional passageBytes r.lastPassage ++ byte r.station ++
    flagByte r.musterFlag ++ optional byte r.musteredAt ++ byte r.tier ++ byte r.drinks ++
    optional (bytes 4) r.cap ++ bytes 4 r.spend ++ bytes 4 r.spendPrevious ++ byte r.message ++ byte r.shows ++
    byte (watchModeCode r.watchMode) ++ listBytes credentialBytes r.credentials ++
    optional reservationBytes r.reservation

/-- The exposure X of a folio, B + H (05, "The folio table"). -/
def Folio.exposure (f : Folio) : Int := f.balance + f.holds

/-- Every field of a folio in the order of R121, and its exposure. -/
def folioBytes (f : Folio) : List Byte :=
  byte (folioStateCode f.state) ++ optional (fun c => byte (causeCode c)) f.cause ++
    byte (resumeModeCode f.resumeMode) ++ bytes 4 f.soft ++ bytes 4 f.hard ++ byte f.allowance ++ byte f.grace ++
    signedBytes 4 f.balance ++ bytes 4 f.holds ++ bytes 4 f.prepaid ++ byte f.openTabs ++ byte f.members ++
    bytes 4 f.spend ++ bytes 4 f.spendPrevious ++ signedBytes 4 f.exposure

/-- State and cause of a folio, as several replies carry them. -/
def folioStateBytes (f : Folio) : List Byte :=
  byte (folioStateCode f.state) ++ optional (fun c => byte (causeCode c)) f.cause

def revocationBytes (r : Revocation) : List Byte :=
  bytes 6 r.number ++ bytes 2 r.slot ++ byte (reasonCode r.reason) ++ bytes 4 r.time

/-- A cabin as READ_CABIN gives it (R50). -/
def cabinBytes (c : Cabin) : List Byte :=
  byte c.zone ++ byte (cabinModeCode c.mode) ++ listBytes (bytes 2) c.occupants

/-- A role as READ_ROLE gives it (R50). -/
def roleBytes (r : Role) : List Byte :=
  bytes 8 r.zones.toNat ++ flagByte r.cabin ++ flagByte r.privacyOverride ++ flagByte r.lockoutOverride ++
    flagByte r.sweep

/-- A venue as READ_VENUE gives it (R126). -/
def venueBytes (v : Venue) : List Byte :=
  byte (categoryCode v.category) ++ bytes 2 v.rate ++ byte v.classes.toNat ++ flagByte v.isOpen ++ byte v.timeoutCode

def tierBytes (t : Tier) : List Byte := bytes 4 t.cap ++ byte t.count

def bindingBytes (b : Binding) : List Byte := byte b.marker ++ bytes 2 b.number

/-- A terminal entry as LOAD_TERMINAL and READ_TERMINALS give it (R170, R176). -/
def terminalBytes (e : TerminalEntry) : List Byte :=
  optional (fun k => byte (terminalKindCode k)) e.kind ++ optional bindingBytes e.binding ++ flagByte e.enabled

/-- A count for each class, 2 bytes each. -/
def classCountBytes (c : ByClass Nat) : List Byte :=
  bytes 2 c.guestAdult ++ bytes 2 c.guestMinor ++ bytes 2 c.crew ++ bytes 2 c.visitor

def locationCountBytes (c : ByLocation Nat) : List Byte :=
  bytes 2 c.notEmbarked ++ bytes 2 c.aboard ++ bytes 2 c.ashore ++ bytes 2 c.disembarked

/-- The sixteen cells by class and within a class by location (R54). -/
def matrixBytes (m : ByClass (ByLocation Nat)) : List Byte :=
  locationCountBytes m.guestAdult ++ locationCountBytes m.guestMinor ++ locationCountBytes m.crew ++
    locationCountBytes m.visitor

/-- A tab with every field, as READ_TAB gives it before the time left (R158). -/
def tabBytes (t : Tab) : List Byte :=
  bytes 2 t.number ++ bytes 2 t.folio ++ bytes 2 t.opener ++ byte t.venue ++ bytes 4 t.hold ++ bytes 4 t.opened ++
    bytes 4 t.expiry

/-- A tab as LIST_TABS gives it (R158). -/
def listedTabBytes (t : Tab) : List Byte :=
  bytes 2 t.number ++ bytes 2 t.folio ++ bytes 2 t.opener ++ byte t.venue ++ bytes 4 t.hold ++ bytes 4 t.expiry

/-- The last-refusal record as READ_NOTICES gives it (R194, R196). -/
def refusedBytes (r : Refused) : List Byte :=
  byte r.port.val ++ byte r.term ++ [r.result.code] ++ optional (bytes 6) r.credential ++ optional (bytes 2) r.slot ++
    bytes 4 r.time

/-- Every setting in the order of the table of settings (R189). -/
def settingsBytes (s : Settings) : List Byte :=
  byte s.reservationCode ++ byte s.blankingCode ++ byte s.rolloverHour ++ byte s.watchdogCode ++
    byte (policyCode s.policies.bar) ++ byte (policyCode s.policies.dining) ++ byte (policyCode s.policies.retail) ++
    byte (policyCode s.policies.spa) ++ byte (policyCode s.policies.services) ++ bytes 4 s.standaloneLimit ++
    bytes 3 s.enables.toNat ++ bytes 11 s.refusalMask.toNat ++ byte s.threshold ++ byte (latchModeCode s.latchMode) ++
    byte (ackModeCode s.ackMode) ++ byte (lineModeCode s.lineMode) ++ byte s.pulseCode ++ byte s.holdoff

end Sys2Proof.Machine
end

