-- ==== Sys2Proof/Machine/Flags.lean ====
section
/-! DEFINITION. The notice unit (10): what is pending, the NOTICE line, capacity reports, and the raising and
clearing of conditions. Every change of what is pending or enabled, and no other, moves the line by `changeNotices`. -/

namespace Sys2Proof.Machine

/-- A bit map that holds one condition (R167). -/
def Condition.bit (c : Condition) : BitVec 17 := (1 : BitVec 17) <<< conditionCode c

/-- The current moment in milliseconds of run time (R75, R198). -/
def State.moment (s : State) : Nat := s.clock.runTime * 1000 + s.clock.millis

/-- Whether any capacity flag is set (R195). -/
def anyFlag (f : ByTable Bool) : Bool := f.records || f.credentials || f.revocations || f.tabs

/-- The pending conditions as READ_NOTICES shows them: WATCH_HIT follows the watch set and CAPACITY the capacity
flags (R192, R195). -/
def State.pendingConditions (s : State) : BitVec 17 :=
  s.notice.pending ||| (if s.passage.watch.isEmpty then 0 else Condition.watchHit.bit) |||
    (if anyFlag s.notice.flags then Condition.capacity.bit else 0)

/-- The conditions both pending and enabled; the line has a demand while there is one (R193). -/
def State.demand (s : State) : BitVec 17 := s.pendingConditions &&& s.settings.enables

/-- The pulse width of a code, in milliseconds (R200). -/
def pulseWidth : Nat → Nat
  | 0 => 1
  | 1 => 5
  | 2 => 20
  | _ => 100

/-- The line leaves ASSERTED or PULSE: NEGATED with a holdoff of 0, HOLDOFF otherwise (R199, R200, R201). -/
def restLine (set : Settings) (now : Nat) : Line :=
  if set.holdoff = 0 then .negated else .holdoff (now + set.holdoff * 10)

/-- What one event of the pending and enabled conditions does to the line: `was` and `is` are the demand before and
after it. In LEVEL mode the demand counts (R199); in PULSE mode, a condition that was not demanded and now is (R200). -/
def lineEvent (set : Settings) (now : Nat) (was is : BitVec 17) (n : NoticeUnit) : NoticeUnit :=
  match set.lineMode, n.line with
  | .level, .negated => if was = 0 ∧ is ≠ 0 then { n with line := .asserted } else n
  | .level, .asserted => if was ≠ 0 ∧ is = 0 then { n with line := restLine set now } else n
  | .level, _ => n
  | .pulse, .negated =>
    if is &&& ~~~was ≠ 0 then { n with line := .pulse (now + pulseWidth set.pulseCode) } else n
  | .pulse, .asserted => n
  | .pulse, _ => if is &&& ~~~was ≠ 0 then { n with owed := true } else n

/-- The state after one event that changed what is pending or enabled, the line moved by it. -/
def changeNotices (before after : State) : State :=
  { after with notice := lineEvent after.settings after.moment before.demand after.demand after.notice }

/-- A condition is raised: it becomes pending, or stays so (R192). -/
def raise (c : Condition) (s : State) : State :=
  changeNotices s { s with notice := { s.notice with pending := s.notice.pending ||| c.bit } }

/-- A bit map that holds one port. -/
def portBit (p : Port) : BitVec 6 := (1 : BitVec 6) <<< p.val

/-- PORT_SILENT is raised for a port, which joins its port set (R168, R192). -/
def raisePortSilent (p : Port) (s : State) : State :=
  changeNotices s
    { s with notice :=
        { s.notice with
          pending := s.notice.pending ||| Condition.portSilent.bit
          silentPorts := s.notice.silentPorts ||| portBit p } }

/-- PORT_ERRORS is raised for a port, which joins its port set (R163, R192). -/
def raisePortErrors (p : Port) (s : State) : State :=
  changeNotices s
    { s with notice :=
        { s.notice with
          pending := s.notice.pending ||| Condition.portErrors.bit
          errorPorts := s.notice.errorPorts ||| portBit p } }

/-! ## Capacity (R27, R157, R195) -/

/-- The size of a reported table. -/
def CapacityTable.size : CapacityTable → Nat
  | .records => Config.recordSlots
  | .credentials => Config.indexSize
  | .revocations => Config.revocationSize
  | .tabs => Config.tabEntries

/-- The occupancy of a reported table as it stands. -/
def State.occupancy (s : State) : CapacityTable → Nat
  | .records => s.store.records.length
  | .credentials => s.store.index.length
  | .revocations => s.store.revoked.length
  | .tabs => s.tabs.entries.length

/-- The threshold count of a table (R27, R157). -/
def thresholdCount (t : CapacityTable) (percent : Nat) : Nat := t.size * percent / 100

def ByTable.get {α : Type} (b : ByTable α) : CapacityTable → α
  | .records => b.records
  | .credentials => b.credentials
  | .revocations => b.revocations
  | .tabs => b.tabs

def ByTable.set {α : Type} (b : ByTable α) (t : CapacityTable) (v : α) : ByTable α :=
  match t with
  | .records => { b with records := v }
  | .credentials => { b with credentials := v }
  | .revocations => { b with revocations := v }
  | .tabs => { b with tabs := v }

/-- The level a table is reported at. -/
def State.level (s : State) (t : CapacityTable) : CapacityLevel :=
  if thresholdCount t s.settings.threshold ≤ s.occupancy t then .at else .below

/-- The flag of a table after a report of its level, by the latch mode (R195). -/
def flagAfter (m : LatchMode) (level : CapacityLevel) (flag : Bool) : Bool :=
  match level, m with
  | .at, _ => true
  | .below, .latched => flag
  | .below, .live => false

/-- A table reports its occupancy to the notice unit (R195). -/
def report (t : CapacityTable) (s : State) : State :=
  changeNotices s
    { s with notice :=
        { s.notice with
          levels := s.notice.levels.set t (s.level t)
          flags := s.notice.flags.set t (flagAfter s.settings.latchMode (s.level t) (s.notice.flags.get t)) } }

/-- The four tables report afresh (R188, R195). -/
def reportAll (s : State) : State :=
  report .tabs (report .revocations (report .credentials (report .records s)))

/-! ## Acknowledgement (R196, R197) -/

/-- The conditions that an acknowledgement never clears: WATCH_HIT, and CAPACITY while the latch mode is LIVE. -/
def keptBits (s : State) : BitVec 17 :=
  Condition.watchHit.bit ||| (if s.settings.latchMode = .live then Condition.capacity.bit else 0)

/-- The conditions of a set are cleared, with the port sets and capacity flags they carry; a condition that an
acknowledgement may not clear is left (R196, R197). -/
def acknowledge (set : BitVec 17) (s : State) : State :=
  let cleared := set &&& ~~~keptBits s
  changeNotices s
    { s with notice :=
        { s.notice with
          pending := s.notice.pending &&& ~~~cleared
          silentPorts := if cleared &&& Condition.portSilent.bit = 0 then s.notice.silentPorts else 0
          errorPorts := if cleared &&& Condition.portErrors.bit = 0 then s.notice.errorPorts else 0
          flags :=
            if cleared &&& Condition.capacity.bit = 0 then s.notice.flags
            else { records := false, credentials := false, revocations := false, tabs := false } } }

/-! ## The watch set and the settings that move the line -/

/-- The watch set changes, and WATCH_HIT with it (R68, R192). -/
def setWatch (w : List WatchEntry) (s : State) : State :=
  changeNotices s { s with passage := { s.passage with watch := w } }

/-- The notice enables change (R193). -/
def setEnables (e : BitVec 17) (s : State) : State :=
  changeNotices s { s with settings := { s.settings with enables := e } }

/-- The capacity latch mode is set; LIVE sets every flag to its level (R195). -/
def setLatchMode (m : LatchMode) (s : State) : State :=
  let flags := s.notice.flags
  let levels := s.notice.levels
  changeNotices s
    { s with
      settings := { s.settings with latchMode := m }
      notice :=
        { s.notice with
          flags :=
            if m = .live then
              { records := decide (levels.records = .at), credentials := decide (levels.credentials = .at),
                revocations := decide (levels.revocations = .at), tabs := decide (levels.tabs = .at) }
            else flags } }

/-- The line and the owed pulse after a change of the line mode (R201). -/
def lineModeChange (m : LineMode) (set : Settings) (now : Nat) (demand : Bool) (n : NoticeUnit) : NoticeUnit :=
  match m, n.line with
  | .level, .holdoff e => { n with line := .holdoff e, owed := false }
  | .level, _ => { n with line := if demand then .asserted else .negated, owed := false }
  | .pulse, .asserted => { n with line := restLine set now, owed := false }
  | .pulse, _ => n

/-- The line mode is set; the mode already in force leaves the line and any pulse owed as they are (R201). -/
def setLineMode (m : LineMode) (s : State) : State :=
  if s.settings.lineMode = m then s
  else
    { s with
      settings := { s.settings with lineMode := m }
      notice := lineModeChange m s.settings s.moment (s.demand ≠ 0) s.notice }

/-! ## The ends of a pulse and of a holdoff (R199, R200) -/

/-- The pulse ends, if one is in progress and its end has been reached. -/
def endPulse (s : State) : State :=
  match s.notice.line with
  | .pulse e =>
    if e ≤ s.moment then
      { s with notice :=
          { s.notice with
            line := restLine s.settings s.moment
            owed := if s.settings.holdoff = 0 then false else s.notice.owed } }
    else s
  | _ => s

/-- The line after a holdoff, by the line mode: the demand asserts it, or gives the pulse owed. -/
def afterHoldoff (s : State) : Line :=
  match s.settings.lineMode with
  | .level => if s.demand ≠ 0 then .asserted else .negated
  | .pulse =>
    if s.notice.owed ∧ s.demand ≠ 0 then .pulse (s.moment + pulseWidth s.settings.pulseCode) else .negated

/-- The holdoff ends, if one is in progress and its end has been reached. -/
def endHoldoff (s : State) : State :=
  match s.notice.line with
  | .holdoff e =>
    if e ≤ s.moment then { s with notice := { s.notice with line := afterHoldoff s, owed := false } } else s
  | _ => s

/-- The NOTICE output is asserted, in ASSERTED and PULSE (R198). -/
def State.noticeAsserted (s : State) : Bool :=
  match s.notice.line with
  | .asserted | .pulse _ => true
  | .negated | .holdoff _ => false

/-! ## Refusals (R194) -/

/-- The refusal selection mask holds a result. -/
def State.selects (s : State) (r : Result) : Bool := s.settings.refusalMask.getLsbD r.code.toNat

/-- The report of a refusal, as the last-refusal record holds it. -/
def State.refusal (s : State) (port : Port) (term : Nat) (r : Result) (credential slot : Option Nat) : Refused :=
  { port := port, term := term, result := r, credential := credential, slot := slot, time := s.clock.runTime }

/-- A refusal that the mask holds overwrites the last-refusal record and raises REFUSAL (R194). -/
def reportRefusal (port : Port) (term : Nat) (r : Result) (credential slot : Option Nat) (s : State) : State :=
  if r.isRefusal && s.selects r then
    raise .refusal { s with notice := { s.notice with lastRefusal := some (s.refusal port term r credential slot) } }
  else s

end Sys2Proof.Machine
end

