-- ==== Sys2Proof/Machine/Ops.lean ====
section
/-! DEFINITION. The operations that several commands share: records and credentials, cabins, locations and counts,
folios and postings, tabs, the ship day, the take of a terminal request and of a management request. -/

namespace Sys2Proof.Machine

/-! ## Reading the tables -/

/-- The record in a slot; `none` for a FREE slot (R1). -/
def State.record (s : State) (slot : Nat) : Option Record := s.store.records.find slot

/-- The folio in a slot; `none` for a FREE slot (R98). -/
def State.folio (s : State) (slot : Nat) : Option Folio := s.folios.find slot

/-- A cabin at power-on (R28). -/
def Cabin.powerOn : Cabin := { zone := 0, occupants := [], mode := .normal }

/-- A role at power-on (R39). -/
def Role.powerOn : Role :=
  { zones := 0, cabin := false, privacyOverride := false, lockoutOverride := false, sweep := false }

/-- A venue at power-on (R122). -/
def Venue.powerOn : Venue := { category := .bar, rate := 0, classes := 0, isOpen := false, timeoutCode := 0 }

/-- A tier at power-on (R125). -/
def Tier.powerOn : Tier := { cap := 0, count := 0 }

/-- A terminal entry at power-on (R169). -/
def TerminalEntry.powerOn : TerminalEntry := { kind := none, binding := none, enabled := false }

def State.cabin (s : State) (n : Nat) : Cabin := s.access.cabins.value Cabin.powerOn n

def State.role (s : State) (n : Nat) : Role := s.access.roles.value Role.powerOn n

def State.venue (s : State) (n : Nat) : Venue := s.charge.venues.value Venue.powerOn n

def State.tier (s : State) (n : Nat) : Tier := s.charge.tiers.value Tier.powerOn n

/-- The key of a terminal in the terminal table: its port and its number. -/
def terminalKey (p : Port) (term : Nat) : Nat := p.val * Config.terminalsPerPort + term

def State.terminal (s : State) (p : Port) (term : Nat) : TerminalEntry :=
  s.terminals.value TerminalEntry.powerOn (terminalKey p term)

/-- The open tab of a number, with its entry (R147). -/
def State.tab (s : State) (number : Nat) : Option (Nat × Tab) :=
  List.find? (fun e => decide (e.2.number = number)) s.tabs.entries

def ByClass.get {α : Type} (b : ByClass α) : PersonClass → α
  | .guestAdult => b.guestAdult
  | .guestMinor => b.guestMinor
  | .crew => b.crew
  | .visitor => b.visitor

def ByClass.set {α : Type} (b : ByClass α) (c : PersonClass) (v : α) : ByClass α :=
  match c with
  | .guestAdult => { b with guestAdult := v }
  | .guestMinor => { b with guestMinor := v }
  | .crew => { b with crew := v }
  | .visitor => { b with visitor := v }

def ByLocation.get {α : Type} (b : ByLocation α) : Location → α
  | .notEmbarked => b.notEmbarked
  | .aboard => b.aboard
  | .ashore => b.ashore
  | .disembarked => b.disembarked

def ByLocation.set {α : Type} (b : ByLocation α) (l : Location) (v : α) : ByLocation α :=
  match l with
  | .notEmbarked => { b with notEmbarked := v }
  | .aboard => { b with aboard := v }
  | .ashore => { b with ashore := v }
  | .disembarked => { b with disembarked := v }

def ByCategory.get {α : Type} (b : ByCategory α) : Category → α
  | .bar => b.bar
  | .dining => b.dining
  | .retail => b.retail
  | .spa => b.spa
  | .services => b.services

def ByCategory.set {α : Type} (b : ByCategory α) (c : Category) (v : α) : ByCategory α :=
  match c with
  | .bar => { b with bar := v }
  | .dining => { b with dining := v }
  | .retail => { b with retail := v }
  | .spa => { b with spa := v }
  | .services => { b with services := v }

/-! ## Writing the tables -/

def State.putRecord (s : State) (slot : Nat) (r : Record) : State :=
  { s with store := { s.store with records := s.store.records.put slot r } }

def State.putIndex (s : State) (number : Nat) (e : IndexEntry) : State :=
  { s with store := { s.store with index := s.store.index.put number e } }

def State.dropIndex (s : State) (number : Nat) : State :=
  { s with store := { s.store with index := s.store.index.drop number } }

def State.putFolio (s : State) (slot : Nat) (f : Folio) : State := { s with folios := s.folios.put slot f }

def State.dropFolio (s : State) (slot : Nat) : State := { s with folios := s.folios.drop slot }

def State.putCabin (s : State) (n : Nat) (c : Cabin) : State :=
  { s with access := { s.access with cabins := s.access.cabins.putValue Cabin.powerOn n c } }

def State.setCounts (s : State) (m : ByClass (ByLocation Nat)) : State :=
  { s with passage := { s.passage with counts := m } }

def State.setPort (s : State) (p : Port) (b : PortBlock) : State := { s with ports := s.ports.set p b }

/-- The block of a port. -/
def State.port (s : State) (p : Port) : PortBlock := s.ports[p]

/-! ## Credentials (R3 to R5, R22 to R24) -/

/-- Largest value of a spend counter (01, the record table; R107). -/
def spendTop : Nat := 999999999

/-- A revocation into the list: a full list drops its oldest entry first, and REVOKE_OVERFLOW is raised (R5). The
list reports its occupancy when the number of its entries changes (R27; log 18). -/
def appendRevocation (v : Revocation) (s : State) : State :=
  if s.store.revoked.length < Config.revocationSize then
    report .revocations { s with store := { s.store with revoked := s.store.revoked ++ [v] } }
  else raise .revokeOverflow { s with store := { s.store with revoked := s.store.revoked.drop 1 ++ [v] } }

/-- A number leaves the credential index, and the index reports its occupancy if it held the number (R3, R27). -/
def leaveIndex (n : Nat) (s : State) : State :=
  if (s.store.index.find n).isSome then report .credentials (s.dropIndex n) else s

/-- The revocation of an active credential of a record (R5). -/
def revoke (slot n : Nat) (reason : RevocationReason) (s : State) : State :=
  let s1 :=
    match s.record slot with
    | some r => s.putRecord slot { r with credentials := r.credentials.filter fun c => decide (c.number ≠ n) }
    | none => s
  appendRevocation { number := n, slot := slot, reason := reason, time := s.clock.runTime } (leaveIndex n s1)

/-- The reservation of a record ends: its number leaves the index and the pending field becomes absent (R13, R14, R18). -/
def endReservation (slot : Nat) (r : Record) (v : Reservation) (s : State) : State :=
  leaveIndex v.number (s.putRecord slot { r with reservation := none })

/-- What a credential lookup finds (R22). -/
inductive Lookup
  | found (slot : Nat) (r : Record)
  | pending (slot : Nat)
  | revoked (slot : Nat)
  | unknown
  deriving DecidableEq, Repr

/-- The credential lookup of R22. An index entry whose slot is FREE cannot stand under R4, and is unknown. -/
def lookup (s : State) (n : Nat) : Lookup :=
  if n = 0 then .unknown
  else
    match s.store.index.find n with
    | some { slot := slot, status := .active } =>
      match s.record slot with
      | some r => .found slot r
      | none => .unknown
    | some { slot := slot, status := .pending } => .pending slot
    | none =>
      match s.store.revoked.find? fun v => decide (v.number = n) with
      | some v => .revoked v.slot
      | none => .unknown

/-- A record after one showing of its message (R24). -/
def Record.shown (r : Record) : Record :=
  if r.message = 0 then r
  else { r with shows := r.shows - 1, message := if r.shows - 1 = 0 then 0 else r.message }

/-- The guest message a reply carries: the code, when one is pending (R24). -/
def Record.guestMessage (r : Record) : Option Nat := if r.message = 0 then none else some r.message

/-- A showing of a record's message is consumed (R24). -/
def consumeMessage (slot : Nat) (r : Record) (s : State) : State :=
  if r.message = 0 then s else s.putRecord slot r.shown

/-! ## Tabs as others ask of them (R156) -/

/-- The record is the opener of one or more open tabs. -/
def State.opensTabs (s : State) (slot : Nat) : Bool := s.tabs.entries.any fun e => decide (e.2.opener = slot)

/-! ## The count matrix and the reconciliation (R53, R70 to R72) -/

/-- One cell of the count matrix. -/
def cell (m : ByClass (ByLocation Nat)) (c : PersonClass) (l : Location) : Nat := (m.get c).get l

/-- The matrix with one cell changed. -/
def setCell (m : ByClass (ByLocation Nat)) (c : PersonClass) (l : Location) (n : Nat) : ByClass (ByLocation Nat) :=
  m.set c ((m.get c).set l n)

def addCell (m : ByClass (ByLocation Nat)) (c : PersonClass) (l : Location) : ByClass (ByLocation Nat) :=
  setCell m c l (cell m c l + 1)

def subCell (m : ByClass (ByLocation Nat)) (c : PersonClass) (l : Location) : ByClass (ByLocation Nat) :=
  setCell m c l (cell m c l - 1)

/-- The all-aboard condition (R70). -/
def allAboard (m : ByClass (ByLocation Nat)) : Bool :=
  decide (cell m .guestAdult .ashore = 0) && decide (cell m .guestMinor .ashore = 0) && decide (cell m .crew .ashore = 0)

/-- The all-clear condition (R70). -/
def allClear (m : ByClass (ByLocation Nat)) : Bool := allAboard m && decide (cell m .visitor .aboard = 0)

/-- ALL_ABOARD and ALL_CLEAR are raised, each where its condition holds after a change and did not before. -/
def raiseReconciled (aboardBefore clearBefore : Bool) (m : ByClass (ByLocation Nat)) (s : State) : State :=
  let s1 := if allAboard m && !aboardBefore then raise .allAboard s else s
  if allClear m && !clearBefore then raise .allClear s1 else s1

/-- The reconciliation test of a change of the count matrix, made in CUTOFF alone (R71). -/
def reconcile (before : ByClass (ByLocation Nat)) (s : State) : State :=
  if s.muster.phase = .cutoff then raiseReconciled (allAboard before) (allClear before) s.passage.counts s else s

/-- The test at entry to CUTOFF, on the matrix as it stands (R72). -/
def enterCutoff (s : State) : State := raiseReconciled false false s.passage.counts s

/-! ## Changes of location (R55, R66, R67, R94) -/

/-- The watch flag a change of location gives under a watch mode: WENT_ASHORE, CAME_ABOARD, or none (R66). -/
inductive Hit | wentAshore | cameAboard
  deriving DecidableEq, Repr

def watchHit (mode : WatchMode) (old new : Location) : Option Hit :=
  let departure := decide (old = .aboard) && (decide (new = .ashore) || decide (new = .disembarked))
  let arrival := decide (old ≠ .aboard) && decide (new = .aboard)
  if departure && (decide (mode = .onAshore) || decide (mode = .any)) then some .wentAshore
  else if arrival && (decide (mode = .onAboard) || decide (mode = .any)) then some .cameAboard
  else none

/-- An entry with the flag of a hit set. -/
def WatchEntry.flagged (e : WatchEntry) : Hit → WatchEntry
  | .wentAshore => { e with wentAshore := true }
  | .cameAboard => { e with cameAboard := true }

/-- A watch hit is entered into the watch set, or lost with WATCH_OVERFLOW when the set is full (R67). -/
def enterWatch (slot : Nat) (h : Hit) (s : State) : State :=
  if s.passage.watch.any fun e => decide (e.slot = slot) then
    setWatch (s.passage.watch.map fun e => if e.slot = slot then e.flagged h else e) s
  else if s.passage.watch.length < Config.watchSize then
    setWatch (s.passage.watch ++ [WatchEntry.flagged { slot := slot, wentAshore := false, cameAboard := false } h]) s
  else raise .watchOverflow s

/-- The tally of a station (R89). -/
def State.tally (s : State) (station : Nat) : Nat := s.muster.tallies.value 0 station

/-- The muster unit with a class count and a station tally changed by one function each (R92, R94). -/
def MusterUnit.recount (m : MusterUnit) (c : PersonClass) (station : Nat) (f : Nat → Nat) : MusterUnit :=
  { m with
    mustered := m.mustered.set c (f (m.mustered.get c))
    tallies := m.tallies.putValue 0 station (f (m.tallies.value 0 station)) }

/-- A record that leaves ABOARD with its muster flag set is taken out of the muster's counts (R94). -/
def leaveMuster (slot : Nat) (r : Record) (s : State) : State :=
  if r.musterFlag then
    { s.putRecord slot { r with musterFlag := false, musteredAt := none } with
      muster := s.muster.recount r.cls (r.musteredAt.getD 0) (· - 1) }
  else s

/-- A change of location of a record to one that differs from its own: the five effects of R55, in order. -/
def changeLocation (slot : Nat) (r : Record) (new : Location) (s : State) : State :=
  let before := s.passage.counts
  let moved := { r with location := new }
  let s1 := (s.putRecord slot moved).setCounts (addCell (subCell before r.cls r.location) r.cls new)
  let s2 := if r.location = .aboard then leaveMuster slot moved s1 else s1
  let s3 := if r.location = .aboard ∧ s.opensTabs slot then raise .tabAshore s2 else s2
  let s4 :=
    match watchHit r.watchMode r.location new with
    | some h => enterWatch slot h s3
    | none => s3
  reconcile before s4

/-- The last passage of a record is written, the rest of it kept (R52). -/
def setLastPassage (slot : Nat) (p : Option Passage) (s : State) : State :=
  match s.record slot with
  | some r => s.putRecord slot { r with lastPassage := p }
  | none => s

/-! ## Cabins (R29, R34) -/

/-- A record slot leaves the occupant list of a cabin; the others keep their order. -/
def leaveCabin (slot n : Nat) (s : State) : State :=
  s.putCabin n { s.cabin n with occupants := (s.cabin n).occupants.filter fun o => decide (o ≠ slot) }

/-- A record leaves the cabin that a field of its record may name. -/
def leaveCabin? (slot : Nat) (n : Option Nat) (s : State) : State :=
  match n with
  | some c => leaveCabin slot c s
  | none => s

/-! ## Folios (R98, R101, R104 to R109) -/

/-- A folio that re-evaluation brings back into ACTIVE, with grace reloaded (R105, R106). -/
def Folio.reactivated (f : Folio) : Folio := { f with state := .active, cause := none, grace := f.allowance }

/-- A folio that goes to SUSPENDED for a cause. -/
def Folio.suspendedFor (f : Folio) (c : SuspensionCause) : Folio := { f with state := .suspended, cause := some c }

/-- The re-evaluation of a folio on its stored limits (R105), and whether it enters SUSPENDED. -/
def Folio.reevaluated (f : Folio) : Folio × Bool :=
  match f.state with
  | .active => if f.exposure > f.hard then (f.suspendedFor .ceiling, true) else (f, false)
  | .grace =>
    if f.exposure ≤ f.soft then (f.reactivated, false)
    else if f.exposure ≤ f.hard then (f, false)
    else (f.suspendedFor .ceiling, true)
  | .suspended =>
    if f.resumeMode = .auto ∧ f.cause ≠ some .host ∧ f.exposure ≤ f.soft then (f.reactivated, false) else (f, false)
  | .closed => (f, false)

/-- A folio takes its new fields and is re-evaluated in the same change; an entry into SUSPENDED raises
FOLIO_SUSPENDED (R104, R105). -/
def storeReevaluated (slot : Nat) (f : Folio) (s : State) : State :=
  let s1 := s.putFolio slot f.reevaluated.1
  if f.reevaluated.2 then raise .folioSuspended s1 else s1

/-- A limit decline: SUSPENDED with cause LIMIT, and FOLIO_SUSPENDED raised (R108). -/
def limitDecline (slot : Nat) (f : Folio) (s : State) : State :=
  raise .folioSuspended (s.putFolio slot (f.suspendedFor .limit))

/-- A folio loses a member; a CLOSED folio whose member count reaches 0 becomes FREE (R98, R101). -/
def loseMember (slot : Nat) (s : State) : State :=
  match s.folio slot with
  | some f =>
    if f.state = .closed ∧ f.members - 1 = 0 then s.dropFolio slot
    else s.putFolio slot { f with members := f.members - 1 }
  | none => s

/-- A folio gains a member (R101). -/
def gainMember (slot : Nat) (s : State) : State :=
  match s.folio slot with
  | some f => s.putFolio slot { f with members := f.members + 1 }
  | none => s

/-- The figures of a charge (00, Symbols): coverage K, service V, sum due D, and its parts W and E. -/
structure Figures where
  k : Nat
  v : Nat
  d : Nat
  w : Nat
  e : Nat
  deriving DecidableEq, Repr

/-- A sum added to a spend counter, saturating (R107). -/
def addSpend (y d : Nat) : Nat := min (y + d) spendTop

/-- The folio's own part of an approved posting, before the re-evaluation (R107); a sum due of 0 is not handed
over (R137). -/
def Folio.posted (f : Folio) (g : Figures) (graced : Bool) : Folio :=
  if g.d = 0 then f
  else
    { f with
      balance := f.balance + g.e
      prepaid := f.prepaid - g.w
      spend := addSpend f.spend g.d
      grace := if graced then f.grace - 1 else f.grace
      state := if graced then .grace else f.state }

/-- The folio without the hold of one tab (R109). -/
def Folio.released (f : Folio) (hold : Nat) : Folio :=
  { f with holds := f.holds - hold, openTabs := f.openTabs - 1 }

/-- The record store's part of an approved posting (R107, R137). -/
def postToRecord (slot : Nat) (g : Figures) (s : State) : State :=
  match s.record slot with
  | some r =>
    s.putRecord slot
      { r with spend := addSpend r.spend g.d, drinks := if g.k > 0 then r.drinks + 1 else r.drinks }
  | none => s

/-! ## The charge computation (R130 to R136) -/

/-- The item flags of a charge (R171). -/
structure ItemFlags where
  alcohol : Bool
  package : Bool
  deriving DecidableEq, Repr

/-- The item flags of a byte; a byte with another flag set is outside its range (R127, R171). -/
def itemFlags (b : Nat) : Option ItemFlags :=
  if b < 4 then some ⟨b % 2 = 1, 2 ≤ b⟩ else none

/-- Package coverage K (R130). -/
def coverage (amount : Nat) (flags : ItemFlags) (r : Record) (t : Tier) (v : Venue) : Nat :=
  if flags.package ∧ r.tier ≠ 0 ∧ r.drinks < t.count ∧ (v.category = .bar ∨ v.category = .dining) then
    min amount t.cap
  else 0

/-- Service V (R131): basis points of the full amount, a half cent rounded up. -/
def service (amount rate : Nat) : Nat := (amount * rate + 5000) / 10000

/-- Stages 1 to 3 and 5: coverage, service, sum due, and its division between prepaid credit and the balance
(R130 to R133). -/
def figures (amount : Nat) (flags : ItemFlags) (r : Record) (t : Tier) (v : Venue) (prepaid : Nat) : Figures :=
  let k := coverage amount flags r t v
  let sv := service amount v.rate
  let d := amount - k + sv
  { k := k, v := sv, d := d, w := min prepaid d, e := d - min prepaid d }

/-- Stage 4: the daily cap is passed by the full sum Y + D (R132). -/
def overCap (r : Record) (d : Nat) : Bool :=
  match r.cap with
  | none => false
  | some q => decide (q < r.spend + d)

/-- The effective limits L′ and M′ (R134). -/
def effectiveLimits (s : State) (f : Folio) (c : Category) : Nat × Nat :=
  if s.management.service = .standalone ∧ s.settings.policies.get c = .cap then
    (min f.soft s.settings.standaloneLimit, min f.hard s.settings.standaloneLimit)
  else (f.soft, f.hard)

/-- What the limit stage gives (R135). -/
inductive Approval | ok | grace | deny
  deriving DecidableEq, Repr

/-- Stage 6 for an ACTIVE or GRACE folio (R135): the exposure, E, the limits and the grace remaining. -/
def limitStage (x : Int) (e : Nat) (soft hard grace : Nat) : Approval :=
  if e = 0 then .ok
  else if x + e ≤ soft then .ok
  else if x + e ≤ hard ∧ grace > 0 then .grace
  else .deny

/-- Stage 6 at the close of a tab on a SUSPENDED folio: no grace is given (R149). -/
def suspendedStage (x : Int) (e : Nat) (soft : Nat) : Approval :=
  if e = 0 ∨ x + e ≤ soft then .ok else .deny

/-- A decline that the stored limits would have given too (R136). -/
def againstStored (x : Int) (e : Nat) (f : Folio) : Bool := decide (limitStage x e f.soft f.hard f.grace = .deny)

def Approval.result : Approval → Result
  | .ok => .ok
  | .grace => .okGrace
  | .deny => .denyLimit

/-! ## The ship day (R78, R79, R120) -/

/-- Ship time, while the time status is SET (R76). -/
def State.shipTime (s : State) : Option Int :=
  match s.clock.status, s.clock.offset with
  | .set, some o => some (s.clock.runTime + o)
  | _, _ => none

/-- The ship-day number of a ship time: rounded down toward minus infinity (R78). -/
def shipDay (rolloverHour : Nat) (shipTime : Int) : Int := (shipTime - rolloverHour * 3600) / 86400

/-- A record's day counters move (R120). -/
def Record.nextDay (r : Record) : Record := { r with spendPrevious := r.spend, spend := 0, drinks := 0 }

/-- A folio's day counters move (R120). -/
def Folio.nextDay (f : Folio) : Folio := { f with spendPrevious := f.spend, spend := 0 }

/-- A rollover to a day: one change of the last-rolled day, DAY_ROLLOVER and the day counters (R79, R120). -/
def rollOver (day : Int) (s : State) : State :=
  let s1 := raise .dayRollover { s with clock := { s.clock with lastRolled := some day } }
  { s1 with
    store := { s1.store with records := s1.store.records.mapValues Record.nextDay }
    folios := s1.folios.mapValues Folio.nextDay }

/-- A day number is above the last-rolled day. -/
def State.dayDue (s : State) (day : Int) : Bool :=
  match s.clock.lastRolled with
  | some l => decide (l < day)
  | none => false

/-- The rollover test of R79, and whether it made a rollover. -/
def rolloverTest (s : State) : State × Bool :=
  match s.shipTime with
  | some t =>
    let day := shipDay s.settings.rolloverHour t
    if s.dayDue day then (rollOver day s, true) else (s, false)
  | none => (s, false)

/-! ## The end of a tab (R109, R148, R152 to R154) -/

/-- A tab's entry becomes free (R141), before the tab table reports its occupancy (R157). -/
def freeTab (entry : Nat) (s : State) : State :=
  { s with tabs := { s.tabs with entries := s.tabs.entries.drop entry } }

/-- A tab ends with its hold released and nothing posted: a zero close, a void or an expiry. -/
def releaseTab (entry : Nat) (t : Tab) (s : State) : State :=
  let s1 := freeTab entry s
  let s2 :=
    match s1.folio t.folio with
    | some f => storeReevaluated t.folio (f.released t.hold) s1
    | none => s1
  report .tabs s2

/-! ## Times chosen by a code -/

/-- The reservation time of a code (R11). -/
def reservationTime : Nat → Nat
  | 0 => 60
  | 1 => 120
  | 2 => 300
  | _ => 600

/-- The blanking window of a code (R59). -/
def blankingWindow : Nat → Nat
  | 0 => 2
  | 1 => 5
  | 2 => 10
  | _ => 20

/-- The watchdog timeout of a code; none for code 0, off (R185). -/
def watchdogTimeout : Nat → Option Nat
  | 0 => none
  | 1 => some 15
  | 2 => some 60
  | _ => some 300

/-- The lifetime in minutes of a tab-timeout code (R143). -/
def tabLifetime : Nat → Nat
  | 0 => 10
  | 1 => 15
  | 2 => 20
  | 3 => 30
  | 4 => 45
  | 5 => 60
  | 6 => 90
  | 7 => 120
  | 8 => 150
  | 9 => 180
  | 10 => 240
  | 11 => 300
  | 12 => 360
  | 13 => 480
  | 14 => 600
  | _ => 720

/-! ## Taking a terminal request (R165, R166, R172, R173) -/

/-- What a unit decides of a request: the result, the reply body, what the report of a refusal names, and the state. -/
structure Verdict where
  result : Result
  body : List Byte
  credential : Option Nat
  slot : Option Nat
  state : State

/-- A reply that carries the result alone, with no record or credential named. -/
def bare (r : Result) (s : State) : Verdict := { result := r, body := [], credential := none, slot := none, state := s }

/-- A reply that carries the result alone, to a request that presented a credential. -/
def alone (r : Result) (credential : Nat) (slot : Option Nat) (s : State) : Verdict :=
  { result := r, body := [], credential := some credential, slot := slot, state := s }

/-- The oldest frame of a port's queue, the one that the port takes next (R165). -/
def State.oldestFrame (s : State) (p : Port) : Option Frame := (s.port p).queue.head?

/-- The reply to the request in hand, if there is one, is decided: it goes out after those decided before it, and the
port has no request in hand (R165, R166). -/
def PortBlock.decided (b : PortBlock) : PortBlock :=
  { b with inHand := none, replies := b.replies ++ (b.inHand.map InHand.reply).toList }

/-- The request in hand at a port ends, and no other is taken (R165; logs 4 and 33). -/
def endInHand (p : Port) (s : State) : State := s.setPort p (s.port p).decided

/-- The port takes its oldest frame, once the reply to the request in hand is decided: the frame leaves the queue
(R165). -/
def takeFrame (p : Port) (s : State) : State :=
  s.setPort p { (s.port p).decided with queue := (s.port p).queue.drop 1 }

/-- The request taken is in hand with the reply that its judgement gives it (R165, R166; log 33). -/
def holdReply (p : Port) (f : Frame) (r : Result) (body : List Byte) (s : State) : State :=
  s.setPort p
    { s.port p with
      inHand := some { frame := f, reply := { term := f.term, tag := f.tag, result := r, body := body } } }

/-- A verdict is answered: a refusal is reported (R194), and the request is in hand with its reply. -/
def answer (p : Port) (f : Frame) (v : Verdict) : State :=
  holdReply p f v.result v.body (reportRefusal p f.term v.result v.credential v.slot v.state)

/-- The terminal check of a known kind (R172, parts 2 to 4), and then the service-state check (R173). PING passes the
enabled flag and the service state. -/
def admission (s : State) (entry : TerminalEntry) (isPing : Bool) (permitted : TerminalEntry → Bool) (size : Nat)
    (f : Frame) : Option Result :=
  if !isPing && !entry.enabled then some .terminalDisabled
  else if !permitted entry then some .wrongTerminal
  else if f.body.length ≠ size then some .badRequest
  else if !isPing && decide (s.management.service = .loading) then some .notReady
  else none

/-- The take of a request of one kind from a port. The reply to the request in hand is decided first. When the port's
oldest frame is of the kind, it is then taken, checked and judged as one change, and is in hand with its reply (R165;
log 33). When it is not, the port takes no request (log 4). -/
def takeRequest (p : Port) (kind : Byte) (permitted : TerminalEntry → Bool) (size : Nat)
    (decideRequest : TerminalEntry → Frame → State → Verdict) (s : State) : State :=
  match s.oldestFrame p with
  | some f =>
    if f.kind = kind then
      let s1 := takeFrame p s
      let entry := s.terminal p f.term
      match admission s entry (decide (kind = 0x00)) permitted size f with
      | some r => answer p f (bare r s1)
      | none => answer p f (decideRequest entry f s1)
    else endInHand p s
  | none => endInHand p s

/-- The number that a run of body bytes of a frame spells. -/
def Frame.field (f : Frame) (first size : Nat) : Nat := number ((f.body.drop first).take size)

/-- The number to which a terminal entry is bound. -/
def TerminalEntry.boundTo (e : TerminalEntry) : Nat := (e.binding.map Binding.number).getD 0

/-- The kinds of terminal permitted for a request, with the binding each is loaded with (R171). -/
def isLock (e : TerminalEntry) : Bool :=
  match e.kind, e.binding with
  | some .lock, some (.cabin _) | some .lock, some (.zone _) => true
  | _, _ => false

def isCabinLock (e : TerminalEntry) : Bool :=
  match e.kind, e.binding with
  | some .lock, some (.cabin _) => true
  | _, _ => false

def isPos (e : TerminalEntry) : Bool :=
  match e.kind, e.binding with
  | some .pos, some (.venue _) => true
  | _, _ => false

def isGangway (e : TerminalEntry) : Bool :=
  match e.kind, e.binding with
  | some .gangway, some (.gangway _) => true
  | _, _ => false

def isMuster (e : TerminalEntry) : Bool :=
  match e.kind, e.binding with
  | some .muster, some (.station _) => true
  | _, _ => false

def isPosOrKiosk (e : TerminalEntry) : Bool := isPos e || decide (e.kind = some .kiosk)

/-- A lookup that found no record, answered with the reporting of R23: a revoked number raises REVOKED_PRESENTED and
overwrites the last-refusal record whether or not its result is selected. `body` is what the reply carries. -/
def notFound (p : Port) (f : Frame) (n : Nat) (l : Lookup) (body : List Byte) (s : State) : Verdict :=
  match l with
  | .pending slot => { alone .denyPending n (some slot) s with body := body }
  | .revoked slot =>
    let s1 := raise .revokedPresented s
    { alone .denyRevoked n (some slot)
        { s1 with notice :=
            { s1.notice with lastRefusal := some (s.refusal p f.term .denyRevoked (some n) (some slot)) } } with
      body := body }
  | _ => { alone .denyUnknown n none s with body := body }

/-! ## Taking a management request (R179 to R182, R185) -/

/-- The watchdog is set anew, in SERVING with a code other than 0; otherwise it is stopped (R185). -/
def restartWatchdog (s : State) : State :=
  { s with management :=
      { s.management with
        watchdog :=
          if s.management.service = .serving then
            (watchdogTimeout s.settings.watchdogCode).map (s.clock.runTime + ·)
          else none } }

/-- The status byte of the management port (R179). -/
def ManagementPort.status (m : ManagementPort) : Byte :=
  match m.state with
  | .working => 0x01
  | .replyWaiting => 0x02
  | .idle => if m.rejected then 0x03 else 0x00

/-- READY is asserted exactly while the port is REPLY_WAITING (R181). -/
def ManagementPort.ready (m : ManagementPort) : Bool := decide (m.state = .replyWaiting)

/-- What the part shifts out in a write of `n` bytes after the first: the status byte, and FFh for each (R179, R180). -/
def writeShiftOut (m : ManagementPort) (n : Nat) : List Byte := m.status :: List.replicate n 0xFF

/-- A write frame of `n` bytes is discarded and not taken: the rejected flag is set (R180). -/
def discardWrite (n : Nat) (s : State) : State :=
  { s with management := { s.management with rejected := true, shiftedOut := writeShiftOut s.management n } }

/-- The bytes of a request frame with a body of a length: kind, length, body and check sum (R178). -/
def requestFrameSize (bodyLength : Nat) : Nat := bodyLength + 5

/-- A write frame is taken: the rejected flag is cleared, the port is WORKING, the request is in its slot, and the
watchdog is restarted (R180, R185). -/
def takeWrite (kind : Byte) (body : List Byte) (s : State) : State :=
  restartWatchdog
    { s with management :=
        { s.management with
          state := .working
          rejected := false
          request := some { kind := kind, body := body }
          shiftedOut := writeShiftOut s.management (requestFrameSize body.length) } }

/-- A block's decision of a management request: the reply code, the reply body and the state. -/
structure Decision where
  code : ReplyCode
  body : List Byte
  state : State

/-- A refused request changes no state, and its reply has an empty body (R182). -/
def refuse (c : ReplyCode) (s : State) : Decision := { code := c, body := [], state := s }

/-- A request carried out, with its reply fields. -/
def done (body : List Byte) (s : State) : Decision := { code := .done, body := body, state := s }

/-- The reply is decided: it goes into the reply slot, and the port is REPLY_WAITING (R181). -/
def placeReply (kind : Byte) (d : Decision) : State :=
  { d.state with management :=
      { d.state.management with
        state := .replyWaiting
        request := none
        reply := { kind := kind, code := d.code, body := d.body } } }

/-- A request frame of a kind is written. It is taken when the port is IDLE and its body is at most 1,024 bytes, and
is otherwise discarded (R180). A taken request passes the service-state gate, is decided by the owner of the state it
names, and is answered, as one change (R182). -/
def manage (kind : Byte) (body : List Byte) (decideRequest : State → Decision) (s : State) : State :=
  if s.management.state = .idle ∧ body.length ≤ Config.managementBody then
    let s1 := takeWrite kind body s
    placeReply kind
      (if s.management.service = .standalone ∧ kind ∉ standaloneKinds then refuse .standalone s1
        else decideRequest s1)
  else discardWrite (requestFrameSize body.length) s

/-- The size and range checks of a body, and then the rest of the request. -/
def checked {α : Type} (p : Parsed α) (s : State) (run : α → Decision) : Decision :=
  match p with
  | .badRequest => refuse .badRequest s
  | .range => refuse .range s
  | .good a => run a

/-- A request that names a record: a FREE slot is NOT_FOUND (R2). -/
def withRecord (slot : Nat) (s : State) (run : Record → Decision) : Decision :=
  match s.record slot with
  | some r => run r
  | none => refuse .notFound s

/-- A request that names a folio: a FREE slot is NOT_FOUND (R100). -/
def withFolio (slot : Nat) (s : State) (run : Folio → Decision) : Decision :=
  match s.folio slot with
  | some f => run f
  | none => refuse .notFound s

end Sys2Proof.Machine
end

