-- ==== Sys2Proof/Machine/Access.lean ====
section
/-! DEFINITION. Cabins, roles and lock decisions (02): UNLOCK, LOCK_MODE and the management requests of the chapter. -/

namespace Sys2Proof.Machine

/-! ## The UNLOCK decision (R42 to R49) -/

/-- The fourth check: the record's location, with the ashore check of its class (R43). -/
def unlockLocation (r : Record) (s : State) : Option Result :=
  match r.location with
  | .aboard => none
  | .notEmbarked => some .denyNotEmbarked
  | .disembarked => some .denyDeparted
  | .ashore => if (s.access.policies.get r.cls).ashoreCheck then some .denyAshore else none

/-- The sixth check: an occupant at the cabin lock (R45). -/
def occupantResult (mode : CabinMode) : Result :=
  match mode with
  | .lockout => .denyLockout
  | _ => .ok

/-- The seventh check: a crew member who does not occupy the cabin (R46). -/
def crewResult (role : Role) (cabin : Cabin) (phase : Phase) : Result :=
  if !(role.cabin && role.zones.getLsbD cabin.zone) then .denyZone
  else
    let sweep := role.sweep && decide (phase = .muster)
    match cabin.mode with
    | .normal | .service => .ok
    | .privacy => if role.privacyOverride || sweep then .ok else .denyPrivacy
    | .lockout => if role.lockoutOverride || sweep then .ok else .denyLockout

/-- The role entry of a record. A CREW record names one; for another class it is not read (R39). -/
def roleOf (r : Record) (s : State) : Role := s.role (r.role.getD 0)

/-- The checks from the fifth to the eighth at a cabin lock (R44 to R47). -/
def cabinDecision (slot : Nat) (r : Record) (n : Nat) (s : State) : Result :=
  let occupant := decide (slot ∈ (s.cabin n).occupants)
  if r.life = .held ∧ (r.cls = .crew ∨ occupant = false) then .denyHeld
  else if occupant then occupantResult (s.cabin n).mode
  else if r.cls = .crew then crewResult (roleOf r s) (s.cabin n) s.muster.phase
  else .denyNotOccupant

/-- The fifth and the ninth check at a zone lock (R44, R48). -/
def zoneDecision (r : Record) (zone : Nat) (s : State) : Result :=
  if r.life = .held then .denyHeld
  else if r.cls = .crew ∧ (roleOf r s).zones.getLsbD zone = true then .ok
  else .denyZone

/-- The decision from the fourth check on, for a record found (R43 to R48). -/
def unlockResult (slot : Nat) (r : Record) (b : Option Binding) (s : State) : Result :=
  match unlockLocation r s with
  | some d => d
  | none =>
    match b with
    | some (.cabin n) => cabinDecision slot r n s
    | some b => zoneDecision r b.number s
    | none => .denyZone

/-- The mode an UNLOCK reply carries: the bound cabin's at take, absent from a zone lock (R49). -/
def modeAtTake (b : Option Binding) (s : State) : Option CabinMode :=
  match b with
  | some (.cabin n) => some (s.cabin n).mode
  | _ => none

/-- The body of an UNLOCK reply decided at the third check or later (R49). -/
def unlockBody (message : Option Nat) (mode : Option CabinMode) : List Byte :=
  optional byte message ++ optional (fun m => byte (cabinModeCode m)) mode

def decideUnlock (p : Port) (entry : TerminalEntry) (f : Frame) (s : State) : Verdict :=
  let n := f.field 0 6
  let mode := modeAtTake entry.binding s
  match lookup s n with
  | .found slot r =>
    { result := unlockResult slot r entry.binding s
      body := unlockBody r.guestMessage mode
      credential := some n
      slot := some slot
      state := consumeMessage slot r s }
  | l => notFound p f n l (unlockBody none mode) s

/-- UNLOCK (R42 to R49). -/
def execUnlock (port : Port) (s : State) : Host.Outcome State Fault Refusal :=
  .next (takeRequest port 0x10 isLock 6 (decideUnlock port) s)

/-! ## LOCK_MODE (R36, R37) -/

/-- The setting of a LOCK_MODE: 00h PRIVACY_OFF, 01h PRIVACY_ON (R171). -/
def lockSetting (v : Nat) : Option Bool := flagOf v

/-- LOCK_MODE by the mode at take (R37). -/
def decideLockMode (entry : TerminalEntry) (f : Frame) (s : State) : Verdict :=
  match lockSetting (f.field 0 1) with
  | none => bare .range s
  | some on =>
    let n := entry.boundTo
    let cabin := s.cabin n
    match cabin.mode with
    | .normal | .privacy =>
      let mode : CabinMode := if on then .privacy else .normal
      { bare .ok (s.putCabin n { cabin with mode := mode }) with body := byte (cabinModeCode mode) }
    | .service | .lockout => { bare .denyMode s with body := byte (cabinModeCode cabin.mode) }

/-- LOCK_MODE (R36, R37). -/
def execLockMode (port : Port) (s : State) : Host.Outcome State Fault Refusal :=
  .next (takeRequest port 0x11 isCabinLock 1 decideLockMode s)

/-! ## The cabin table (R30 to R35) -/

/-- Consecutive cabins take the zones of a list, the first from `n` (R30). -/
def loadZones (n : Nat) : List Nat → State → State
  | [], s => s
  | z :: zs, s => loadZones (n + 1) zs (s.putCabin n { s.cabin n with zone := z })

def decideSetCabinZones (body : List Byte) (s : State) : Decision :=
  checked (readCabinZones body) s fun q => done [] (loadZones q.1 q.2 s)

/-- SET_CABIN_ZONES (R30). -/
def execSetCabinZones (body : List Byte) (s : State) : Host.Outcome State Fault Refusal :=
  .next (manage 0x20 body (decideSetCabinZones body) s)

/-- A record names a cabin, as its home or its second (R29). -/
def Record.names (r : Record) (n : Nat) : Bool := decide (r.homeCabin = some n) || decide (r.secondCabin = some n)

/-- The refusal of an ASSIGN_CABIN, by the ordered checks of R31. -/
def assignRefusal (r : Record) (n : Nat) (s : State) : Option ReplyCode :=
  if r.names n then some .duplicate
  else if Config.cabinOccupants ≤ (s.cabin n).occupants.length then some .full
  else if r.homeCabin.isSome ∧ r.secondCabin.isSome then some .full
  else none

/-- A record with a cabin added as its home, or as its second when it has a home (R32). -/
def Record.assigned (r : Record) (n : Nat) : Record :=
  if r.homeCabin.isNone then { r with homeCabin := some n } else { r with secondCabin := some n }

def decideAssignCabin (body : List Byte) (s : State) : Decision :=
  checked (readSlotCabin body) s fun q =>
    withRecord q.1 s fun r =>
      match assignRefusal r q.2 s with
      | some c => refuse c s
      | none =>
        let c := s.cabin q.2
        done (byte (c.occupants.length + 1) ++ byte (if r.homeCabin.isNone then 0 else 1))
          ((s.putRecord q.1 (r.assigned q.2)).putCabin q.2 { c with occupants := c.occupants ++ [q.1] })

/-- ASSIGN_CABIN (R31, R32). -/
def execAssignCabin (body : List Byte) (s : State) : Host.Outcome State Fault Refusal :=
  .next (manage 0x21 body (decideAssignCabin body) s)

/-- A record with a cabin it names taken out; a second cabin moves up to be the home cabin (R33). -/
def Record.vacated (r : Record) (n : Nat) : Record :=
  if r.secondCabin = some n then { r with secondCabin := none }
  else { r with homeCabin := r.secondCabin, secondCabin := none }

def decideVacateCabin (body : List Byte) (s : State) : Decision :=
  checked (readSlotCabin body) s fun q =>
    withRecord q.1 s fun r =>
      if !r.names q.2 then refuse .notFound s
      else
        let s1 := leaveCabin q.1 q.2 (s.putRecord q.1 (r.vacated q.2))
        done (byte (s1.cabin q.2).occupants.length) s1

/-- VACATE_CABIN (R33). -/
def execVacateCabin (body : List Byte) (s : State) : Host.Outcome State Fault Refusal :=
  .next (manage 0x22 body (decideVacateCabin body) s)

def decideSetCabinMode (body : List Byte) (s : State) : Decision :=
  checked (readCabinMode body) s fun q =>
    done (byte (cabinModeCode (s.cabin q.1).mode)) (s.putCabin q.1 { s.cabin q.1 with mode := q.2 })

/-- SET_CABIN_MODE (R35). -/
def execSetCabinMode (body : List Byte) (s : State) : Host.Outcome State Fault Refusal :=
  .next (manage 0x23 body (decideSetCabinMode body) s)

/-! ## Roles and class policies (R39 to R41) -/

def decideLoadRole (body : List Byte) (s : State) : Decision :=
  checked (readRoleLoad body) s fun q =>
    done [] { s with access := { s.access with roles := s.access.roles.putValue Role.powerOn q.1 q.2 } }

/-- LOAD_ROLE (R39). -/
def execLoadRole (body : List Byte) (s : State) : Host.Outcome State Fault Refusal :=
  .next (manage 0x24 body (decideLoadRole body) s)

def decideSetRole (body : List Byte) (s : State) : Decision :=
  checked (readSlotAnd (upTo 31) body) s fun q =>
    withRecord q.1 s fun r =>
      if r.cls ≠ .crew then refuse .wrongState s
      else done (byte (r.role.getD 0)) (s.putRecord q.1 { r with role := some q.2 })

/-- SET_ROLE (R40). -/
def execSetRole (body : List Byte) (s : State) : Host.Outcome State Fault Refusal :=
  .next (manage 0x25 body (decideSetRole body) s)

def decideSetClassPolicy (body : List Byte) (s : State) : Decision :=
  checked (readClassPolicy body) s fun q =>
    done [] { s with access := { s.access with policies := s.access.policies.set q.1 q.2 } }

/-- SET_CLASS_POLICY (R41). -/
def execSetClassPolicy (body : List Byte) (s : State) : Host.Outcome State Fault Refusal :=
  .next (manage 0x26 body (decideSetClassPolicy body) s)

/-! ## Reading the access tables (R50) -/

/-- A run of consecutive numbers. -/
def run (first count : Nat) : List Nat := (List.range count).map (first + ·)

def decideReadCabin (body : List Byte) (s : State) : Decision :=
  checked (readRun 2 16 Config.cabins body) s fun q =>
    done (listBytes (fun n => cabinBytes (s.cabin n)) (run q.1 q.2)) s

/-- READ_CABIN (R50). -/
def execReadCabin (body : List Byte) (s : State) : Host.Outcome State Fault Refusal :=
  .next (manage 0x27 body (decideReadCabin body) s)

def decideReadRole (body : List Byte) (s : State) : Decision :=
  checked (readNumber 1 (fun n => decide (n < Config.roles)) body) s fun n => done (roleBytes (s.role n)) s

/-- READ_ROLE (R50). -/
def execReadRole (body : List Byte) (s : State) : Host.Outcome State Fault Refusal :=
  .next (manage 0x28 body (decideReadRole body) s)

end Sys2Proof.Machine
end

