-- ==== Sys2Proof/Machine/Charges.lean ====
section
/-! DEFINITION. Venues and the charge computation (06): CHARGE and the management requests of the chapter. -/

namespace Sys2Proof.Machine

/-! ## The checks that CHARGE and OPEN_TAB share (R127 to R129, R144) -/

/-- The checks from the third to the fifth: the phase, the amount and flags, the venue (R127, R144). -/
def purchaseGate (rangeGood : Bool) (venue : Nat) (s : State) : Option Result :=
  if s.muster.phase = .muster then some .denyPhase
  else if !rangeGood then some .range
  else if !(s.venue venue).isOpen then some .denyVenueClosed
  else none

/-- The class of a record is in a venue's class set. -/
def Venue.admits (v : Venue) (c : PersonClass) : Bool := v.classes.getLsbD (classCode c)

/-- The eighth check: the record's location (R128). -/
def purchaseLocation (r : Record) : Option Result :=
  match r.location with
  | .aboard => none
  | .notEmbarked => some .denyNotEmbarked
  | .ashore => some .denyAshore
  | .disembarked => some .denyDeparted

/-- The tenth and the eleventh check: the folio's state (R129). -/
def folioRefusal (f : Folio) : Option Result :=
  match f.state with
  | .closed => some .denyFolioClosed
  | .suspended => some .denySuspended
  | .active | .grace => none

/-- The checks from the seventh to the eleventh, for a record found and its folio (R128, R129). -/
def purchaseRefusal (r : Record) (alcohol : Bool) (v : Venue) (f : Folio) : Option Result :=
  if r.life = .held then some .denyHeld
  else
    match purchaseLocation r with
    | some d => some d
    | none =>
      if !v.admits r.cls || (alcohol && decide (r.cls = .guestMinor)) then some .denyClass else folioRefusal f

/-- A folio no record can name while it is ACTIVE or HELD: one that is FREE (R129). It refuses every purchase. -/
def Folio.free : Folio where
  state := .closed
  cause := none
  resumeMode := .auto
  soft := 0
  hard := 0
  allowance := 0
  grace := 0
  balance := 0
  holds := 0
  prepaid := 0
  openTabs := 0
  members := 0
  spend := 0
  spendPrevious := 0

/-- The folio that a record names (R101, R129). -/
def folioOf (r : Record) (s : State) : Folio := (s.folio r.folio).getD Folio.free

/-! ## The reply (R138) -/

/-- The body of a CHARGE reply from the sixth check on: the fields absent where R138 has them so. -/
def chargeBody (k v w e g message : Option Nat) : List Byte :=
  optional (bytes 4) k ++ optional (bytes 4) v ++ optional (bytes 4) w ++ optional (bytes 4) e ++ optional byte g ++
    optional byte message

/-! ## CHARGE (R127 to R138) -/

/-- An approved charge: the folio unit's and the record store's part of the posting, as one change (R107, R137). -/
def postCharge (slot : Nat) (folio : Nat) (f : Folio) (g : Figures) (graced : Bool) (s : State) : State :=
  let s1 := if g.d = 0 then s else storeReevaluated folio (f.posted g graced) s
  postToRecord slot g s1

/-- What a declined limit stage does to the folio: a decline against the stored limits suspends a folio in GRACE
(R136, with the exposure the stage used). -/
def declineLimit (folio : Nat) (f : Folio) (x : Int) (e : Nat) (s : State) : State :=
  if f.state = .grace ∧ againstStored x e f = true then limitDecline folio f s else s

/-- Grace remaining of the folio in a slot, after the request. -/
def graceAt (slot : Nat) (s : State) : Nat := ((s.folio slot).map Folio.grace).getD 0

/-- The computation of a charge, its decision and its effect, for a record that passed the eleven checks
(R130 to R137): the result, what it does, and the reply body. -/
def computeCharge (slot : Nat) (r : Record) (amount : Nat) (flags : ItemFlags) (v : Venue) (f : Folio)
    (message : Option Nat) (s : State) : Result × List Byte × State :=
  let g := figures amount flags r (s.tier r.tier) v f.prepaid
  if overCap r g.d then (.denyCap, chargeBody (some g.k) (some g.v) none none (some f.grace) message, s)
  else
    let limits := effectiveLimits s f v.category
    let a := limitStage f.exposure g.e limits.1 limits.2 f.grace
    let s1 :=
      match a with
      | .deny => declineLimit r.folio f f.exposure g.e s
      | .ok => postCharge slot r.folio f g false s
      | .grace => postCharge slot r.folio f g true s
    (a.result, chargeBody (some g.k) (some g.v) (some g.w) (some g.e) (some (graceAt r.folio s1)) message, s1)

def decideCharge (p : Port) (entry : TerminalEntry) (f : Frame) (s : State) : Verdict :=
  let n := f.field 0 6
  let amount := f.field 6 4
  let flags := itemFlags (f.field 10 1)
  let v := s.venue entry.boundTo
  match purchaseGate (decide (1 ≤ amount) && decide (amount ≤ 2000000) && flags.isSome) entry.boundTo s, flags with
  | some d, _ => alone d n none s
  | none, none => alone .range n none s
  | none, some flags =>
    match lookup s n with
    | .found slot r =>
      let s1 := consumeMessage slot r s
      match purchaseRefusal r flags.alcohol v (folioOf r s) with
      | some d =>
        { result := d
          body := chargeBody none none none none none r.guestMessage
          credential := some n
          slot := some slot
          state := s1 }
      | none =>
        let o := computeCharge slot r.shown amount flags v (folioOf r s) r.guestMessage s1
        { result := o.1, body := o.2.1, credential := some n, slot := some slot, state := o.2.2 }
    | l => notFound p f n l (chargeBody none none none none none none) s

/-- CHARGE (R127 to R138). -/
def execCharge (port : Port) (s : State) : Host.Outcome State Fault Refusal :=
  .next (takeRequest port 0x20 isPos 11 (decideCharge port) s)

/-! ## Venues and tiers (R122 to R126) -/

def State.putVenue (s : State) (n : Nat) (v : Venue) : State :=
  { s with charge := { s.charge with venues := s.charge.venues.putValue Venue.powerOn n v } }

def decideLoadVenue (body : List Byte) (s : State) : Decision :=
  checked (readVenueLoad body) s fun q =>
    done (bytes 2 q.rate)
      (s.putVenue q.venue
        { s.venue q.venue with
          category := q.category, rate := q.rate, classes := q.classes, timeoutCode := q.timeoutCode })

/-- LOAD_VENUE (R123). -/
def execLoadVenue (body : List Byte) (s : State) : Host.Outcome State Fault Refusal :=
  .next (manage 0x50 body (decideLoadVenue body) s)

def decideSetVenueOpen (body : List Byte) (s : State) : Decision :=
  checked (readVenueOpen body) s fun q =>
    done (flagByte (s.venue q.1).isOpen) (s.putVenue q.1 { s.venue q.1 with isOpen := q.2 })

/-- SET_VENUE_OPEN (R124). -/
def execSetVenueOpen (body : List Byte) (s : State) : Host.Outcome State Fault Refusal :=
  .next (manage 0x51 body (decideSetVenueOpen body) s)

def decideLoadTier (body : List Byte) (s : State) : Decision :=
  checked (readTierLoad body) s fun q =>
    done (tierBytes q.2) { s with charge := { s.charge with tiers := s.charge.tiers.putValue Tier.powerOn q.1 q.2 } }

/-- LOAD_TIER (R125). -/
def execLoadTier (body : List Byte) (s : State) : Host.Outcome State Fault Refusal :=
  .next (manage 0x52 body (decideLoadTier body) s)

def decideReadVenue (body : List Byte) (s : State) : Decision :=
  checked (readRun 1 16 Config.venues body) s fun q =>
    done (listBytes (fun n => venueBytes (s.venue n)) (run q.1 q.2)) s

/-- READ_VENUE (R126). -/
def execReadVenue (body : List Byte) (s : State) : Host.Outcome State Fault Refusal :=
  .next (manage 0x53 body (decideReadVenue body) s)

def decideReadTier (body : List Byte) (s : State) : Decision :=
  checked (readNothing body) s fun _ => done ((run 1 7).flatMap fun n => tierBytes (s.tier n)) s

/-- READ_TIER (R126). -/
def execReadTier (body : List Byte) (s : State) : Host.Outcome State Fault Refusal :=
  .next (manage 0x54 body (decideReadTier body) s)

end Sys2Proof.Machine
end

