-- ==== Sys2Proof/Machine/Ports.lean ====
section
/-! DEFINITION. Terminal ports and request frames (08): RECEIVED_BYTE, INTER_BYTE_GAP, FRAME_ARRIVAL,
PORT_SILENCE_EXPIRY, UNKNOWN_REQUEST_KIND, PING, and the host's port and terminal requests. -/

namespace Sys2Proof.Machine

/-! ## The receiver (R160 to R163) -/

/-- A frame of a port is discarded: the error counter rises by 1 up to 255, and PORT_ERRORS is raised when it comes
to 16 (R161, R163). -/
def discardFrame (p : Port) (s : State) : State :=
  let b := s.port p
  let s1 := s.setPort p { b with errors := min 255 (b.errors + 1) }
  if b.errors = 15 then raisePortErrors p s1 else s1

/-- The receiver of a port goes to a state. -/
def setReceiver (p : Port) (r : Receiver) (s : State) : State := s.setPort p { s.port p with receiver := r }

/-- The frame partly received is discarded, and the receiver is in HUNT (R160). -/
def dropPartFrame (p : Port) (s : State) : State := discardFrame p (setReceiver p .hunt s)

/-- A gap of more than 2 ms has followed the last byte of the frame being received (R160). -/
def State.gapPassed (s : State) (p : Port) : Bool :=
  match (s.port p).receiver with
  | .frame _ last => decide (last + 2 < s.moment)
  | .hunt => false

/-- INTER_BYTE_GAP, where such a gap has passed (R160). -/
def endGap (p : Port) (s : State) : State := if s.gapPassed p then dropPartFrame p s else s

/-- INTER_BYTE_GAP (R160). -/
def execInterByteGap (port : Port) (s : State) : Host.Outcome State Fault Refusal := .next (endGap port s)

/-- The frame checks: TERM is 0 to 63, and the check sum matches (R161). The bytes are those after SYNC. -/
def frameGood (whole : List Byte) : Bool :=
  match whole with
  | _ :: term :: _ :: _ :: _ =>
    decide (term.toNat < Config.terminalsPerPort) &&
      decide (whole.drop (whole.length - 2) = checkSumBytes (whole.take (whole.length - 2)))
  | _ => false

/-- The frame that the bytes after SYNC spell (R159). -/
def frameOf (whole : List Byte) : Frame :=
  match whole with
  | length :: term :: tag :: kind :: rest =>
    { term := term.toNat, tag := tag, kind := kind, body := rest.take length.toNat }
  | _ => { term := 0, tag := 0, kind := 0, body := [] }

/-- An arrival restarts the silence timer and makes the port ACTIVE; its run time is kept (R164, R168, R176). -/
def PortBlock.heard (b : PortBlock) (now : Nat) : PortBlock :=
  { b with silence := .active, silenceExpiry := some (now + 10), lastArrival := some now }

/-- A reply that needs no take: PORT_FULL, decided at the arrival (R164, R166). -/
def portFull (p : Port) (f : Frame) (s : State) : State :=
  reportRefusal p f.term .portFull none none
    (s.setPort p
      { s.port p with
        replies := (s.port p).replies ++ [{ term := f.term, tag := f.tag, result := .portFull, body := [] }] })

/-- A frame has arrived: it is queued, or answered PORT_FULL when the queue holds 8 frames (R164). -/
def arrive (p : Port) (f : Frame) (s : State) : State :=
  let s1 := s.setPort p ((s.port p).heard s.clock.runTime)
  if (s.port p).queue.length < Config.queueSize then
    s1.setPort p { s1.port p with queue := (s1.port p).queue ++ [f] }
  else portFull p f s1

/-- The frame checks of a frame collected whole: it arrives, or is discarded (R161). -/
def settle (p : Port) (s : State) : State :=
  match (s.port p).whole with
  | some bs =>
    let s1 := s.setPort p { s.port p with whole := none }
    if frameGood bs then arrive p (frameOf bs) s1 else discardFrame p s1
  | none => s

/-- FRAME_ARRIVAL (R161, R164). -/
def execFrameArrival (port : Port) (s : State) : Host.Outcome State Fault Refusal := .next (settle port s)

/-- The bytes of a frame after SYNC are all there: LENGTH names the size of the body (R160). -/
def collectedWhole (bs : List Byte) : Bool :=
  match bs with
  | length :: _ => decide (bs.length = length.toNat + 6)
  | [] => false

/-- A byte is taken in HUNT: C3h begins a frame, any other byte is dropped (R160). -/
def huntByte (p : Port) (byte : Byte) (s : State) : State :=
  if byte = 0xC3 then setReceiver p (.frame [] s.moment) s else s

/-- A byte is taken in FRAME, after the bytes collected: it is kept, or ends the frame with a discard (R160). -/
def frameByte (p : Port) (collected : List Byte) (byte : Byte) (stopGood : Bool) (s : State) : State :=
  if !stopGood then dropPartFrame p s
  else if collected.isEmpty && decide (Config.frameBody < byte.toNat) then dropPartFrame p s
  else if collectedWhole (collected ++ [byte]) then
    s.setPort p { s.port p with receiver := .hunt, whole := some (collected ++ [byte]) }
  else setReceiver p (.frame (collected ++ [byte]) s.moment) s

/-- A byte is received. The checks of a frame collected whole come first, and so does the discard of a frame that
a gap has ended: the byte that ends the gap is taken in HUNT (R160). -/
def receive (p : Port) (byte : Byte) (stopGood : Bool) (s : State) : State :=
  let s1 := endGap p (settle p s)
  match (s1.port p).receiver with
  | .hunt => huntByte p byte s1
  | .frame collected _ => frameByte p collected byte stopGood s1

/-- RECEIVED_BYTE (R160). -/
def execReceivedByte (port : Port) (byte : Byte) (stopGood : Bool) (s : State) : Host.Outcome State Fault Refusal :=
  .next (receive port byte stopGood s)

/-! ## Port silence (R168) -/

/-- The expiry of the silence timer of a port, when it is due. -/
def expireSilence (p : Port) (s : State) : State :=
  match (s.port p).silence, (s.port p).silenceExpiry with
  | .active, some e =>
    if e ≤ s.clock.runTime then
      raisePortSilent p (s.setPort p { s.port p with silence := .silent, silenceExpiry := none })
    else s
  | _, _ => s

/-- PORT_SILENCE_EXPIRY (R168). -/
def execPortSilenceExpiry (port : Port) (s : State) : Host.Outcome State Fault Refusal := .next (expireSilence port s)

/-! ## Requests that the port controller answers (R172, R174) -/

/-- A taken frame whose kind is not in the table of request kinds is answered BAD_REQUEST (R172, part 1). -/
def takeUnknownKind (p : Port) (s : State) : State :=
  match s.oldestFrame p with
  | some f => if f.kind ∈ terminalKinds then endInHand p s else answer p f (bare .badRequest (takeFrame p s))
  | none => endInHand p s

/-- UNKNOWN_REQUEST_KIND (R172). -/
def execUnknownRequestKind (port : Port) (s : State) : Host.Outcome State Fault Refusal :=
  .next (takeUnknownKind port s)

/-- The reply body of a PING (R174). -/
def pingBody (e : TerminalEntry) (s : State) : List Byte :=
  byte (serviceCode s.management.service) ++ optional (fun k => byte (terminalKindCode k)) e.kind ++ flagByte e.enabled

def decidePing (entry : TerminalEntry) (_f : Frame) (s : State) : Verdict :=
  { result := .ok, body := pingBody entry s, credential := none, slot := none, state := s }

/-- PING (R174). -/
def execPing (port : Port) (s : State) : Host.Outcome State Fault Refusal :=
  .next (takeRequest port 0x00 (fun _ => true) 0 decidePing s)

/-! ## The terminal table (R169, R170) -/

/-- A terminal entry is written. -/
def State.putTerminal (s : State) (p : Port) (term : Nat) (e : TerminalEntry) : State :=
  { s with terminals := s.terminals.putValue TerminalEntry.powerOn (terminalKey p term) e }

def decideLoadTerminal (body : List Byte) (s : State) : Decision :=
  checked (readTerminalLoad body) s fun q =>
    done (terminalBytes (s.terminal q.port q.term)) (s.putTerminal q.port q.term q.entry)

/-- LOAD_TERMINAL (R170). -/
def execLoadTerminal (body : List Byte) (s : State) : Host.Outcome State Fault Refusal :=
  .next (manage 0x60 body (decideLoadTerminal body) s)

/-- An entry whose kind is absent is refused for either flag: R170 refuses "setting the flag" of such an entry and does
not say whether a flag carried clear is refused too (DESIGN CHOICE, log 34). -/
def decideTerminalEnabled (body : List Byte) (s : State) : Decision :=
  checked (readTerminalEnable body) s fun (p, t, enabled) =>
    let e := s.terminal p t
    if e.kind.isNone then refuse .wrongState s
    else done (flagByte e.enabled) (s.putTerminal p t { e with enabled := enabled })

/-- SET_TERMINAL_ENABLED (R170). -/
def execSetTerminalEnabled (body : List Byte) (s : State) : Host.Outcome State Fault Refusal :=
  .next (manage 0x61 body (decideTerminalEnabled body) s)

/-! ## Port requests from the host (R175, R176) -/

/-- A port as PORT_RESET leaves it (R175): a request in hand, replies decided, and the last arrival are kept. -/
def PortBlock.reset (b : PortBlock) (now : Nat) : PortBlock :=
  { b with queue := [], receiver := .hunt, errors := 0, silence := .active, silenceExpiry := some (now + 10) }

def decidePortReset (body : List Byte) (s : State) : Decision :=
  checked (readPort body) s fun p =>
    done (byte (s.port p).queue.length ++ byte (s.port p).errors)
      (s.setPort p ((s.port p).reset s.clock.runTime))

/-- PORT_RESET (R175). -/
def execPortReset (body : List Byte) (s : State) : Host.Outcome State Fault Refusal :=
  .next (manage 0x62 body (decidePortReset body) s)

/-- The reply fields of READ_PORT (R176). -/
def portBytes (b : PortBlock) : List Byte :=
  byte b.errors ++ byte (silenceCode b.silence) ++ byte b.queue.length ++ optional (bytes 4) b.lastArrival

def decideReadPort (body : List Byte) (s : State) : Decision :=
  checked (readPort body) s fun p =>
    done (portBytes (s.port p)) (s.setPort p { s.port p with errors := 0 })

/-- READ_PORT (R176): the error counter is cleared after it is read. -/
def execReadPort (body : List Byte) (s : State) : Host.Outcome State Fault Refusal :=
  .next (manage 0x63 body (decideReadPort body) s)

/-- The terminals of one page of a READ_TERMINALS: up to 16, stopping at terminal 63 (R176). -/
def terminalPage (first : Nat) : List Nat :=
  (List.range (min 16 (Config.terminalsPerPort - first))).map (first + ·)

def decideReadTerminals (body : List Byte) (s : State) : Decision :=
  checked (readTerminalRun body) s fun (p, first) =>
    done (listBytes (fun t => terminalBytes (s.terminal p t)) (terminalPage first)) s

/-- READ_TERMINALS (R176). -/
def execReadTerminals (body : List Byte) (s : State) : Host.Outcome State Fault Refusal :=
  .next (manage 0x64 body (decideReadTerminals body) s)

end Sys2Proof.Machine
end

