-- ==== Sys2Proof/Machine/Records.lean ====
section
/-! DEFINITION. Guest records and credentials (01): the management requests of the chapter, LOOKUP, and the expiry of
a reservation. -/

namespace Sys2Proof.Machine

/-! ## Issuing (R8, R9) -/

/-- The record an ISSUE_RECORD makes: the fields carried, and every other field at its value at issue (R9). -/
def issuedRecord (q : IssueFields) : Record where
  life := .active
  cls := q.cls
  reference := q.reference
  folio := q.folio
  role := q.role
  homeCabin := none
  secondCabin := none
  location := q.location
  final := false
  lastPassage := none
  station := q.station
  musterFlag := false
  musteredAt := none
  tier := q.tier
  drinks := 0
  cap := q.cap
  spend := 0
  spendPrevious := 0
  message := 0
  shows := 0
  watchMode := .none
  credentials := []
  reservation := none

/-- The effects of an accepted ISSUE_RECORD, in a FREE slot (R9, R71). -/
def issueInto (slot : Nat) (q : IssueFields) (s : State) : State :=
  let before := s.passage.counts
  let s1 := gainMember q.folio (s.putRecord slot (issuedRecord q))
  report .records (reconcile before (s1.setCounts (addCell before q.cls q.location)))

def decideIssue (body : List Byte) (s : State) : Decision :=
  checked (readIssue body) s fun q =>
    withFolio q.folio s fun f =>
      if f.state = .suspended ∨ f.state = .closed then refuse .wrongState s
      else if Config.folioMembers ≤ f.members then refuse .full s
      else
        match s.store.records.lowestFree Config.recordSlots 0 with
        | none => refuse .full s
        | some slot => done (bytes 2 slot) (issueInto slot q s)

/-- ISSUE_RECORD (R8, R9). -/
def execIssueRecord (body : List Byte) (s : State) : Host.Outcome State Fault Refusal :=
  .next (manage 0x01 body (decideIssue body) s)

/-! ## Reserving and confirming (R10 to R14) -/

/-- The number stands in the revocation list. -/
def State.isRevoked (s : State) (n : Nat) : Bool := s.store.revoked.any fun v => decide (v.number = n)

/-- A number stands in a record's credentials list. -/
def Record.holds (r : Record) (n : Nat) : Bool := r.credentials.any fun c => decide (c.number = n)

/-- The refusal of a RESERVE_CREDENTIAL, by the ordered checks of R10. -/
def reserveRefusal (q : ReserveFields) (r : Record) (s : State) : Option ReplyCode :=
  if (s.store.index.find q.number).isSome then some .duplicate
  else if s.isRevoked q.number then some .revokedNumber
  else if q.replaces.any fun n => !r.holds n then some .notFound
  else if r.reservation.isSome then some .credFull
  else if 2 ≤ r.credentials.length ∧ q.replaces = none then some .credFull
  else if Config.indexSize ≤ s.store.index.length then some .full
  else none

/-- The effects of an accepted RESERVE_CREDENTIAL, up to the report of the index (R11). -/
def reserved (q : ReserveFields) (r : Record) (s : State) : State :=
  let v : Reservation :=
    { number := q.number, kind := q.kind, replaces := q.replaces,
      expiry := s.clock.runTime + reservationTime s.settings.reservationCode }
  (s.putRecord q.slot { r with reservation := some v }).putIndex q.number { slot := q.slot, status := .pending }

def decideReserve (body : List Byte) (s : State) : Decision :=
  checked (readReserve body) s fun q =>
    withRecord q.slot s fun r =>
      match reserveRefusal q r s with
      | some c => refuse c s
      | none =>
        done (bytes 4 (s.clock.runTime + reservationTime s.settings.reservationCode))
          (report .credentials (reserved q r s))

/-- RESERVE_CREDENTIAL (R10, R11). -/
def execReserveCredential (body : List Byte) (s : State) : Host.Outcome State Fault Refusal :=
  .next (manage 0x02 body (decideReserve body) s)

/-- The replaced credential that a confirmation revokes: named, and still in the record's list (R12). -/
def replacedNow (r : Record) (v : Reservation) : Option Nat :=
  match v.replaces with
  | some n => if r.holds n then some n else none
  | none => none

/-- The pending number becomes ACTIVE and joins the end of the record's list; the pending field becomes absent (R12). -/
def confirmInto (slot : Nat) (v : Reservation) (s : State) : State :=
  match s.record slot with
  | some r =>
    (s.putRecord slot
      { r with credentials := r.credentials ++ [{ number := v.number, kind := v.kind }], reservation := none }).putIndex
        v.number { slot := slot, status := .active }
  | none => s

def decideConfirm (body : List Byte) (s : State) : Decision :=
  checked (readSlotCredential body) s fun q =>
    withRecord q.1 s fun r =>
      match r.reservation with
      | none => refuse .notFound s
      | some v =>
        if v.number ≠ q.2 then refuse .notFound s
        else
          match replacedNow r v with
          | some n => done (optional (bytes 6) (some n)) (confirmInto q.1 v (revoke q.1 n .replaced s))
          | none => done (optional (bytes 6) none) (confirmInto q.1 v s)

/-- CONFIRM_CREDENTIAL (R12). -/
def execConfirmCredential (body : List Byte) (s : State) : Host.Outcome State Fault Refusal :=
  .next (manage 0x03 body (decideConfirm body) s)

def decideCancel (body : List Byte) (s : State) : Decision :=
  checked (readSlotCredential body) s fun q =>
    withRecord q.1 s fun r =>
      match r.reservation with
      | none => refuse .notFound s
      | some v => if v.number ≠ q.2 then refuse .notFound s else done [] (endReservation q.1 r v s)

/-- CANCEL_CREDENTIAL (R13). -/
def execCancelCredential (body : List Byte) (s : State) : Host.Outcome State Fault Refusal :=
  .next (manage 0x04 body (decideCancel body) s)

/-- The expiry of a record's reservation, when it is due (R14). The index's report comes before the raise, and each is an
event of its own for the NOTICE line (R199; log 31). -/
def expireReservation (slot : Nat) (s : State) : State :=
  match s.record slot with
  | some r =>
    match r.reservation with
    | some v => if v.expiry ≤ s.clock.runTime then raise .reserveExpired (endReservation slot r v s) else s
    | none => s
  | none => s

/-- RESERVATION_EXPIRY (R14). -/
def execReservationExpiry (slot : Nat) (s : State) : Host.Outcome State Fault Refusal :=
  .next (expireReservation slot s)

/-! ## Revoking (R5 to R7, R15) -/

def decideRevoke (body : List Byte) (s : State) : Decision :=
  checked (readRevoke body) s fun q =>
    match s.store.index.find q.1 with
    | some { slot := slot, status := .active } => done (bytes 2 slot) (revoke slot q.1 q.2 s)
    | some { slot := _, status := .pending } => refuse .wrongState s
    | none => if s.isRevoked q.1 then refuse .duplicate s else refuse .notFound s

/-- REVOKE_CREDENTIAL (R15). -/
def execRevokeCredential (body : List Byte) (s : State) : Host.Outcome State Fault Refusal :=
  .next (manage 0x05 body (decideRevoke body) s)

def decideRemoveRevoked (body : List Byte) (s : State) : Decision :=
  checked (readCredential body) s fun n =>
    match s.store.revoked.find? fun v => decide (v.number = n) with
    | some v =>
      done (bytes 2 v.slot ++ byte (reasonCode v.reason))
        (report .revocations
          { s with store := { s.store with revoked := s.store.revoked.filter fun w => decide (w.number ≠ n) } })
    | none => refuse .notFound s

/-- REMOVE_REVOKED (R6). -/
def execRemoveRevoked (body : List Byte) (s : State) : Host.Outcome State Fault Refusal :=
  .next (manage 0x06 body (decideRemoveRevoked body) s)

def decideReadRevoked (body : List Byte) (s : State) : Decision :=
  checked (readPosition body) s fun p =>
    done (bytes 2 s.store.revoked.length ++ listBytes revocationBytes ((s.store.revoked.drop p).take 32)) s

/-- READ_REVOKED (R7). -/
def execReadRevoked (body : List Byte) (s : State) : Host.Outcome State Fault Refusal :=
  .next (manage 0x11 body (decideReadRevoked body) s)

/-! ## Holding, releasing, retiring (R16 to R18) -/

def decideHold (body : List Byte) (s : State) : Decision :=
  checked (readSlot body) s fun slot =>
    withRecord slot s fun r =>
      if r.life = .held then refuse .wrongState s else done [] (s.putRecord slot { r with life := .held })

/-- HOLD_RECORD (R16). -/
def execHoldRecord (body : List Byte) (s : State) : Host.Outcome State Fault Refusal :=
  .next (manage 0x07 body (decideHold body) s)

def decideRelease (body : List Byte) (s : State) : Decision :=
  checked (readSlot body) s fun slot =>
    withRecord slot s fun r =>
      if r.life = .active then refuse .wrongState s else done [] (s.putRecord slot { r with life := .active })

/-- RELEASE_RECORD (R16). -/
def execReleaseRecord (body : List Byte) (s : State) : Host.Outcome State Fault Refusal :=
  .next (manage 0x08 body (decideRelease body) s)

/-- The refusal of a RETIRE_RECORD, by the ordered checks of R17. -/
def retireRefusal (slot : Nat) (r : Record) (s : State) : Option ReplyCode :=
  if r.location = .aboard ∨ r.location = .ashore then some .wrongState
  else if s.opensTabs slot then some .tabsOpen
  else
    match s.folio r.folio with
    | some f => if f.members ≤ 1 ∧ f.state ≠ .closed then some .folioOpen else none
    | none => none

/-- The first two steps of a retirement: the credentials are revoked, oldest first, and the reservation ends (R18). -/
def retireCredentials (slot : Nat) (r : Record) (s : State) : State :=
  let s1 := r.credentials.foldl (fun t c => revoke slot c.number .retired t) s
  match s1.record slot, r.reservation with
  | some r1, some v => endReservation slot r1 v s1
  | _, _ => s1

/-- The entry of a record leaves the watch set, if it has one (R68). -/
def leaveWatch (slot : Nat) (s : State) : State :=
  if s.passage.watch.any fun e => decide (e.slot = slot) then
    setWatch (s.passage.watch.filter fun e => decide (e.slot ≠ slot)) s
  else s

/-- A slot becomes FREE, and the record table reports its occupancy (R1, R27). -/
def freeRecord (slot : Nat) (s : State) : State :=
  report .records { s with store := { s.store with records := s.store.records.drop slot } }

/-- The steps of a retirement, in the order of R18. -/
def retire (slot : Nat) (r : Record) (s : State) : State :=
  let s1 := retireCredentials slot r s
  let s2 := leaveCabin? slot r.secondCabin (leaveCabin? slot r.homeCabin s1)
  let s3 := leaveWatch slot s2
  let before := s3.passage.counts
  let s4 := reconcile before (s3.setCounts (subCell before r.cls r.location))
  freeRecord slot (loseMember r.folio s4)

def decideRetire (body : List Byte) (s : State) : Decision :=
  checked (readSlot body) s fun slot =>
    withRecord slot s fun r =>
      match retireRefusal slot r s with
      | some c => refuse c s
      | none => done (byte r.credentials.length) (retire slot r s)

/-- RETIRE_RECORD (R17, R18). -/
def execRetireRecord (body : List Byte) (s : State) : Host.Outcome State Fault Refusal :=
  .next (manage 0x09 body (decideRetire body) s)

/-! ## Setting fields (R19 to R21) -/

def decideSetMessage (body : List Byte) (s : State) : Decision :=
  checked (readMessage body) s fun q =>
    withRecord q.1 s fun r =>
      let cleared := q.2.1 = 0 ∨ q.2.2 = 0
      done []
        (s.putRecord q.1
          { r with message := if cleared then 0 else q.2.1, shows := if cleared then 0 else q.2.2 })

/-- SET_MESSAGE (R19). -/
def execSetMessage (body : List Byte) (s : State) : Host.Outcome State Fault Refusal :=
  .next (manage 0x0A body (decideSetMessage body) s)

def decideSetWatch (body : List Byte) (s : State) : Decision :=
  checked (readSlotAnd watchModeOf body) s fun q =>
    withRecord q.1 s fun r => done [] (s.putRecord q.1 { r with watchMode := q.2 })

/-- SET_WATCH (R20). -/
def execSetWatch (body : List Byte) (s : State) : Host.Outcome State Fault Refusal :=
  .next (manage 0x0B body (decideSetWatch body) s)

def decideSetFinal (body : List Byte) (s : State) : Decision :=
  checked (readSlotAnd flagOf body) s fun q =>
    withRecord q.1 s fun r => done [] (s.putRecord q.1 { r with final := q.2 })

/-- SET_FINAL (R20). -/
def execSetFinal (body : List Byte) (s : State) : Host.Outcome State Fault Refusal :=
  .next (manage 0x0C body (decideSetFinal body) s)

def decideSetTier (body : List Byte) (s : State) : Decision :=
  checked (readSlotAnd (upTo 7) body) s fun q =>
    withRecord q.1 s fun r => done [] (s.putRecord q.1 { r with tier := q.2 })

/-- SET_TIER (R21). -/
def execSetTier (body : List Byte) (s : State) : Host.Outcome State Fault Refusal :=
  .next (manage 0x0D body (decideSetTier body) s)

def decideSetCap (body : List Byte) (s : State) : Decision :=
  checked (readCap body) s fun q =>
    withRecord q.1 s fun r => done [] (s.putRecord q.1 { r with cap := q.2 })

/-- SET_CAP (R21). -/
def execSetCap (body : List Byte) (s : State) : Host.Outcome State Fault Refusal :=
  .next (manage 0x0E body (decideSetCap body) s)

/-! ## Reading (R25, R26) -/

def decideReadRecord (body : List Byte) (s : State) : Decision :=
  checked (readSlot body) s fun slot =>
    match s.record slot with
    | some r => done (recordBytes r) s
    | none => done (byte (recordStateCode none)) s

/-- READ_RECORD (R26). -/
def execReadRecord (body : List Byte) (s : State) : Host.Outcome State Fault Refusal :=
  .next (manage 0x0F body (decideReadRecord body) s)

/-- The kind of an active credential of a record. -/
def Record.kindOf (r : Record) (n : Nat) : CredentialKind :=
  ((r.credentials.find? fun c => decide (c.number = n)).map Credential.kind).getD .card

/-- The reply fields of FIND_CREDENTIAL: the finding, and what it gives (R26). -/
def finding (n : Nat) (s : State) : List Byte :=
  match s.store.index.find n with
  | some { slot := slot, status := .active } =>
    match s.record slot with
    | some r => byte 0 ++ bytes 2 slot ++ byte (credentialKindCode (r.kindOf n))
    | none => byte 3
  | some { slot := slot, status := .pending } =>
    match (s.record slot).bind Record.reservation with
    | some v => byte 1 ++ bytes 2 slot ++ byte (credentialKindCode v.kind) ++ bytes 4 v.expiry
    | none => byte 3
  | none =>
    match s.store.revoked.find? fun v => decide (v.number = n) with
    | some v => byte 2 ++ bytes 2 v.slot ++ byte (reasonCode v.reason) ++ bytes 4 v.time
    | none => byte 3

def decideFindCredential (body : List Byte) (s : State) : Decision :=
  checked (readCredential body) s fun n => done (finding n s) s

/-- FIND_CREDENTIAL (R26). -/
def execFindCredential (body : List Byte) (s : State) : Host.Outcome State Fault Refusal :=
  .next (manage 0x10 body (decideFindCredential body) s)

/-- The reply fields of LOOKUP (R25). -/
def lookupBytes (slot : Nat) (r : Record) : List Byte :=
  bytes 2 slot ++ byte (recordStateCode (some r.life)) ++ byte (classCode r.cls) ++ bytes 4 r.reference ++
    byte (locationCode r.location) ++ optional (bytes 2) r.homeCabin ++ optional (bytes 2) r.secondCabin ++
    byte r.tier ++ byte r.drinks ++ byte r.message

def decideLookup (p : Port) (_entry : TerminalEntry) (f : Frame) (s : State) : Verdict :=
  let n := f.field 0 6
  match lookup s n with
  | .found slot r =>
    { result := .ok, body := lookupBytes slot r, credential := some n, slot := some slot, state := s }
  | l => notFound p f n l [] s

/-- LOOKUP (R25). -/
def execLookup (port : Port) (s : State) : Host.Outcome State Fault Refusal :=
  .next (takeRequest port 0x40 isPosOrKiosk 6 (decideLookup port) s)

end Sys2Proof.Machine
end

