-- ==== Sys2Proof/Machine/Service.lean ====
section
/-! DEFINITION. The management port and the service states (09): transactions that take no request, the service
requests, the settings, and the two resets. -/

namespace Sys2Proof.Machine

/-! ## Transactions (R178 to R182) -/

/-- The three transactions that the host makes (R178). -/
inductive Transaction | poll | write | read
  deriving DecidableEq, Repr

/-- The transaction that its first byte names: 01h a write, 02h a read, and 00h and any other value a poll (R178). -/
def transactionOf (first : Byte) : Transaction :=
  if first = 0x01 then .write else if first = 0x02 then .read else .poll

/-- A write of a frame that is not taken: the port is not IDLE, or the bytes do not make a good frame. The bytes are
those after the first of the transaction. A good frame written to an IDLE port is no such event (R180). -/
def discardUntaken (bs : List Byte) (s : State) : State :=
  if s.management.state = .idle ∧ managementFrameGood bs = true then s else discardWrite bs.length s

/-- The bytes after the status byte of a read of `n` bytes: the reply frame from its first byte, and then FFh; in
WORKING, FFh alone (R181). -/
def readBytes (m : ManagementPort) (n : Nat) : List Byte :=
  let frame := if m.state = .working then [] else managementReplyBytes m.reply
  frame.take n ++ List.replicate (n - frame.length) 0xFF

/-- A read clocks out every byte of the waiting reply (R181). -/
def readsWhole (m : ManagementPort) (n : Nat) : Bool :=
  decide (m.state = .replyWaiting) && decide ((managementReplyBytes m.reply).length ≤ n)

/-- A read transaction that clocks `n` bytes after the status byte (R181). -/
def readReply (n : Nat) (s : State) : State :=
  let m := s.management
  { s with management :=
      { m with
        shiftedOut := m.status :: readBytes m n
        state := if readsWhole m n then .idle else m.state } }

/-- A poll transaction that clocks `n` bytes after the first: the status byte, and FFh for each (R179). -/
def poll (n : Nat) (s : State) : State :=
  { s with management := { s.management with shiftedOut := s.management.status :: List.replicate n 0xFF } }

/-- WRITE_DISCARDED (R178, R180): a write transaction whose frame is not taken. A transaction of another name is no
such event. -/
def execWriteDiscarded (bytes : List Byte) (s : State) : Host.Outcome State Fault Refusal :=
  .next
    (match bytes with
      | [] => s
      | first :: rest =>
        match transactionOf first with
        | .write => discardUntaken rest s
        | .read | .poll => s)

/-- READ_REPLY (R178, R179, R181): a transaction that is not a write, a read or a poll by its first byte (log 30). -/
def execReadReply (bytes : List Byte) (s : State) : Host.Outcome State Fault Refusal :=
  .next
    (match bytes with
      | [] => s
      | first :: rest =>
        match transactionOf first with
        | .read => readReply rest.length s
        | .poll => poll rest.length s
        | .write => s)

/-- A request frame whose kind is not in the table of R182: when it is taken it is refused UNKNOWN_KIND, before the
service-state gate. A kind of the table is no such event. -/
def takeUnlisted (kind : Byte) (body : List Byte) (s : State) : State :=
  if kind ∈ managementKinds then s
  else if s.management.state = .idle ∧ body.length ≤ Config.managementBody then
    placeReply kind (refuse .unknownKind (takeWrite kind body s))
  else discardWrite (requestFrameSize body.length) s

/-- UNKNOWN_KIND (R182). -/
def execUnknownKind (kind : Byte) (body : List Byte) (s : State) : Host.Outcome State Fault Refusal :=
  .next (takeUnlisted kind body s)

/-! ## Service states (R183 to R187) -/

/-- The service state, with the standalone entry time that goes with it (R183). -/
def setService (v : Service) (since : Option Nat) (s : State) : State :=
  { s with management := { s.management with service := v, standaloneSince := since } }

/-- The expiry of the server watchdog, when it is due (R186). The entry time is the run time of the expiry. -/
def expireWatchdog (s : State) : State :=
  match s.management.service, s.management.watchdog with
  | .serving, some e =>
    if e ≤ s.clock.runTime then
      raise .standalone
        { s with management :=
            { s.management with service := .standalone, standaloneSince := some e, watchdog := none } }
    else s
  | _, _ => s

/-- SERVER_WATCHDOG_EXPIRY (R186). -/
def execServerWatchdogExpiry (s : State) : Host.Outcome State Fault Refusal := .next (expireWatchdog s)

def decideOpenService (body : List Byte) (s : State) : Decision :=
  checked (readNothing body) s fun _ =>
    if s.management.service ≠ .loading then refuse .wrongState s
    else if s.clock.status = .unset then refuse .timeNotSet s
    else done (bytes 4 s.clock.runTime) (restartWatchdog (setService .serving none s))

/-- OPEN_SERVICE (R184). -/
def execOpenService (body : List Byte) (s : State) : Host.Outcome State Fault Refusal :=
  .next (manage 0x70 body (decideOpenService body) s)

def decideResumeService (body : List Byte) (s : State) : Decision :=
  checked (readNothing body) s fun _ =>
    if s.management.service ≠ .standalone then refuse .wrongState s
    else
      done (bytes 4 (s.management.standaloneSince.getD 0) ++ bytes 4 s.clock.runTime)
        (restartWatchdog (setService .serving none s))

/-- RESUME_SERVICE (R187). -/
def execResumeService (body : List Byte) (s : State) : Host.Outcome State Fault Refusal :=
  .next (manage 0x71 body (decideResumeService body) s)

/-! ## Settings (R188, R189) -/

/-- The value of a setting as it stands, in the bytes of its own size (R188). -/
def SettingValue.before (v : SettingValue) (s : Settings) : List Byte :=
  match v with
  | .reservationCode _ => byte s.reservationCode
  | .blankingCode _ => byte s.blankingCode
  | .rolloverHour _ => byte s.rolloverHour
  | .watchdogCode _ => byte s.watchdogCode
  | .policy c _ => byte (policyCode (s.policies.get c))
  | .standaloneLimit _ => bytes 4 s.standaloneLimit
  | .enables _ => bytes 3 s.enables.toNat
  | .refusalMask _ => bytes 11 s.refusalMask.toNat
  | .threshold _ => byte s.threshold
  | .latchMode _ => byte (latchModeCode s.latchMode)
  | .ackMode _ => byte (ackModeCode s.ackMode)
  | .lineMode _ => byte (lineModeCode s.lineMode)
  | .pulseCode _ => byte s.pulseCode
  | .holdoff _ => byte s.holdoff

/-- A setting is given a value, with the step that the setting names (R188). -/
def applySetting (v : SettingValue) (s : State) : State :=
  match v with
  | .reservationCode n => { s with settings := { s.settings with reservationCode := n } }
  | .blankingCode n => { s with settings := { s.settings with blankingCode := n } }
  | .rolloverHour n => (rolloverTest { s with settings := { s.settings with rolloverHour := n } }).1
  | .watchdogCode n => restartWatchdog { s with settings := { s.settings with watchdogCode := n } }
  | .policy c p => { s with settings := { s.settings with policies := s.settings.policies.set c p } }
  | .standaloneLimit n => { s with settings := { s.settings with standaloneLimit := n } }
  | .enables e => setEnables e s
  | .refusalMask m => { s with settings := { s.settings with refusalMask := m } }
  | .threshold n => reportAll { s with settings := { s.settings with threshold := n } }
  | .latchMode m => setLatchMode m s
  | .ackMode m => { s with settings := { s.settings with ackMode := m } }
  | .lineMode m => setLineMode m s
  | .pulseCode n => { s with settings := { s.settings with pulseCode := n } }
  | .holdoff n => { s with settings := { s.settings with holdoff := n } }

def decideSetSetting (body : List Byte) (s : State) : Decision :=
  checked (readSetting body) s fun v => done (v.before s.settings) (applySetting v s)

/-- SET_SETTING (R188). -/
def execSetSetting (body : List Byte) (s : State) : Host.Outcome State Fault Refusal :=
  .next (manage 0x73 body (decideSetSetting body) s)

def decideReadSettings (body : List Byte) (s : State) : Decision :=
  checked (readNothing body) s fun _ => done (settingsBytes s.settings) s

/-- READ_SETTINGS (R189). -/
def execReadSettings (body : List Byte) (s : State) : Host.Outcome State Fault Refusal :=
  .next (manage 0x74 body (decideReadSettings body) s)

/-- The reply fields of READ_SERVICE (R189). -/
def serviceBytes (s : State) : List Byte :=
  byte (serviceCode s.management.service) ++ optional (bytes 4) s.management.standaloneSince ++
    byte s.settings.watchdogCode ++ optional (bytes 4) s.management.watchdog ++
    byte (timeStatusCode s.clock.status) ++ bytes 4 s.clock.runTime

def decideReadService (body : List Byte) (s : State) : Decision :=
  checked (readNothing body) s fun _ => done (serviceBytes s) s

/-- READ_SERVICE (R189). -/
def execReadService (body : List Byte) (s : State) : Host.Outcome State Fault Refusal :=
  .next (manage 0x75 body (decideReadService body) s)

/-! ## The two resets (R190, R191) -/

/-- The settings with the notice settings at their power-on values (09, the table of settings). -/
def Settings.noticesReset (s : Settings) : Settings :=
  { s with
    enables := Settings.powerOn.enables
    refusalMask := Settings.powerOn.refusalMask
    threshold := Settings.powerOn.threshold
    latchMode := Settings.powerOn.latchMode
    ackMode := Settings.powerOn.ackMode
    lineMode := Settings.powerOn.lineMode
    pulseCode := Settings.powerOn.pulseCode
    holdoff := Settings.powerOn.holdoff }

/-- The first two steps of SERVICE_RESET: the queues, the notice unit and the watch set are emptied, and the levels
are kept until the fresh reports that follow (R190, R192, R195, R198). -/
def emptyReporting (s : State) : State :=
  { s with
    ports := s.ports.map fun b => { b with queue := [] }
    notice := { NoticeUnit.powerOn with levels := s.notice.levels }
    settings := s.settings.noticesReset
    passage := { s.passage with watch := [] } }

/-- The third and fourth steps: STANDALONE becomes SERVING, and the watchdog is restarted in SERVING (R190). -/
def resetService (s : State) : State :=
  restartWatchdog (if s.management.service = .standalone then setService .serving none s else s)

/-- The number of frames each queue drops (R190). -/
def queueCounts (s : State) : List Byte := (List.finRange 6).flatMap fun p => byte (s.port p).queue.length

def decideServiceReset (body : List Byte) (s : State) : Decision :=
  checked (readNothing body) s fun _ =>
    let s1 := resetService (reportAll (emptyReporting s))
    done (queueCounts s ++ byte (serviceCode s1.management.service)) s1

/-- SERVICE_RESET (R190). -/
def execServiceReset (body : List Byte) (s : State) : Host.Outcome State Fault Refusal :=
  .next (manage 0x72 body (decideServiceReset body) s)

/-- POWER_ON_RESET (R191): every block takes its power-on value. The commands that wait are not the part's own state. -/
def execPowerOnReset (s : State) : Host.Outcome State Fault Refusal :=
  .next { State.reset with pending := s.pending }

end Sys2Proof.Machine
end

