-- ==== Sys2Proof/Machine/Gangway.lean ====
section
/-! DEFINITION. Gangway passage and counts (03): GANGWAY, SET_LOCATION, READ_COUNTS, READ_WATCH and SCAN. -/

namespace Sys2Proof.Machine

/-! ## The GANGWAY decision (R56 to R63) -/

/-- The sixth check: the last passage names this gangway and direction, within the blanking window (R59). -/
def isRepeat (r : Record) (gangway : Nat) (d : Direction) (s : State) : Bool :=
  match r.lastPassage with
  | some p =>
    decide (p.gangway = gangway) && decide (p.direction = d) &&
      decide (s.clock.runTime < p.time + blankingWindow s.settings.blankingCode)
  | none => false

/-- The ninth check: the pass by the location at take and the direction, with the new location of an OK (R61, R62). -/
def passOutcome (r : Record) (d : Direction) (s : State) : Result × Option Location :=
  match r.location, d with
  | .notEmbarked, .inbound => (.ok, some .aboard)
  | .notEmbarked, .outbound => (.denyNotEmbarked, none)
  | .aboard, .outbound => (.ok, some (if r.final then .disembarked else .ashore))
  | .ashore, .inbound => (.ok, some .aboard)
  | .disembarked, _ => (.denyDeparted, none)
  | .aboard, .inbound | .ashore, .outbound =>
    match (s.access.policies.get r.cls).passback with
    | .hard => (.denyPassback, none)
    | .soft => (.passbackNoted, none)

/-- The checks from the fifth to the ninth, for a record found (R58 to R62). -/
def gangwayOutcome (r : Record) (gangway : Nat) (d : Direction) (s : State) : Result × Option Location :=
  if s.muster.phase = .cutoff ∧ d = .outbound ∧ (r.cls = .guestAdult ∨ r.cls = .guestMinor) then (.denyPhase, none)
  else if isRepeat r gangway d s then (.repeated, none)
  else if r.location = .disembarked then (.denyDeparted, none)
  else if r.life = .held ∧ d = .outbound then (.denyHeld, none)
  else passOutcome r d s

/-- The state after a pass: an OK changes the location, and an OK or PASSBACK_NOTED writes the last passage
(R52, R55, R61, R62). -/
def passEffect (slot : Nat) (r : Record) (gangway : Nat) (d : Direction) (o : Result × Option Location)
    (s : State) : State :=
  let p : Passage := { gangway := gangway, direction := d, time := s.clock.runTime }
  match o.2 with
  | some new => setLastPassage slot (some p) (changeLocation slot r new s)
  | none => if o.1 = .passbackNoted then setLastPassage slot (some p) s else s

/-- The body of a GANGWAY reply after a found lookup: the class, the location after the request, and the guest
message (R63). -/
def gangwayBody (r : Record) (after : Location) (message : Option Nat) : List Byte :=
  byte (classCode r.cls) ++ byte (locationCode after) ++ optional byte message

def decideGangway (p : Port) (entry : TerminalEntry) (f : Frame) (s : State) : Verdict :=
  let n := f.field 0 6
  match directionOf (f.field 6 1) with
  | none => alone .range n none s
  | some d =>
    if s.muster.phase = .atSea ∨ s.muster.phase = .muster then alone .denyPhase n none s
    else
      match lookup s n with
      | .found slot r =>
        let o := gangwayOutcome r entry.boundTo d s
        { result := o.1
          body := gangwayBody r (o.2.getD r.location) r.guestMessage
          credential := some n
          slot := some slot
          state := passEffect slot r.shown entry.boundTo d o (consumeMessage slot r s) }
      | l => notFound p f n l [] s

/-- GANGWAY (R56 to R63). -/
def execGangway (port : Port) (s : State) : Host.Outcome State Fault Refusal :=
  .next (takeRequest port 0x30 isGangway 7 (decideGangway port) s)

/-! ## The host override and the counts (R54, R65) -/

def decideSetLocation (body : List Byte) (s : State) : Decision :=
  checked (readSlotAnd locationOf body) s fun q =>
    withRecord q.1 s fun r =>
      if r.location = q.2 then done (byte (locationCode r.location)) s
      else done (byte (locationCode r.location)) (setLastPassage q.1 none (changeLocation q.1 r q.2 s))

/-- SET_LOCATION (R65). -/
def execSetLocation (body : List Byte) (s : State) : Host.Outcome State Fault Refusal :=
  .next (manage 0x30 body (decideSetLocation body) s)

def decideReadCounts (body : List Byte) (s : State) : Decision :=
  checked (readNothing body) s fun _ =>
    done (matrixBytes s.passage.counts ++ byte (phaseCode s.muster.phase) ++ bytes 4 s.clock.runTime) s

/-- READ_COUNTS (R54). -/
def execReadCounts (body : List Byte) (s : State) : Host.Outcome State Fault Refusal :=
  .next (manage 0x31 body (decideReadCounts body) s)

/-! ## The watch set (R69) -/

/-- A watch entry as READ_WATCH gives it, with the record's location and reference as they stand. The set names
no FREE record (R67), and such an entry would show NOT_EMBARKED and 0. -/
def watchBytes (s : State) (e : WatchEntry) : List Byte :=
  bytes 2 e.slot ++ flagByte e.wentAshore ++ flagByte e.cameAboard ++
    byte (locationCode (((s.record e.slot).map Record.location).getD .notEmbarked)) ++
    bytes 4 (((s.record e.slot).map Record.reference).getD 0)

def decideReadWatch (body : List Byte) (s : State) : Decision :=
  checked (readNumber 1 (fun c => decide (1 ≤ c) && decide (c ≤ 16)) body) s fun c =>
    let left := s.passage.watch.drop c
    done (listBytes (watchBytes s) (s.passage.watch.take c) ++ byte left.length) (setWatch left s)

/-- READ_WATCH (R69). -/
def execReadWatch (body : List Byte) (s : State) : Host.Outcome State Fault Refusal :=
  .next (manage 0x32 body (decideReadWatch body) s)

/-! ## Scanning (R73, R74) -/

/-- A record's folio is in a state. -/
def folioIs (s : State) (r : Record) (st : FolioState) : Bool :=
  decide ((s.folio r.folio).map Folio.state = some st)

/-- A record matches a SCAN criterion (R74). -/
def scanMatches (s : State) (c : Criterion) (slot : Nat) (r : Record) : Bool :=
  match c with
  | .ashore => decide (r.location = .ashore)
  | .notEmbarked => decide (r.location = .notEmbarked)
  | .aboardNotMustered => decide (r.location = .aboard) && !r.musterFlag
  | .visitorAboard => decide (r.cls = .visitor) && decide (r.location = .aboard)
  | .held => decide (r.life = .held)
  | .watched => decide (r.watchMode ≠ .none)
  | .folioSuspended => folioIs s r .suspended
  | .folioGrace => folioIs s r .grace
  | .openerOfTabs => s.opensTabs slot
  | .memberOf folio => decide (r.folio = folio)

/-- A record as SCAN gives it (R73). -/
def scanBytes (e : Nat × Record) : List Byte :=
  bytes 2 e.1 ++ byte (recordStateCode (some e.2.life)) ++ byte (classCode e.2.cls) ++ bytes 4 e.2.reference ++
    bytes 2 e.2.folio ++ byte (locationCode e.2.location) ++ flagByte e.2.musterFlag

/-- The slot to go on from: the one after the last match of a full page, absent past the end of the table. -/
def nextStart (page : List Nat) (full size : Nat) : Option Nat :=
  match page.getLast? with
  | some last => if page.length = full ∧ last + 1 < size then some (last + 1) else none
  | none => none

/-- The records of one page of a SCAN, in slot order from the start slot. -/
def scanPage (s : State) (c : Criterion) (start : Nat) : List (Nat × Record) :=
  (s.store.records.filter fun e => decide (start ≤ e.1) && scanMatches s c e.1 e.2).take 32

def decideScan (body : List Byte) (s : State) : Decision :=
  checked (readScan body) s fun q =>
    let page := scanPage s q.1 q.2
    done (listBytes scanBytes page ++ optional (bytes 2) (nextStart (Table.keys page) 32 Config.recordSlots)) s

/-- SCAN (R73, R74). -/
def execScan (body : List Byte) (s : State) : Host.Outcome State Fault Refusal :=
  .next (manage 0x33 body (decideScan body) s)

end Sys2Proof.Machine
end

