-- ==== Sys2Proof/Machine/TabRequests.lean ====
section
/-! DEFINITION. Tabs (07): OPEN_TAB, CLOSE_TAB, VOID_TAB, the expiry of a tab, and the management requests of the
chapter. -/

namespace Sys2Proof.Machine

/-! ## Opening a tab (R142 to R146) -/

/-- An open tab holds a number. -/
def State.tabNumberHeld (s : State) (n : Nat) : Bool := s.tabs.entries.any fun e => decide (e.2.number = n)

/-- The number after a tab number, past 65,535 from 1 again (R142). -/
def nextTabNumber (n : Nat) : Nat := if n < Config.lastTabNumber then n + 1 else 1

/-- The first number from `n` upward that no open tab holds, within a number of trials (R142). -/
def searchTabNumber (s : State) : Nat → Nat → Nat
  | 0, n => n
  | trials + 1, n => if s.tabNumberHeld n then searchTabNumber s trials (nextTabNumber n) else n

/-- The number an accepted OPEN_TAB is assigned (R142): at most 1,024 numbers are held, so 1,024 trials past the
counter find one. -/
def assignedNumber (s : State) : Nat := searchTabNumber s Config.tabEntries s.tabs.nextNumber

/-- The checks from the twelfth to the fourteenth (R145). -/
def openTabRefusal (f : Folio) (hold : Nat) (c : Category) (s : State) : Option Result :=
  if Config.folioTabs ≤ f.openTabs then some .denyTabLimit
  else if (s.tabs.entries.lowestFree Config.tabEntries 0).isNone then some .denyTableFull
  else if f.exposure + hold > (effectiveLimits s f c).1 then some .denyLimit
  else none

/-- The tab an accepted OPEN_TAB opens (R143, R146). -/
def openedTab (slot : Nat) (r : Record) (venue hold : Nat) (s : State) : Tab where
  number := assignedNumber s
  folio := r.folio
  opener := slot
  venue := venue
  hold := hold
  opened := s.clock.runTime
  expiry := s.clock.runTime + tabLifetime (s.venue venue).timeoutCode * 60

/-- The effects of an accepted OPEN_TAB (R146). -/
def openTab (entry : Nat) (t : Tab) (f : Folio) (s : State) : State :=
  let s1 := { s with tabs := { entries := s.tabs.entries.put entry t, nextNumber := nextTabNumber t.number } }
  report .tabs
    (storeReevaluated t.folio { f with holds := f.holds + t.hold, openTabs := f.openTabs + 1 } s1)

/-- The body of the reply to an accepted OPEN_TAB (R146). -/
def openTabBody (t : Tab) (lifetime : Nat) : List Byte := bytes 2 t.number ++ bytes 4 t.hold ++ bytes 2 lifetime

def decideOpenTab (p : Port) (entry : TerminalEntry) (f : Frame) (s : State) : Verdict :=
  let n := f.field 0 6
  let hold := f.field 6 4
  let venue := entry.boundTo
  let v := s.venue venue
  match purchaseGate (decide (100 ≤ hold) && decide (hold ≤ 500000)) venue s with
  | some d => alone d n none s
  | none =>
    match lookup s n with
    | .found slot r =>
      match purchaseRefusal r false v (folioOf r s) with
      | some d => alone d n (some slot) s
      | none =>
        match openTabRefusal (folioOf r s) hold v.category s, s.tabs.entries.lowestFree Config.tabEntries 0 with
        | some d, _ => alone d n (some slot) s
        | none, none => alone .denyTableFull n (some slot) s
        | none, some free =>
          let t := openedTab slot r venue hold s
          { result := .ok
            body := openTabBody t (tabLifetime v.timeoutCode)
            credential := some n
            slot := some slot
            state := openTab free t (folioOf r s) s }
    | l => notFound p f n l [] s

/-- OPEN_TAB (R144 to R146). -/
def execOpenTab (port : Port) (s : State) : Host.Outcome State Fault Refusal :=
  .next (takeRequest port 0x21 isPos 10 (decideOpenTab port) s)

/-! ## Closing a tab (R147 to R151) -/

/-- The body of a CLOSE_TAB reply, the fields absent where the decision did not reach them (R150, R151). -/
def closeTabBody (k v w e hold g : Option Nat) : List Byte :=
  optional (bytes 4) k ++ optional (bytes 4) v ++ optional (bytes 4) w ++ optional (bytes 4) e ++
    optional (bytes 4) hold ++ optional byte g

/-- A report of a close or void names the opener of the tab found, and no credential (R151, R152). -/
def ofTab (result : Result) (body : List Byte) (t : Tab) (s : State) : Verdict :=
  { result := result, body := body, credential := none, slot := some t.opener, state := s }

/-- Stage 6 at a close, by the folio's state (R149). -/
def closeStage (f : Folio) (x : Int) (e soft hard : Nat) : Approval :=
  if f.state = .suspended then suspendedStage x e soft else limitStage x e soft hard f.grace

/-- An approved close: the release of the hold, the posting and one re-evaluation, and the record's part (R150). -/
def postClose (entry : Nat) (t : Tab) (f : Folio) (g : Figures) (graced : Bool) (s : State) : State :=
  let s1 := storeReevaluated t.folio ((f.released t.hold).posted g graced) (freeTab entry s)
  report .tabs (postToRecord t.opener g s1)

/-- The close of a tab with an amount above 0, from the class check on (R149 to R151). -/
def computeClose (entry : Nat) (t : Tab) (amount : Nat) (flags : ItemFlags) (v : Venue) (r : Record) (f : Folio)
    (s : State) : Verdict :=
  if flags.alcohol ∧ r.cls = .guestMinor then ofTab .denyClass (closeTabBody none none none none none none) t s
  else
    let g := figures amount flags r (s.tier r.tier) v f.prepaid
    if overCap r g.d then
      ofTab .denyCap (closeTabBody (some g.k) (some g.v) none none none (some f.grace)) t s
    else
      let x := f.exposure - t.hold
      let limits := effectiveLimits s f v.category
      let a := closeStage f x g.e limits.1 limits.2
      match a with
      | .deny =>
        ofTab .denyLimit (closeTabBody (some g.k) (some g.v) (some g.w) (some g.e) none (some f.grace)) t
          (declineLimit t.folio f x g.e s)
      | _ =>
        let s1 := postClose entry t f g (decide (a = .grace)) s
        ofTab a.result
          (closeTabBody (some g.k) (some g.v) (some g.w) (some g.e) (some t.hold) (some (graceAt t.folio s1))) t s1

/-- A zero close: the tab ends with nothing posted (R148). -/
def zeroClose (entry : Nat) (t : Tab) (s : State) : Verdict :=
  let s1 := releaseTab entry t s
  ofTab .ok (closeTabBody (some 0) (some 0) (some 0) (some 0) (some t.hold) (some (graceAt t.folio s1))) t s1

/-- The folio of an open tab; every open tab's folio is in use (R109, R141). -/
def tabFolio (t : Tab) (s : State) : Folio := (s.folio t.folio).getD Folio.free

def decideCloseTab (terminal : TerminalEntry) (f : Frame) (s : State) : Verdict :=
  let amount := f.field 2 4
  match itemFlags (f.field 6 1) with
  | none => bare .range s
  | some flags =>
    if 2000000 < amount then bare .range s
    else
      match s.tab (f.field 0 2) with
      | none => bare .denyTabUnknown s
      | some (entry, t) =>
        if t.venue ≠ terminal.boundTo then ofTab .denyWrongVenue [] t s
        else if amount = 0 then zeroClose entry t s
        else
          match s.record t.opener with
          | some r => computeClose entry t amount flags (s.venue t.venue) r (tabFolio t s) s
          | none => bare .denyTabUnknown s

/-- CLOSE_TAB (R147 to R151). -/
def execCloseTab (port : Port) (s : State) : Host.Outcome State Fault Refusal :=
  .next (takeRequest port 0x22 isPos 7 decideCloseTab s)

/-! ## Voiding and expiry (R152 to R154) -/

def decideVoidTab (terminal : TerminalEntry) (f : Frame) (s : State) : Verdict :=
  match s.tab (f.field 0 2) with
  | none => bare .denyTabUnknown s
  | some (entry, t) =>
    if t.venue ≠ terminal.boundTo then ofTab .denyWrongVenue [] t s
    else ofTab .ok (bytes 4 t.hold) t (releaseTab entry t s)

/-- VOID_TAB from a terminal (R152). -/
def execVoidTab (port : Port) (s : State) : Host.Outcome State Fault Refusal :=
  .next (takeRequest port 0x23 isPos 2 decideVoidTab s)

def decideHostVoidTab (body : List Byte) (s : State) : Decision :=
  checked (readNumber 2 (fun n => decide (0 < n)) body) s fun n =>
    match s.tab n with
    | none => refuse .notFound s
    | some (entry, t) =>
      done (bytes 2 t.folio ++ bytes 2 t.opener ++ byte t.venue ++ bytes 4 t.hold) (releaseTab entry t s)

/-- VOID_TAB from the host (R153). -/
def execHostVoidTab (body : List Byte) (s : State) : Host.Outcome State Fault Refusal :=
  .next (manage 0x58 body (decideHostVoidTab body) s)

/-- The expiry of the tab in an entry, when it is due (R154). The table's report comes before the raise, and each is an
event of its own for the NOTICE line (R199; log 31). -/
def expireTab (entry : Nat) (s : State) : State :=
  match s.tabs.entries.find entry with
  | some t => if t.expiry ≤ s.clock.runTime then raise .tabExpired (releaseTab entry t s) else s
  | none => s

/-- TAB_EXPIRY (R154). -/
def execTabExpiry (entry : Nat) (s : State) : Host.Outcome State Fault Refusal := .next (expireTab entry s)

/-! ## Reading the tab table (R158) -/

def decideReadTab (body : List Byte) (s : State) : Decision :=
  checked (readNumber 2 (fun n => decide (0 < n)) body) s fun n =>
    match s.tab n with
    | none => refuse .notFound s
    | some (_, t) => done (tabBytes t ++ bytes 2 (t.expiry - s.clock.runTime)) s

/-- READ_TAB (R158). -/
def execReadTab (body : List Byte) (s : State) : Host.Outcome State Fault Refusal :=
  .next (manage 0x59 body (decideReadTab body) s)

/-- The tabs of one page of a LIST_TABS, in entry order from the start entry. -/
def tabPage (s : State) (start : Nat) (folio : Option Nat) : List (Nat × Tab) :=
  (s.tabs.entries.filter fun e => decide (start ≤ e.1) && folio.all fun n => decide (e.2.folio = n)).take 16

def decideListTabs (body : List Byte) (s : State) : Decision :=
  checked (readTabList body) s fun q =>
    let page := tabPage s q.1 q.2
    done
      (listBytes (fun e => listedTabBytes e.2) page ++
        optional (bytes 2) (nextStart (Table.keys page) 16 Config.tabEntries)) s

/-- LIST_TABS (R158). -/
def execListTabs (body : List Byte) (s : State) : Host.Outcome State Fault Refusal :=
  .next (manage 0x5A body (decideListTabs body) s)

end Sys2Proof.Machine
end

