-- ==== Sys2Proof/Machine/Clock.lean ====
section
/-! DEFINITION. The advance of time (04): RUN_TIME_ADVANCE. An expiry is taken at the advance that reaches it (R75),
so whatever is due and has not been taken is taken before time moves on (log 3). The rollover test is made at the
advance of run time itself (R79, R81). -/

namespace Sys2Proof.Machine

/-- Run time one second on; what follows the top of its range is a free value (R75; log 5). -/
def nextSecond (runTime : Nat) : Nat :=
  if runTime < 4294967295 then runTime + 1 else Config.runTimeAfterTop.toNat

/-- The time base one millisecond on (R75). -/
def TimeBase.tick (c : TimeBase) : TimeBase :=
  if c.millis < 999 then { c with millis := c.millis + 1 }
  else { c with millis := 0, runTime := nextSecond c.runTime }

/-- An event of each member of a list, in order. -/
def forEach {α : Type} (f : α → State → State) : List α → State → State
  | [], s => s
  | a :: l, s => forEach f l (f a s)

/-- The link events that are due at every port: frame checks and gaps (R160, R161). -/
def sweepLinks (s : State) : State := forEach (fun p s => endGap p (settle p s)) (List.finRange 6) s

/-- The expiries of the record store, the tab table and the ports that are due (R14, R154, R168). -/
def sweepExpiries (s : State) : State :=
  forEach expireSilence (List.finRange 6)
    (forEach expireTab (Table.keys s.tabs.entries) (forEach expireReservation (Table.keys s.store.records) s))

/-- Every event that is due and not yet taken, one after the other (R75: in no stated order; log 3). -/
def sweep (s : State) : State :=
  endHoldoff (endPulse (expireWatchdog (sweepExpiries (sweepLinks s))))

/-- The time base advances by one millisecond, and by one second at the end of each second (R75). -/
def tick (s : State) : State := { s with clock := s.clock.tick }

/-- The advance of the time base: one of run time makes the rollover test, on the day number that it reaches (R79,
R81). The raise of DAY_ROLLOVER so comes before a pulse end or a holdoff end that falls due at this advance; R198 lets
the two be taken in either order (DESIGN CHOICE, log 35). -/
def advance (s : State) : State := if s.clock.millis < 999 then tick s else (rolloverTest (tick s)).1

/-- RUN_TIME_ADVANCE (R75): the advance of one millisecond, after every event that was due before it. -/
def execRunTimeAdvance (s : State) : Host.Outcome State Fault Refusal := .next (advance (sweep s))

end Sys2Proof.Machine
end

