-- ==== Sys2Proof/Machine/Folios.lean ====
section
/-! DEFINITION. Folios and credit states (05): the management requests of the chapter. -/

namespace Sys2Proof.Machine

/-! ## Membership (R102, R103) -/

/-- The refusal of a LINK_RECORD, by the ordered checks of R102. -/
def linkRefusal (slot : Nat) (r : Record) (target : Nat) (f : Folio) (s : State) : Option ReplyCode :=
  if r.folio = target then some .duplicate
  else if s.opensTabs slot then some .tabsOpen
  else if f.state ≠ .active ∧ f.state ≠ .grace then some .wrongState
  else if Config.folioMembers ≤ f.members then some .full
  else none

/-- The link moves: the target gains a member and the old folio loses one (R103). -/
def relink (slot : Nat) (r : Record) (target : Nat) (s : State) : State :=
  loseMember r.folio (gainMember target (s.putRecord slot { r with folio := target }))

/-- The member count of a folio, 0 for a FREE one. -/
def State.membersOf (s : State) (slot : Nat) : Nat := ((s.folio slot).map Folio.members).getD 0

def decideLink (body : List Byte) (s : State) : Decision :=
  checked (readLink body) s fun q =>
    withRecord q.1 s fun r =>
      withFolio q.2 s fun f =>
        match linkRefusal q.1 r q.2 f s with
        | some c => refuse c s
        | none =>
          let s1 := relink q.1 r q.2 s
          done
            (bytes 2 r.folio ++ byte (s1.membersOf r.folio) ++ byte (s1.membersOf q.2) ++
              flagByte (s1.folio r.folio).isNone) s1

/-- LINK_RECORD (R102, R103). -/
def execLinkRecord (body : List Byte) (s : State) : Host.Outcome State Fault Refusal :=
  .next (manage 0x4A body (decideLink body) s)

/-! ## Opening, closing and reopening (R110 to R112) -/

/-- The folio an OPEN_FOLIO makes (R110; 05, "Value at OPEN_FOLIO"). -/
def openedFolio (q : LimitFields) : Folio where
  state := .active
  cause := none
  resumeMode := q.mode
  soft := q.soft
  hard := q.hard
  allowance := q.allowance
  grace := q.allowance
  balance := 0
  holds := 0
  prepaid := 0
  openTabs := 0
  members := 0
  spend := 0
  spendPrevious := 0

def decideOpenFolio (body : List Byte) (s : State) : Decision :=
  checked (readOpenFolio body) s fun q =>
    match s.folios.lowestFree Config.folioSlots 0 with
    | none => refuse .full s
    | some slot => done (bytes 2 slot ++ byte q.allowance) (s.putFolio slot (openedFolio q))

/-- OPEN_FOLIO (R110). -/
def execOpenFolio (body : List Byte) (s : State) : Host.Outcome State Fault Refusal :=
  .next (manage 0x40 body (decideOpenFolio body) s)

/-- The refusal of a CLOSE_FOLIO, by the ordered checks of R111. -/
def closeRefusal (f : Folio) : Option ReplyCode :=
  if f.state = .closed then some .wrongState
  else if 0 < f.openTabs then some .tabsOpen
  else if f.balance ≠ 0 then some .stillOver
  else none

def decideCloseFolio (body : List Byte) (s : State) : Decision :=
  checked (readFolioSlot body) s fun slot =>
    withFolio slot s fun f =>
      match closeRefusal f with
      | some c => refuse c s
      | none =>
        if f.members = 0 then done (bytes 4 f.prepaid ++ byte 0) (s.dropFolio slot)
        else
          done (bytes 4 f.prepaid ++ byte (folioStateCode .closed))
            (s.putFolio slot { f with state := .closed, cause := none, prepaid := 0 })

/-- CLOSE_FOLIO (R111). -/
def execCloseFolio (body : List Byte) (s : State) : Host.Outcome State Fault Refusal :=
  .next (manage 0x41 body (decideCloseFolio body) s)

def decideReopenFolio (body : List Byte) (s : State) : Decision :=
  checked (readFolioSlot body) s fun slot =>
    withFolio slot s fun f =>
      if f.state ≠ .closed then refuse .wrongState s
      else done [] (s.putFolio slot { f with state := .active, grace := f.allowance })

/-- REOPEN_FOLIO (R112). -/
def execReopenFolio (body : List Byte) (s : State) : Host.Outcome State Fault Refusal :=
  .next (manage 0x42 body (decideReopenFolio body) s)

/-! ## Suspension and resumption by the host (R113, R114) -/

def decideSuspendFolio (body : List Byte) (s : State) : Decision :=
  checked (readFolioSlot body) s fun slot =>
    withFolio slot s fun f =>
      if f.state = .closed ∨ (f.state = .suspended ∧ f.cause = some .host) then refuse .wrongState s
      else done (folioStateBytes f) (s.putFolio slot (f.suspendedFor .host))

/-- SUSPEND_FOLIO (R113). -/
def execSuspendFolio (body : List Byte) (s : State) : Host.Outcome State Fault Refusal :=
  .next (manage 0x43 body (decideSuspendFolio body) s)

/-- The reply fields of RESUME_FOLIO: the new state, the exposure and G (R114). -/
def resumeBytes (f : Folio) : List Byte :=
  byte (folioStateCode f.state) ++ signedBytes 4 f.exposure ++ byte f.grace

def decideResumeFolio (body : List Byte) (s : State) : Decision :=
  checked (readFolioSlot body) s fun slot =>
    withFolio slot s fun f =>
      if f.state ≠ .suspended then refuse .wrongState s
      else if f.exposure ≤ f.soft then done (resumeBytes f.reactivated) (s.putFolio slot f.reactivated)
      else if f.exposure ≤ f.hard then
        let g := { f.reactivated with state := .grace }
        done (resumeBytes g) (s.putFolio slot g)
      else refuse .stillOver s

/-- RESUME_FOLIO (R114). -/
def execResumeFolio (body : List Byte) (s : State) : Host.Outcome State Fault Refusal :=
  .next (manage 0x44 body (decideResumeFolio body) s)

/-! ## Limits and host postings (R115 to R118) -/

/-- A folio with the four fields of a SET_LIMITS, before the re-evaluation (R115). -/
def Folio.limited (f : Folio) (q : SetLimitsFields) : Folio :=
  { f with
    soft := q.soft
    hard := q.hard
    allowance := q.allowance
    resumeMode := q.mode
    grace := if f.state = .active then q.allowance else min f.grace q.allowance }

/-- State and cause of the folio in a slot, as a reply carries them. -/
def stateBytesAt (slot : Nat) (s : State) : List Byte :=
  match s.folio slot with
  | some f => folioStateBytes f
  | none => []

def decideSetLimits (body : List Byte) (s : State) : Decision :=
  checked (readSetLimits body) s fun q =>
    withFolio q.folio s fun f =>
      if q.hard < q.soft then refuse .range s
      else
        let s1 := storeReevaluated q.folio (f.limited q) s
        done (stateBytesAt q.folio s1) s1

/-- SET_LIMITS (R115). -/
def execSetLimits (body : List Byte) (s : State) : Host.Outcome State Fault Refusal :=
  .next (manage 0x45 body (decideSetLimits body) s)

/-- The reply fields of a host posting: B, X, the state and the cause after the request (R116, R117). -/
def postingBytes (slot : Nat) (s : State) : List Byte :=
  match s.folio slot with
  | some f => signedBytes 4 f.balance ++ signedBytes 4 f.exposure ++ folioStateBytes f
  | none => []

/-- A host posting: refused WRONG_STATE on a CLOSED folio and RANGE when the balance would leave its range; otherwise
the posted folio is re-evaluated (R99, R116, R117). -/
def hostPosting (slot : Nat) (f posted : Folio) (leavesRange : Bool) (s : State) : Decision :=
  if f.state = .closed then refuse .wrongState s
  else if leavesRange then refuse .range s
  else
    let s1 := storeReevaluated slot posted s
    done (postingBytes slot s1) s1

/-- A balance below the range of a folio (R99, R116). -/
def tooLow (b : Int) : Bool := decide (b < -1000000000)

/-- A balance above the range of a folio (R99, R117). -/
def tooHigh (b : Int) : Bool := decide (1000000000 < b)

/-- The largest amount of a payment, refund or adjustment (R116, R117). -/
def postingTop : Nat := 2000000000

def decidePayment (body : List Byte) (s : State) : Decision :=
  checked (readPosting postingTop body) s fun q =>
    withFolio q.1 s fun f => hostPosting q.1 f { f with balance := f.balance - q.2 } (tooLow (f.balance - q.2)) s

/-- POST_PAYMENT (R116). -/
def execPostPayment (body : List Byte) (s : State) : Host.Outcome State Fault Refusal :=
  .next (manage 0x46 body (decidePayment body) s)

def decideRefund (body : List Byte) (s : State) : Decision :=
  checked (readPosting postingTop body) s fun q =>
    withFolio q.1 s fun f =>
      hostPosting q.1 f { f with balance := f.balance - q.2, spend := f.spend - q.2 } (tooLow (f.balance - q.2)) s

/-- POST_REFUND (R116). -/
def execPostRefund (body : List Byte) (s : State) : Host.Outcome State Fault Refusal :=
  .next (manage 0x47 body (decideRefund body) s)

def decideAdjustment (body : List Byte) (s : State) : Decision :=
  checked (readPosting postingTop body) s fun q =>
    withFolio q.1 s fun f =>
      hostPosting q.1 f { f with balance := f.balance + q.2, spend := addSpend f.spend q.2 }
        (tooHigh (f.balance + q.2)) s

/-- POST_ADJUSTMENT (R117). -/
def execPostAdjustment (body : List Byte) (s : State) : Host.Outcome State Fault Refusal :=
  .next (manage 0x48 body (decideAdjustment body) s)

/-- The largest prepaid credit of a folio (R99, R118). -/
def prepaidTop : Nat := 10000000

def decideAddPrepaid (body : List Byte) (s : State) : Decision :=
  checked (readPosting prepaidTop body) s fun q =>
    withFolio q.1 s fun f =>
      if f.state = .closed then refuse .wrongState s
      else
        let p := min (f.prepaid + q.2) prepaidTop
        done (bytes 4 (p - f.prepaid) ++ bytes 4 p) (s.putFolio q.1 { f with prepaid := p })

/-- ADD_PREPAID (R118). -/
def execAddPrepaid (body : List Byte) (s : State) : Host.Outcome State Fault Refusal :=
  .next (manage 0x49 body (decideAddPrepaid body) s)

/-! ## Reading a folio (R121) -/

def decideReadFolio (body : List Byte) (s : State) : Decision :=
  checked (readFolioSlot body) s fun slot =>
    match s.folio slot with
    | some f => done (folioBytes f) s
    | none => done (byte 0) s

/-- READ_FOLIO (R121). -/
def execReadFolio (body : List Byte) (s : State) : Host.Outcome State Fault Refusal :=
  .next (manage 0x4B body (decideReadFolio body) s)

end Sys2Proof.Machine
end

