-- ==== Sys2Proof/Machine/Muster.lean ====
section
/-! DEFINITION. Ship time, phases and muster (04): ROLLOVER, SET_TIME, READ_TIME, SET_PHASE, END_MUSTER, MUSTER_TAP,
SET_STATION and READ_MUSTER. -/

namespace Sys2Proof.Machine

/-! ## Ship time and the ship day (R76 to R82) -/

/-- ROLLOVER (R79): the rollover test. The advance of run time, SET_TIME and a change of the rollover hour make the same
test in their own step (R81; log 32). -/
def execRollover (s : State) : Host.Outcome State Fault Refusal := .next (rolloverTest s).1

/-- The time base told a ship time: the offset is set and the status is SET (R77). -/
def setShipTime (t : Int) (s : State) : State :=
  { s with clock := { s.clock with status := .set, offset := some (t - s.clock.runTime) } }

def decideSetTime (body : List Byte) (s : State) : Decision :=
  checked (readShipTime body) s fun t =>
    let s1 := setShipTime t s
    let day := shipDay s.settings.rolloverHour t
    let o :=
      match s.clock.status with
      | .unset => ({ s1 with clock := { s1.clock with lastRolled := some day } }, false)
      | .set => rolloverTest s1
    done
      (optional (signedBytes 8) s.shipTime ++ signedBytes 4 day ++ signedBytes 4 (o.1.clock.lastRolled.getD day) ++
        flagByte o.2) o.1

/-- SET_TIME (R77). -/
def execSetTime (body : List Byte) (s : State) : Host.Outcome State Fault Refusal :=
  .next (manage 0x38 body (decideSetTime body) s)

/-- Ship time of the start of the day after the current one, less ship time now (R82). -/
def secondsToBoundary (rolloverHour : Nat) (t : Int) : Nat :=
  ((shipDay rolloverHour t + 1) * 86400 + rolloverHour * 3600 - t).toNat

/-- The reply fields of READ_TIME (R82). -/
def timeBytes (s : State) : List Byte :=
  let hour := s.settings.rolloverHour
  bytes 4 s.clock.runTime ++ byte (timeStatusCode s.clock.status) ++ optional (signedBytes 8) s.shipTime ++
    optional (signedBytes 8) s.clock.offset ++ optional (signedBytes 4) (s.shipTime.map (shipDay hour)) ++
    optional (signedBytes 4) s.clock.lastRolled ++ byte hour ++
    optional (bytes 4) (s.shipTime.map (secondsToBoundary hour))

def decideReadTime (body : List Byte) (s : State) : Decision :=
  checked (readNothing body) s fun _ => done (timeBytes s) s

/-- READ_TIME (R82). -/
def execReadTime (body : List Byte) (s : State) : Host.Outcome State Fault Refusal :=
  .next (manage 0x39 body (decideReadTime body) s)

/-! ## Phases (R83 to R87) -/

def setPhase (p : Phase) (s : State) : State := { s with muster := { s.muster with phase := p } }

/-- A record as an entry to MUSTER leaves it (R85). -/
def Record.unmustered (r : Record) : Record := { r with musterFlag := false, musteredAt := none }

/-- The entry to MUSTER: one change that saves the phase and clears every flag, count and tally (R85). -/
def enterMuster (s : State) : State :=
  { s with
    store := { s.store with records := s.store.records.mapValues Record.unmustered }
    muster :=
      { phase := .muster, savedPhase := some s.muster.phase,
        mustered := { guestAdult := 0, guestMinor := 0, crew := 0, visitor := 0 }, tallies := [] } }

/-- The three cells read when the ship sails from CUTOFF (R86). -/
def ashoreCells (m : ByClass (ByLocation Nat)) : List Byte :=
  bytes 2 (cell m .guestAdult .ashore) ++ bytes 2 (cell m .guestMinor .ashore) ++ bytes 2 (cell m .crew .ashore)

/-- From CUTOFF to AT_SEA: ASHORE_AT_SAILING is raised if a guest or crew member is ashore (R86). -/
def sail (s : State) : State :=
  setPhase .atSea (if allAboard s.passage.counts then s else raise .ashoreAtSailing s)

/-- SET_PHASE by the phase at take and the phase carried (R84). -/
def phaseChange (p : Phase) (s : State) : Decision :=
  let before := byte (phaseCode s.muster.phase)
  match s.muster.phase, p with
  | .atSea, .inPort => done before (setPhase .inPort s)
  | .inPort, .atSea => done before (setPhase .atSea s)
  | .inPort, .cutoff => done before (enterCutoff (setPhase .cutoff s))
  | .cutoff, .inPort => done before (setPhase .inPort s)
  | .cutoff, .atSea => done (before ++ ashoreCells s.passage.counts) (sail s)
  | .atSea, .muster | .inPort, .muster | .cutoff, .muster => done before (enterMuster s)
  | _, _ => refuse .wrongState s

def decideSetPhase (body : List Byte) (s : State) : Decision :=
  checked
    (fields [.fixed 1] body fun
      | [.here v] => phaseOf v
      | _ => none)
    s fun p => phaseChange p s

/-- SET_PHASE (R84). -/
def execSetPhase (body : List Byte) (s : State) : Host.Outcome State Fault Refusal :=
  .next (manage 0x3A body (decideSetPhase body) s)

/-- The four ABOARD cells of the count matrix. -/
def aboardCells (m : ByClass (ByLocation Nat)) : ByClass Nat :=
  { guestAdult := m.guestAdult.aboard, guestMinor := m.guestMinor.aboard, crew := m.crew.aboard,
    visitor := m.visitor.aboard }

/-- The saved phase is restored, with the test at entry to CUTOFF when it is CUTOFF (R72, R87). -/
def leaveMusterPhase (p : Phase) (s : State) : State :=
  let s1 := { s with muster := { s.muster with phase := p, savedPhase := none } }
  if p = .cutoff then enterCutoff s1 else s1

/-- The phase an END_MUSTER restores. In MUSTER the saved phase is present (R83). -/
def restoredPhase (s : State) : Phase := s.muster.savedPhase.getD .atSea

def decideEndMuster (body : List Byte) (s : State) : Decision :=
  checked (readNothing body) s fun _ =>
    if s.muster.phase ≠ .muster then refuse .wrongState s
    else
      done
        (byte (phaseCode (restoredPhase s)) ++ classCountBytes s.muster.mustered ++
          classCountBytes (aboardCells s.passage.counts))
        (leaveMusterPhase (restoredPhase s) s)

/-- END_MUSTER (R87). -/
def execEndMuster (body : List Byte) (s : State) : Host.Outcome State Fault Refusal :=
  .next (manage 0x3B body (decideEndMuster body) s)

/-! ## Muster (R89 to R96) -/

/-- The fifth check of a tap: the record's location (R91). -/
def tapLocation (r : Record) : Option Result :=
  match r.location with
  | .aboard => none
  | .ashore => some .denyAshore
  | .notEmbarked => some .denyNotEmbarked
  | .disembarked => some .denyDeparted

/-- The result of a tap at a station, for a record found (R91, R92). -/
def tapResult (r : Record) (station : Nat) : Result :=
  match tapLocation r with
  | some d => d
  | none => if r.musterFlag then .repeated else if r.station = station then .ok else .okElsewhere

/-- A tap is accepted: the record passes the fifth and the sixth check (R91, R92). -/
def tapAccepted (r : Record) : Bool := decide (r.location = .aboard) && !r.musterFlag

/-- A record checked in at a station (R92). -/
def Record.checkedIn (r : Record) (station : Nat) : Record :=
  { r with musterFlag := true, musteredAt := some station }

/-- An accepted tap: the flag and station of the record, the count of its class and the tally of the station (R92). -/
def checkIn (slot : Nat) (r : Record) (station : Nat) (s : State) : State :=
  { s.putRecord slot (r.checkedIn station) with muster := s.muster.recount r.cls station (· + 1) }

/-- The body of a MUSTER_TAP reply after a found lookup (R93). -/
def tapBody (r : Record) (message : Option Nat) : List Byte :=
  byte (classCode r.cls) ++ byte r.station ++ optional byte r.musteredAt ++ optional byte message

def decideMusterTap (p : Port) (entry : TerminalEntry) (f : Frame) (s : State) : Verdict :=
  let n := f.field 0 6
  if s.muster.phase ≠ .muster then alone .denyPhase n none s
  else
    match lookup s n with
    | .found slot r =>
      let station := entry.boundTo
      let s1 := consumeMessage slot r s
      if tapAccepted r then
        { result := tapResult r station
          body := tapBody (r.checkedIn station) r.guestMessage
          credential := some n
          slot := some slot
          state := checkIn slot r.shown station s1 }
      else
        { result := tapResult r station
          body := tapBody r r.guestMessage
          credential := some n
          slot := some slot
          state := s1 }
    | l => notFound p f n l [] s

/-- MUSTER_TAP (R90 to R93). -/
def execMusterTap (port : Port) (s : State) : Host.Outcome State Fault Refusal :=
  .next (takeRequest port 0x31 isMuster 6 (decideMusterTap port) s)

def decideSetStation (body : List Byte) (s : State) : Decision :=
  checked (readSlotAnd (upTo 15) body) s fun q =>
    withRecord q.1 s fun r => done (byte r.station) (s.putRecord q.1 { r with station := q.2 })

/-- SET_STATION (R95). -/
def execSetStation (body : List Byte) (s : State) : Host.Outcome State Fault Refusal :=
  .next (manage 0x3C body (decideSetStation body) s)

/-- The sixteen station tallies, 2 bytes each (R96). -/
def tallyBytes (s : State) : List Byte := (List.range Config.stations).flatMap fun n => bytes 2 (s.tally n)

def decideReadMuster (body : List Byte) (s : State) : Decision :=
  checked (readNothing body) s fun _ =>
    done
      (byte (phaseCode s.muster.phase) ++ optional (fun p => byte (phaseCode p)) s.muster.savedPhase ++
        classCountBytes s.muster.mustered ++ tallyBytes s ++ classCountBytes (aboardCells s.passage.counts)) s

/-- READ_MUSTER (R96). -/
def execReadMuster (body : List Byte) (s : State) : Host.Outcome State Fault Refusal :=
  .next (manage 0x3D body (decideReadMuster body) s)

end Sys2Proof.Machine
end

