-- ==== Sys2Proof/Machine/Notices.lean ====
section
/-! DEFINITION. Notices (10): READ_NOTICES, ACK_NOTICES, PULSE_END and HOLDOFF_END. -/

namespace Sys2Proof.Machine

def levelsBytes (l : ByTable CapacityLevel) : List Byte :=
  byte (levelCode l.records) ++ byte (levelCode l.credentials) ++ byte (levelCode l.revocations) ++
    byte (levelCode l.tabs)

def flagsBytes (f : ByTable Bool) : List Byte :=
  flagByte f.records ++ flagByte f.credentials ++ flagByte f.revocations ++ flagByte f.tabs

/-- The reply fields of READ_NOTICES (R196). -/
def noticesBytes (s : State) : List Byte :=
  bytes 3 s.pendingConditions.toNat ++ bytes 3 s.settings.enables.toNat ++ levelsBytes s.notice.levels ++
    flagsBytes s.notice.flags ++ byte s.notice.silentPorts.toNat ++ byte s.notice.errorPorts.toNat ++
    byte s.passage.watch.length ++ optional refusedBytes s.notice.lastRefusal ++ byte (lineCode s.notice.line)

def decideReadNotices (body : List Byte) (s : State) : Decision :=
  checked (readNothing body) s fun _ =>
    done (noticesBytes s)
      (match s.settings.ackMode with
        | .explicit => s
        | .readClears => acknowledge (BitVec.allOnes 17) s)

/-- READ_NOTICES (R196). -/
def execReadNotices (body : List Byte) (s : State) : Host.Outcome State Fault Refusal :=
  .next (manage 0x78 body (decideReadNotices body) s)

def decideAckNotices (body : List Byte) (s : State) : Decision :=
  checked (readConditions body) s fun set =>
    let s1 := acknowledge set s
    done (bytes 3 s1.pendingConditions.toNat) s1

/-- ACK_NOTICES (R197). -/
def execAckNotices (body : List Byte) (s : State) : Host.Outcome State Fault Refusal :=
  .next (manage 0x79 body (decideAckNotices body) s)

/-- PULSE_END (R200). -/
def execPulseEnd (s : State) : Host.Outcome State Fault Refusal := .next (endPulse s)

/-- HOLDOFF_END (R199, R200). -/
def execHoldoffEnd (s : State) : Host.Outcome State Fault Refusal := .next (endHoldoff s)

end Sys2Proof.Machine
end

