-- ==== Sys2Proof/Machine/Dispatch.lean ====
section
/-! DEFINITION. One arm for each command of the part, each one call of its meaning. -/

namespace Sys2Proof.Machine

def exec (i : Instr) (s : State) : Host.Outcome State Fault Refusal :=
  match i with
  | .frameArrival port => Sys2Proof.Machine.execFrameArrival port s
  | .interByteGap port => Sys2Proof.Machine.execInterByteGap port s
  | .unknownRequestKind port => Sys2Proof.Machine.execUnknownRequestKind port s
  | .ping port => Sys2Proof.Machine.execPing port s
  | .unlock port => Sys2Proof.Machine.execUnlock port s
  | .lockMode port => Sys2Proof.Machine.execLockMode port s
  | .charge port => Sys2Proof.Machine.execCharge port s
  | .openTab port => Sys2Proof.Machine.execOpenTab port s
  | .closeTab port => Sys2Proof.Machine.execCloseTab port s
  | .voidTab port => Sys2Proof.Machine.execVoidTab port s
  | .gangway port => Sys2Proof.Machine.execGangway port s
  | .musterTap port => Sys2Proof.Machine.execMusterTap port s
  | .lookup port => Sys2Proof.Machine.execLookup port s
  | .reservationExpiry slot => Sys2Proof.Machine.execReservationExpiry slot s
  | .tabExpiry entry => Sys2Proof.Machine.execTabExpiry entry s
  | .portSilenceExpiry port => Sys2Proof.Machine.execPortSilenceExpiry port s
  | .serverWatchdogExpiry => Sys2Proof.Machine.execServerWatchdogExpiry s
  | .rollover => Sys2Proof.Machine.execRollover s
  | .pulseEnd => Sys2Proof.Machine.execPulseEnd s
  | .holdoffEnd => Sys2Proof.Machine.execHoldoffEnd s
  | .powerOnReset => Sys2Proof.Machine.execPowerOnReset s
  | .writeDiscarded bytes => Sys2Proof.Machine.execWriteDiscarded bytes s
  | .readReply bytes => Sys2Proof.Machine.execReadReply bytes s
  | .unknownKind kind body => Sys2Proof.Machine.execUnknownKind kind body s
  | .issueRecord body => Sys2Proof.Machine.execIssueRecord body s
  | .reserveCredential body => Sys2Proof.Machine.execReserveCredential body s
  | .confirmCredential body => Sys2Proof.Machine.execConfirmCredential body s
  | .cancelCredential body => Sys2Proof.Machine.execCancelCredential body s
  | .revokeCredential body => Sys2Proof.Machine.execRevokeCredential body s
  | .removeRevoked body => Sys2Proof.Machine.execRemoveRevoked body s
  | .holdRecord body => Sys2Proof.Machine.execHoldRecord body s
  | .releaseRecord body => Sys2Proof.Machine.execReleaseRecord body s
  | .retireRecord body => Sys2Proof.Machine.execRetireRecord body s
  | .setMessage body => Sys2Proof.Machine.execSetMessage body s
  | .setWatch body => Sys2Proof.Machine.execSetWatch body s
  | .setFinal body => Sys2Proof.Machine.execSetFinal body s
  | .setTier body => Sys2Proof.Machine.execSetTier body s
  | .setCap body => Sys2Proof.Machine.execSetCap body s
  | .readRecord body => Sys2Proof.Machine.execReadRecord body s
  | .findCredential body => Sys2Proof.Machine.execFindCredential body s
  | .readRevoked body => Sys2Proof.Machine.execReadRevoked body s
  | .setCabinZones body => Sys2Proof.Machine.execSetCabinZones body s
  | .assignCabin body => Sys2Proof.Machine.execAssignCabin body s
  | .vacateCabin body => Sys2Proof.Machine.execVacateCabin body s
  | .setCabinMode body => Sys2Proof.Machine.execSetCabinMode body s
  | .loadRole body => Sys2Proof.Machine.execLoadRole body s
  | .setRole body => Sys2Proof.Machine.execSetRole body s
  | .setClassPolicy body => Sys2Proof.Machine.execSetClassPolicy body s
  | .readCabin body => Sys2Proof.Machine.execReadCabin body s
  | .readRole body => Sys2Proof.Machine.execReadRole body s
  | .setLocation body => Sys2Proof.Machine.execSetLocation body s
  | .readCounts body => Sys2Proof.Machine.execReadCounts body s
  | .readWatch body => Sys2Proof.Machine.execReadWatch body s
  | .scan body => Sys2Proof.Machine.execScan body s
  | .setTime body => Sys2Proof.Machine.execSetTime body s
  | .readTime body => Sys2Proof.Machine.execReadTime body s
  | .setPhase body => Sys2Proof.Machine.execSetPhase body s
  | .endMuster body => Sys2Proof.Machine.execEndMuster body s
  | .setStation body => Sys2Proof.Machine.execSetStation body s
  | .readMuster body => Sys2Proof.Machine.execReadMuster body s
  | .openFolio body => Sys2Proof.Machine.execOpenFolio body s
  | .closeFolio body => Sys2Proof.Machine.execCloseFolio body s
  | .reopenFolio body => Sys2Proof.Machine.execReopenFolio body s
  | .suspendFolio body => Sys2Proof.Machine.execSuspendFolio body s
  | .resumeFolio body => Sys2Proof.Machine.execResumeFolio body s
  | .setLimits body => Sys2Proof.Machine.execSetLimits body s
  | .postPayment body => Sys2Proof.Machine.execPostPayment body s
  | .postRefund body => Sys2Proof.Machine.execPostRefund body s
  | .postAdjustment body => Sys2Proof.Machine.execPostAdjustment body s
  | .addPrepaid body => Sys2Proof.Machine.execAddPrepaid body s
  | .linkRecord body => Sys2Proof.Machine.execLinkRecord body s
  | .readFolio body => Sys2Proof.Machine.execReadFolio body s
  | .loadVenue body => Sys2Proof.Machine.execLoadVenue body s
  | .setVenueOpen body => Sys2Proof.Machine.execSetVenueOpen body s
  | .loadTier body => Sys2Proof.Machine.execLoadTier body s
  | .readVenue body => Sys2Proof.Machine.execReadVenue body s
  | .readTier body => Sys2Proof.Machine.execReadTier body s
  | .hostVoidTab body => Sys2Proof.Machine.execHostVoidTab body s
  | .readTab body => Sys2Proof.Machine.execReadTab body s
  | .listTabs body => Sys2Proof.Machine.execListTabs body s
  | .loadTerminal body => Sys2Proof.Machine.execLoadTerminal body s
  | .setTerminalEnabled body => Sys2Proof.Machine.execSetTerminalEnabled body s
  | .portReset body => Sys2Proof.Machine.execPortReset body s
  | .readPort body => Sys2Proof.Machine.execReadPort body s
  | .readTerminals body => Sys2Proof.Machine.execReadTerminals body s
  | .openService body => Sys2Proof.Machine.execOpenService body s
  | .resumeService body => Sys2Proof.Machine.execResumeService body s
  | .serviceReset body => Sys2Proof.Machine.execServiceReset body s
  | .setSetting body => Sys2Proof.Machine.execSetSetting body s
  | .readSettings body => Sys2Proof.Machine.execReadSettings body s
  | .readService body => Sys2Proof.Machine.execReadService body s
  | .readNotices body => Sys2Proof.Machine.execReadNotices body s
  | .ackNotices body => Sys2Proof.Machine.execAckNotices body s
  | .runTimeAdvance => Sys2Proof.Machine.execRunTimeAdvance s
  | .receivedByte port byte stopGood => Sys2Proof.Machine.execReceivedByte port byte stopGood s

end Sys2Proof.Machine
end

