-- ==== Sys2Proof/WellFormed.lean ====
section
/-! DEFINITION. What a command of the part may carry: the request a management command writes, the request a port
takes, and the well-formed commands. -/

namespace Sys2Proof

/-- The kind code and the body of the request frame that a management command writes (R182). -/
def Instr.request : Instr → Option (Byte × List Byte)
  | .frameArrival _ => none
  | .interByteGap _ => none
  | .unknownRequestKind _ => none
  | .ping _ => none
  | .unlock _ => none
  | .lockMode _ => none
  | .charge _ => none
  | .openTab _ => none
  | .closeTab _ => none
  | .voidTab _ => none
  | .gangway _ => none
  | .musterTap _ => none
  | .lookup _ => none
  | .reservationExpiry _ => none
  | .tabExpiry _ => none
  | .portSilenceExpiry _ => none
  | .serverWatchdogExpiry => none
  | .rollover => none
  | .pulseEnd => none
  | .holdoffEnd => none
  | .powerOnReset => none
  | .writeDiscarded _ => none
  | .readReply _ => none
  | .unknownKind kind body => some (kind, body)
  | .issueRecord body => some (0x01, body)
  | .reserveCredential body => some (0x02, body)
  | .confirmCredential body => some (0x03, body)
  | .cancelCredential body => some (0x04, body)
  | .revokeCredential body => some (0x05, body)
  | .removeRevoked body => some (0x06, body)
  | .holdRecord body => some (0x07, body)
  | .releaseRecord body => some (0x08, body)
  | .retireRecord body => some (0x09, body)
  | .setMessage body => some (0x0A, body)
  | .setWatch body => some (0x0B, body)
  | .setFinal body => some (0x0C, body)
  | .setTier body => some (0x0D, body)
  | .setCap body => some (0x0E, body)
  | .readRecord body => some (0x0F, body)
  | .findCredential body => some (0x10, body)
  | .readRevoked body => some (0x11, body)
  | .setCabinZones body => some (0x20, body)
  | .assignCabin body => some (0x21, body)
  | .vacateCabin body => some (0x22, body)
  | .setCabinMode body => some (0x23, body)
  | .loadRole body => some (0x24, body)
  | .setRole body => some (0x25, body)
  | .setClassPolicy body => some (0x26, body)
  | .readCabin body => some (0x27, body)
  | .readRole body => some (0x28, body)
  | .setLocation body => some (0x30, body)
  | .readCounts body => some (0x31, body)
  | .readWatch body => some (0x32, body)
  | .scan body => some (0x33, body)
  | .setTime body => some (0x38, body)
  | .readTime body => some (0x39, body)
  | .setPhase body => some (0x3A, body)
  | .endMuster body => some (0x3B, body)
  | .setStation body => some (0x3C, body)
  | .readMuster body => some (0x3D, body)
  | .openFolio body => some (0x40, body)
  | .closeFolio body => some (0x41, body)
  | .reopenFolio body => some (0x42, body)
  | .suspendFolio body => some (0x43, body)
  | .resumeFolio body => some (0x44, body)
  | .setLimits body => some (0x45, body)
  | .postPayment body => some (0x46, body)
  | .postRefund body => some (0x47, body)
  | .postAdjustment body => some (0x48, body)
  | .addPrepaid body => some (0x49, body)
  | .linkRecord body => some (0x4A, body)
  | .readFolio body => some (0x4B, body)
  | .loadVenue body => some (0x50, body)
  | .setVenueOpen body => some (0x51, body)
  | .loadTier body => some (0x52, body)
  | .readVenue body => some (0x53, body)
  | .readTier body => some (0x54, body)
  | .hostVoidTab body => some (0x58, body)
  | .readTab body => some (0x59, body)
  | .listTabs body => some (0x5A, body)
  | .loadTerminal body => some (0x60, body)
  | .setTerminalEnabled body => some (0x61, body)
  | .portReset body => some (0x62, body)
  | .readPort body => some (0x63, body)
  | .readTerminals body => some (0x64, body)
  | .openService body => some (0x70, body)
  | .resumeService body => some (0x71, body)
  | .serviceReset body => some (0x72, body)
  | .setSetting body => some (0x73, body)
  | .readSettings body => some (0x74, body)
  | .readService body => some (0x75, body)
  | .readNotices body => some (0x78, body)
  | .ackNotices body => some (0x79, body)
  | .runTimeAdvance => none
  | .receivedByte _ _ _ => none

/-- The port and the kind code of the terminal request that a port takes (R165, R171). -/
def Instr.taken : Instr → Option (Port × Byte)
  | .frameArrival _ => none
  | .interByteGap _ => none
  | .unknownRequestKind _ => none
  | .ping port => some (port, 0x00)
  | .unlock port => some (port, 0x10)
  | .lockMode port => some (port, 0x11)
  | .charge port => some (port, 0x20)
  | .openTab port => some (port, 0x21)
  | .closeTab port => some (port, 0x22)
  | .voidTab port => some (port, 0x23)
  | .gangway port => some (port, 0x30)
  | .musterTap port => some (port, 0x31)
  | .lookup port => some (port, 0x40)
  | .reservationExpiry _ => none
  | .tabExpiry _ => none
  | .portSilenceExpiry _ => none
  | .serverWatchdogExpiry => none
  | .rollover => none
  | .pulseEnd => none
  | .holdoffEnd => none
  | .powerOnReset => none
  | .writeDiscarded _ => none
  | .readReply _ => none
  | .unknownKind _ _ => none
  | .issueRecord _ => none
  | .reserveCredential _ => none
  | .confirmCredential _ => none
  | .cancelCredential _ => none
  | .revokeCredential _ => none
  | .removeRevoked _ => none
  | .holdRecord _ => none
  | .releaseRecord _ => none
  | .retireRecord _ => none
  | .setMessage _ => none
  | .setWatch _ => none
  | .setFinal _ => none
  | .setTier _ => none
  | .setCap _ => none
  | .readRecord _ => none
  | .findCredential _ => none
  | .readRevoked _ => none
  | .setCabinZones _ => none
  | .assignCabin _ => none
  | .vacateCabin _ => none
  | .setCabinMode _ => none
  | .loadRole _ => none
  | .setRole _ => none
  | .setClassPolicy _ => none
  | .readCabin _ => none
  | .readRole _ => none
  | .setLocation _ => none
  | .readCounts _ => none
  | .readWatch _ => none
  | .scan _ => none
  | .setTime _ => none
  | .readTime _ => none
  | .setPhase _ => none
  | .endMuster _ => none
  | .setStation _ => none
  | .readMuster _ => none
  | .openFolio _ => none
  | .closeFolio _ => none
  | .reopenFolio _ => none
  | .suspendFolio _ => none
  | .resumeFolio _ => none
  | .setLimits _ => none
  | .postPayment _ => none
  | .postRefund _ => none
  | .postAdjustment _ => none
  | .addPrepaid _ => none
  | .linkRecord _ => none
  | .readFolio _ => none
  | .loadVenue _ => none
  | .setVenueOpen _ => none
  | .loadTier _ => none
  | .readVenue _ => none
  | .readTier _ => none
  | .hostVoidTab _ => none
  | .readTab _ => none
  | .listTabs _ => none
  | .loadTerminal _ => none
  | .setTerminalEnabled _ => none
  | .portReset _ => none
  | .readPort _ => none
  | .readTerminals _ => none
  | .openService _ => none
  | .resumeService _ => none
  | .serviceReset _ => none
  | .setSetting _ => none
  | .readSettings _ => none
  | .readService _ => none
  | .readNotices _ => none
  | .ackNotices _ => none
  | .runTimeAdvance => none
  | .receivedByte _ _ _ => none

/-- A kind code of R182 stands for its own request; UNKNOWN_KIND carries a code that is in no row of the table. -/
def Instr.kindGood : Instr → Bool
  | .unknownKind kind _ => decide (kind ∉ Machine.managementKinds)
  | i => i.request.all fun q => decide (q.1 ∈ Machine.managementKinds)

/-- The slot of a reservation and the entry of a tab are in their tables; other commands carry neither. -/
def Instr.slotGood : Instr → Bool
  | .reservationExpiry slot => decide (slot < Config.recordSlots)
  | .tabExpiry entry => decide (entry < Config.tabEntries)
  | .frameArrival _ => true
  | .interByteGap _ => true
  | .unknownRequestKind _ => true
  | .ping _ => true
  | .unlock _ => true
  | .lockMode _ => true
  | .charge _ => true
  | .openTab _ => true
  | .closeTab _ => true
  | .voidTab _ => true
  | .gangway _ => true
  | .musterTap _ => true
  | .lookup _ => true
  | .portSilenceExpiry _ => true
  | .serverWatchdogExpiry => true
  | .rollover => true
  | .pulseEnd => true
  | .holdoffEnd => true
  | .powerOnReset => true
  | .writeDiscarded _ => true
  | .readReply _ => true
  | .unknownKind _ _ => true
  | .issueRecord _ => true
  | .reserveCredential _ => true
  | .confirmCredential _ => true
  | .cancelCredential _ => true
  | .revokeCredential _ => true
  | .removeRevoked _ => true
  | .holdRecord _ => true
  | .releaseRecord _ => true
  | .retireRecord _ => true
  | .setMessage _ => true
  | .setWatch _ => true
  | .setFinal _ => true
  | .setTier _ => true
  | .setCap _ => true
  | .readRecord _ => true
  | .findCredential _ => true
  | .readRevoked _ => true
  | .setCabinZones _ => true
  | .assignCabin _ => true
  | .vacateCabin _ => true
  | .setCabinMode _ => true
  | .loadRole _ => true
  | .setRole _ => true
  | .setClassPolicy _ => true
  | .readCabin _ => true
  | .readRole _ => true
  | .setLocation _ => true
  | .readCounts _ => true
  | .readWatch _ => true
  | .scan _ => true
  | .setTime _ => true
  | .readTime _ => true
  | .setPhase _ => true
  | .endMuster _ => true
  | .setStation _ => true
  | .readMuster _ => true
  | .openFolio _ => true
  | .closeFolio _ => true
  | .reopenFolio _ => true
  | .suspendFolio _ => true
  | .resumeFolio _ => true
  | .setLimits _ => true
  | .postPayment _ => true
  | .postRefund _ => true
  | .postAdjustment _ => true
  | .addPrepaid _ => true
  | .linkRecord _ => true
  | .readFolio _ => true
  | .loadVenue _ => true
  | .setVenueOpen _ => true
  | .loadTier _ => true
  | .readVenue _ => true
  | .readTier _ => true
  | .hostVoidTab _ => true
  | .readTab _ => true
  | .listTabs _ => true
  | .loadTerminal _ => true
  | .setTerminalEnabled _ => true
  | .portReset _ => true
  | .readPort _ => true
  | .readTerminals _ => true
  | .openService _ => true
  | .resumeService _ => true
  | .serviceReset _ => true
  | .setSetting _ => true
  | .readSettings _ => true
  | .readService _ => true
  | .readNotices _ => true
  | .ackNotices _ => true
  | .runTimeAdvance => true
  | .receivedByte _ _ _ => true

/-- A command that the part can be given: the kind is a code of its own row, the body of a request is at most 1,024
bytes (R178), and a slot or entry is in its table. -/
def Instr.wellFormed (i : Instr) : Bool :=
  i.kindGood && i.slotGood && i.request.all fun q => decide (q.2.length ≤ Config.managementBody)

end Sys2Proof
end

