-- ==== Sys2Proof/Safety.lean ====
section
/-! DEFINITION. The terms in which claims speak: when a port can take a request, what a taken and answered request
leaves at its port, and the laws of the part's state, each of which every step keeps. -/

namespace Sys2Proof.Machine

/-! ## Requests of the host -/

/-- The management port can take a request frame (R180). -/
def State.idle (s : State) : Prop := s.management.state = .idle

/-- The management port can take a request frame, and the service-state gate passes every kind (R180, R182). -/
def State.ready (s : State) : Prop := s.management.state = .idle ∧ s.management.service ≠ .standalone

/-- What a request that was taken in `IDLE` and answered leaves at the management port (R180, R181, R185), in the
state that its own effect made. -/
def State.replied (s : State) (kind : Byte) (body : List Byte) (code : ReplyCode) (reply : List Byte) : State :=
  { s with management :=
      { s.management with
        state := .replyWaiting
        rejected := false
        request := none
        reply := { kind := kind, code := code, body := reply }
        watchdog :=
          if s.management.service = .serving then
            (watchdogTimeout s.settings.watchdogCode).map (s.clock.runTime + ·)
          else none
        shiftedOut := s.management.status :: List.replicate (body.length + 5) 0xFF } }

/-- Ordered checks, each with the refusal it gives: the first that fails decides. -/
def firstRefusal {α : Type} : List (Prop × α) → α → Prop
  | [], _ => False
  | (fails, code) :: rest, c => (fails ∧ c = code) ∨ (¬ fails ∧ firstRefusal rest c)

/-! ## Requests of the terminals -/

/-- A request of a terminal: the command that takes it, its code, its body size, and whether an entry's kind permits it
(R171). -/
structure TerminalRequest where
  take : Instr
  kind : Byte
  size : Nat
  permitted : Prop

/-- The terminal requests but PING, at a port and for an entry of its table (R171). -/
def terminalRequests (p : Port) (e : TerminalEntry) : List TerminalRequest :=
  [⟨.unlock p, 0x10, 6, e.kind = some .lock⟩,
    ⟨.lockMode p, 0x11, 1, e.kind = some .lock ∧ ∃ c, e.binding = some (.cabin c)⟩,
    ⟨.charge p, 0x20, 11, e.kind = some .pos⟩, ⟨.openTab p, 0x21, 10, e.kind = some .pos⟩,
    ⟨.closeTab p, 0x22, 7, e.kind = some .pos⟩, ⟨.voidTab p, 0x23, 2, e.kind = some .pos⟩,
    ⟨.gangway p, 0x30, 7, e.kind = some .gangway⟩, ⟨.musterTap p, 0x31, 6, e.kind = some .muster⟩,
    ⟨.lookup p, 0x40, 6, e.kind = some .pos ∨ e.kind = some .kiosk⟩]

/-- The binding of an entry is one that its kind is loaded with (R169, R170). -/
def TerminalEntry.boundAsKind (e : TerminalEntry) : Prop :=
  match e.kind, e.binding with
  | some .lock, some (.cabin _) | some .lock, some (.zone _) | some .pos, some (.venue _)
  | some .gangway, some (.gangway _) | some .muster, some (.station _) | some .kiosk, none | none, none => True
  | _, _ => False

/-- A frame is the oldest of its port's queue, the entry of its terminal is enabled, and the part is in service: the
terminal check and the service-state check have only the kind and the size left to test (R165, R172, R173). The port may
have another request in hand, whose reply is decided before the take. -/
def State.takes (s : State) (p : Port) (e : TerminalEntry) (f : Frame) : Prop :=
  (s.port p).queue.head? = some f ∧ s.terminal p f.term = e ∧ e.enabled = true ∧
    s.management.service ≠ .loading

/-- What a taken and answered request leaves at its port: the reply to the request that was in hand is decided, and the
frame has left the queue and is in hand with its own reply (R165, R166; log 33). -/
def State.answered (s : State) (p : Port) (f : Frame) (r : Result) (body : List Byte) : State :=
  s.setPort p
    { (s.port p).decided with
      queue := (s.port p).queue.drop 1
      inHand := some { frame := f, reply := { term := f.term, tag := f.tag, result := r, body := body } } }

/-- A presented number finds an active credential of a record (R22). -/
def State.finds (s : State) (n slot : Nat) (r : Record) : Prop :=
  n ≠ 0 ∧ n < 2 ^ 48 ∧ s.store.index.find n = some { slot := slot, status := .active } ∧ s.record slot = some r

/-- The lowest-numbered FREE slot of the record table (R9). -/
def State.lowestFreeRecord (s : State) (slot : Nat) : Prop :=
  slot < Config.recordSlots ∧ s.record slot = none ∧ ∀ k < slot, s.record k ≠ none

/-- The lowest-numbered FREE slot of the folio table (R110). -/
def State.lowestFreeFolio (s : State) (slot : Nat) : Prop :=
  slot < Config.folioSlots ∧ s.folio slot = none ∧ ∀ k < slot, s.folio k ≠ none

/-- The lowest-numbered free entry of the tab table (R142). -/
def State.lowestFreeTab (s : State) (entry : Nat) : Prop :=
  entry < Config.tabEntries ∧ s.tabs.entries.find entry = none ∧ ∀ k < entry, s.tabs.entries.find k ≠ none

/-! ## The laws of the state -/

/-- A frame partly received has fewer bytes than its LENGTH, at most 60, asks for (R160). -/
def partialFrame (bs : List Byte) : Prop :=
  match bs with
  | [] => True
  | length :: _ => length.toNat ≤ Config.frameBody ∧ bs.length < length.toNat + 6

/-- A port in good order: the queue, the error counter and the timer are in their ranges, the receiver holds part of a
frame, a frame collected whole stands in the place of log 7, and a request in hand has the reply of its own TERM and TAG
(R160, R163 to R166, R168; log 33). -/
def PortBlock.good (b : PortBlock) : Prop :=
  b.queue.length ≤ Config.queueSize ∧ b.errors ≤ 255 ∧
    (∀ h, b.inHand = some h → h.reply.term = h.frame.term ∧ h.reply.tag = h.frame.tag) ∧
    (b.silence = .active ↔ b.silenceExpiry ≠ none) ∧
    (match b.receiver with
      | .hunt => True
      | .frame collected _ => partialFrame collected) ∧
    (match b.whole with
      | none => True
      | some bs => collectedWhole bs = true ∧ bs.length ≤ Config.frameBody + 6)

/-- Every port is in good order. -/
def State.portsGood (s : State) : Prop := ∀ p, (s.port p).good

/-- The service state, its entry time and the watchdog go together (R183, R185), and no request is left half done
between two commands (log 20). -/
def State.serviceGood (s : State) : Prop :=
  (s.management.standaloneSince ≠ none ↔ s.management.service = .standalone) ∧
    (s.management.watchdog ≠ none ↔ s.management.service = .serving ∧ s.settings.watchdogCode ≠ 0) ∧
    s.management.state ≠ .working ∧ s.management.request = none

/-- The phase and the saved phase go together (R83). -/
def State.phaseGood (s : State) : Prop :=
  (s.muster.savedPhase ≠ none ↔ s.muster.phase = .muster) ∧ s.muster.savedPhase ≠ some .muster

/-- The offset and the last-rolled day are present exactly while the time status is SET, and the ship day is not beyond
the last-rolled day: whatever moves one makes the rollover test in the same step (R76 to R81). -/
def State.dayGood (s : State) : Prop :=
  (s.clock.offset ≠ none ↔ s.clock.status = .set) ∧ (s.clock.lastRolled ≠ none ↔ s.clock.status = .set) ∧
    ∀ t l, s.shipTime = some t → s.clock.lastRolled = some l → shipDay s.settings.rolloverHour t ≤ l

/-- The NOTICE line agrees with the demand: in LEVEL mode no pulse is in progress, the line is ASSERTED exactly with a
demand unless a holdoff runs; in PULSE mode it is not ASSERTED; a pulse is owed only in PULSE mode, during a pulse or
a holdoff (R199 to R201). -/
def State.lineGood (s : State) : Prop :=
  match s.settings.lineMode, s.notice.line with
  | .level, .negated => s.demand = 0 ∧ s.notice.owed = false
  | .level, .asserted => s.demand ≠ 0 ∧ s.notice.owed = false
  | .level, .pulse _ => False
  | .level, .holdoff _ => s.notice.owed = false
  | .pulse, .asserted => False
  | .pulse, .negated => s.notice.owed = false
  | .pulse, _ => True

/-- The number of records of a class in a location. -/
def State.census (s : State) (c : PersonClass) (l : Location) : Nat :=
  List.countP (fun e => decide (e.2.cls = c) && decide (e.2.location = l)) s.store.records

/-- The count matrix agrees with the records (R53). -/
def State.countsGood (s : State) : Prop :=
  Table.wf s.store.records = true ∧ ∀ c l, cell s.passage.counts c l = s.census c l

/-- The fields of one record that go together: the muster fields, the role, the cabins, the message, and the
credentials with a reservation (R4, R19, R29, R89; 01, the record table). -/
def Record.good (r : Record) : Prop :=
  (r.musterFlag = true ↔ r.musteredAt ≠ none) ∧ (r.musterFlag = true → r.location = .aboard) ∧
    (r.role ≠ none ↔ r.cls = .crew) ∧ (r.secondCabin ≠ none → r.homeCabin ≠ none ∧ r.secondCabin ≠ r.homeCabin) ∧
    (r.message ≠ 0 ↔ r.shows ≠ 0) ∧ r.credentials.length ≤ 2 ∧
    (∀ v, r.reservation = some v → r.credentials.length = 2 → ∃ n, v.replaces = some n ∧ r.holds n = true)

/-- Every record is in good order, and the record table in its canonical form. -/
def State.recordsGood (s : State) : Prop :=
  Table.wf s.store.records = true ∧ ∀ slot r, s.record slot = some r → r.good

/-- The credential index agrees with the records, an ACTIVE entry with a credentials list and a PENDING one with a
pending field; no list holds a number twice; and the index keeps within its size (R3, R4). -/
def State.credentialsGood (s : State) : Prop :=
  Table.wf s.store.records = true ∧ Table.wf s.store.index = true ∧ s.store.index.length ≤ Config.indexSize ∧
    (∀ n slot, s.store.index.find n = some { slot := slot, status := .active } ↔
      ∃ r, s.record slot = some r ∧ r.holds n = true) ∧
    (∀ n slot, s.store.index.find n = some { slot := slot, status := .pending } ↔
      ∃ r v, s.record slot = some r ∧ r.reservation = some v ∧ v.number = n) ∧
    ∀ slot r, s.record slot = some r → (r.credentials.map Credential.number).Nodup

/-- The occupant lists agree with the cabin fields: a list holds exactly the records that name its cabin, each once, and
at most 6 of them (R29). -/
def State.cabinsGood (s : State) : Prop :=
  Table.wf s.store.records = true ∧ Table.wf s.access.cabins = true ∧
    ∀ n, (s.cabin n).occupants.Nodup ∧ (s.cabin n).occupants.length ≤ Config.cabinOccupants ∧
      ∀ slot, slot ∈ (s.cabin n).occupants ↔
        ∃ r, s.record slot = some r ∧ (r.homeCabin = some n ∨ r.secondCabin = some n)

/-- The mustered counts and the station tallies agree with the records: the flagged records of a class, and those
mustered at a station (R89). -/
def State.musterGood (s : State) : Prop :=
  Table.wf s.store.records = true ∧ Table.wf s.muster.tallies = true ∧
    (∀ c, s.muster.mustered.get c =
      List.countP (fun e => decide (e.2.cls = c) && e.2.musterFlag) s.store.records) ∧
    ∀ n, s.tally n = List.countP (fun e => decide (e.2.musteredAt = some n)) s.store.records

/-- The member counts agree with the records: every record is linked to a folio in use, and a folio has as many members
as records linked to it, at most 8; a CLOSED folio has one at least (R98, R101). -/
def State.membersGood (s : State) : Prop :=
  Table.wf s.store.records = true ∧ Table.wf s.folios = true ∧
    (∀ slot r, s.record slot = some r → s.folio r.folio ≠ none) ∧
    ∀ slot f, s.folio slot = some f →
      f.members = List.countP (fun e => decide (e.2.folio = slot)) s.store.records ∧
        f.members ≤ Config.folioMembers ∧ (f.state = .closed → f.members ≠ 0)

/-- The sum of the holds of the open tabs secured on a folio. -/
def State.heldOn (s : State) (folio : Nat) : Nat :=
  ((s.tabs.entries.filter fun e => decide (e.2.folio = folio)).map fun e => e.2.hold).sum

/-- The number of the open tabs secured on a folio. -/
def State.tabsOn (s : State) (folio : Nat) : Nat := List.countP (fun e => decide (e.2.folio = folio)) s.tabs.entries

/-- One folio within its bounds, its state agreeing with its exposure: an ACTIVE or GRACE folio is within its hard
ceiling, a GRACE folio is above its soft limit, and so is one SUSPENDED for LIMIT or CEILING whose resume mode is AUTO
(R98, R99, R105, R109, R112; 05, the folio table). -/
def Folio.good (f : Folio) : Prop :=
  f.soft ≤ f.hard ∧ f.hard ≤ 100000000 ∧ f.grace ≤ f.allowance ∧ f.allowance ≤ 15 ∧ f.prepaid ≤ 10000000 ∧
    (-1000000000 ≤ f.balance ∧ f.balance ≤ 1000000000) ∧ (f.cause ≠ none ↔ f.state = .suspended) ∧
    (f.state = .active ∨ f.state = .grace → f.exposure ≤ f.hard) ∧ (f.state = .grace → f.soft < f.exposure) ∧
    (f.cause = some .limit ∨ f.cause = some .ceiling → f.resumeMode = .auto → f.soft < f.exposure) ∧
    (f.state = .closed → f.balance = 0 ∧ f.openTabs = 0) ∧ f.openTabs ≤ Config.folioTabs ∧ f.holds ≤ 2000000 ∧
    f.spend ≤ spendTop ∧ f.spendPrevious ≤ spendTop

/-- The folio table agrees with the tab table: every folio is within its bounds, its holds and its open-tab count are
those of the open tabs secured on it, and every open tab has a hold in its range and is secured on a folio that is not
CLOSED (R99, R105, R109, R144). -/
def State.foliosGood (s : State) : Prop :=
  Table.wf s.folios = true ∧ Table.wf s.tabs.entries = true ∧
    (∀ slot f, s.folio slot = some f → f.good ∧ f.holds = s.heldOn slot ∧ f.openTabs = s.tabsOn slot) ∧
    ∀ entry t, s.tabs.entries.find entry = some t →
      (100 ≤ t.hold ∧ t.hold ≤ 500000) ∧ ∃ f, s.folio t.folio = some f ∧ f.state ≠ .closed

/-- The open tabs are in order: each stands in an entry of the table, no two hold the same number, the numbers and the
counter are in their range, and the opener of each is a record linked to the tab's folio (R141, R142). -/
def State.tabsGood (s : State) : Prop :=
  Table.wf s.store.records = true ∧ Table.wf s.tabs.entries = true ∧
    (1 ≤ s.tabs.nextNumber ∧ s.tabs.nextNumber ≤ Config.lastTabNumber) ∧
    (s.tabs.entries.map fun e => e.2.number).Nodup ∧
    ∀ e ∈ s.tabs.entries,
      e.1 < Config.tabEntries ∧ (1 ≤ e.2.number ∧ e.2.number ≤ Config.lastTabNumber) ∧
        ∃ r, s.record e.2.opener = some r ∧ r.folio = e.2.folio

/-- The end of the pulse or holdoff in progress has not been passed. -/
def State.lineAhead (s : State) : Prop :=
  match s.notice.line with
  | .pulse ends => s.moment ≤ ends
  | .holdoff ends => s.moment ≤ ends
  | _ => True

/-- No timer has been passed: each that runs ends now or later (R75). The tables are in their canonical form, a silence
timer runs only at an ACTIVE port, and the watchdog only in SERVING. -/
def State.timersGood (s : State) : Prop :=
  Table.wf s.store.records = true ∧ Table.wf s.tabs.entries = true ∧
    (∀ slot r v, s.record slot = some r → r.reservation = some v → s.clock.runTime ≤ v.expiry) ∧
    (∀ entry t, s.tabs.entries.find entry = some t → s.clock.runTime ≤ t.expiry) ∧
    (∀ p e, (s.port p).silenceExpiry = some e → (s.port p).silence = .active ∧ s.clock.runTime ≤ e) ∧
    (∀ e, s.management.watchdog = some e → s.management.service = .serving ∧ s.clock.runTime ≤ e) ∧
    s.lineAhead

/-- The lists of bounded size: the revocation list, and the watch set, in which no slot stands twice (R5, R67). -/
def State.sizesGood (s : State) : Prop :=
  s.store.revoked.length ≤ Config.revocationSize ∧ s.passage.watch.length ≤ Config.watchSize ∧
    (s.passage.watch.map WatchEntry.slot).Nodup

end Sys2Proof.Machine
end

