-- ==== Sys2Proof/Certificates/Slice0/Obligations.lean ====
section
/-! DEFINITION. The statements for the provers. Each says, for every state and every operand that meets its
hypotheses, what a command answers; a whole next state stands for the frame as well. -/

open Sys2Proof Sys2Proof.Machine

/-! ### The queue, reset, and the laws of the state -/

/-- One step carries out the command at the front of the queue, with the rest of the queue waiting; with nothing in the
queue the part idles (log 1); and no command stops the part by a fault or a refusal. -/
def Obligations.StepRunsTheFrontCommand : Prop :=
  (∀ (c : Instr) (rest : List Instr) (s : State),
    step { s with pending := c :: rest } = exec c { s with pending := rest }) ∧
  (∀ s : State, s.pending = [] → step s = .next s) ∧
  ∀ (c : Instr) (s : State), ∃ t, exec c s = .next t

/-- What reset leaves in every block (R191 and the reset rules of the chapters that it names), and POWER_ON_RESET, which
gives every block that value from any state; the commands that wait stay (log 1). The places of a frame collected whole
and of the replies decided, both empty, are the model's (logs 7 and 8). -/
def Obligations.ResetAndPowerOn : Prop :=
  ((∀ p, State.reset.port p =
       { queue := [], inHand := none, receiver := .hunt, whole := none, errors := 0, silence := .silent,
         silenceExpiry := none, lastArrival := none, replies := [] }) ∧
     (∀ p t, State.reset.terminal p t = { kind := none, binding := none, enabled := false }) ∧
     (State.reset.management.state = .idle ∧ State.reset.management.rejected = false ∧
       State.reset.management.request = none ∧
       State.reset.management.reply = { kind := 0x00, code := .done, body := [] } ∧
       State.reset.management.service = .loading ∧ State.reset.management.standaloneSince = none ∧
       State.reset.management.watchdog = none) ∧
     (State.reset.settings.reservationCode = 2 ∧ State.reset.settings.blankingCode = 1 ∧
       State.reset.settings.rolloverHour = 4 ∧ State.reset.settings.watchdogCode = 0 ∧
       (∀ c, State.reset.settings.policies.get c = .cap) ∧ State.reset.settings.standaloneLimit = 20000 ∧
       State.reset.settings.enables = BitVec.allOnes 17 ∧ State.reset.settings.refusalMask = 0 ∧
       State.reset.settings.threshold = 90 ∧ State.reset.settings.latchMode = .latched ∧
       State.reset.settings.ackMode = .explicit ∧ State.reset.settings.lineMode = .level ∧
       State.reset.settings.pulseCode = 1 ∧ State.reset.settings.holdoff = 0) ∧
     ((∀ k, State.reset.record k = none) ∧ (∀ n, State.reset.store.index.find n = none) ∧
       State.reset.store.revoked = []) ∧
     ((∀ n, State.reset.cabin n = { zone := 0, occupants := [], mode := .normal }) ∧
       (∀ n, State.reset.role n =
          { zones := 0, cabin := false, privacyOverride := false, lockoutOverride := false, sweep := false }) ∧
       State.reset.access.policies.get .crew = { ashoreCheck := false, passback := .soft } ∧
       ∀ c, c ≠ .crew → State.reset.access.policies.get c = { ashoreCheck := true, passback := .hard }) ∧
     ((∀ c l, cell State.reset.passage.counts c l = 0) ∧ State.reset.passage.watch = []) ∧
     (State.reset.muster.phase = .atSea ∧ State.reset.muster.savedPhase = none ∧
       (∀ c, State.reset.muster.mustered.get c = 0) ∧ ∀ n, State.reset.tally n = 0) ∧
     (State.reset.clock.runTime = 0 ∧ State.reset.clock.millis = 0 ∧ State.reset.clock.status = .unset ∧
       State.reset.clock.offset = none ∧ State.reset.clock.lastRolled = none) ∧
     ((∀ k, State.reset.folio k = none) ∧
       (∀ n, State.reset.venue n = { category := .bar, rate := 0, classes := 0, isOpen := false, timeoutCode := 0 }) ∧
       (∀ n, State.reset.tier n = { cap := 0, count := 0 }) ∧ (∀ k, State.reset.tabs.entries.find k = none) ∧
       State.reset.tabs.nextNumber = 1) ∧
     (State.reset.pendingConditions = 0 ∧ State.reset.notice.silentPorts = 0 ∧ State.reset.notice.errorPorts = 0 ∧
       (∀ t, State.reset.notice.levels.get t = .below ∧ State.reset.notice.flags.get t = false) ∧
       State.reset.notice.lastRefusal = none ∧ State.reset.notice.line = .negated ∧ State.reset.notice.owed = false)) ∧
  (∀ s : State, exec .powerOnReset s = .next { State.reset with pending := s.pending })

/-- Every law of the state that `Safety` names holds at reset. -/
def Obligations.LawsHoldAtReset : Prop :=
  State.reset.portsGood ∧ State.reset.serviceGood ∧ State.reset.phaseGood ∧ State.reset.dayGood ∧
    State.reset.lineGood ∧
    State.reset.countsGood ∧ State.reset.musterGood ∧ State.reset.membersGood ∧ State.reset.recordsGood ∧
    State.reset.credentialsGood ∧ State.reset.cabinsGood ∧ State.reset.foliosGood ∧ State.reset.tabsGood ∧
    State.reset.timersGood ∧ State.reset.sizesGood

/-- The six ports stay in good order: at most 8 frames queued, counters at most 255, a timer exactly at an ACTIVE port,
part of a frame at most in the receiver, and a request in hand with the reply of its own TERM and TAG. The revocation
list and the watch set keep within their sizes, and no slot stands in the watch set twice. The place of the reply before
it is decided is the model's (log 33), and so is that of a frame collected whole, which the law bounds too (log 7). -/
def Obligations.StepKeepsPortsAndListSizes : Prop :=
  (∀ s t : State, s.portsGood → step s = .next t → t.portsGood) ∧
  (∀ s t : State, s.sizesGood → step s = .next t → t.sizesGood)

/-- The service state, the standalone entry time and the watchdog stay together, and so do the phase and the saved
phase. The ship day never stands beyond the last-rolled day between two commands: each advance of run time, each later
SET_TIME and each change of the rollover hour makes its rollover itself. The law says too that between two commands the
port is not WORKING and holds no request: that is the model's choice (log 20), where R179 lets the host see WORKING. -/
def Obligations.StepKeepsServiceAndPhase : Prop :=
  (∀ s t : State, s.serviceGood → s.phaseGood → step s = .next t → t.serviceGood ∧ t.phaseGood) ∧
  ∀ s t : State, s.dayGood → step s = .next t → t.dayGood

/-- The NOTICE line keeps agreeing with the demand. -/
def Obligations.StepKeepsLineWithDemand : Prop := ∀ s t : State, s.lineGood → step s = .next t → t.lineGood

/-- The counts keep agreeing with the records: each cell of the count matrix is the number of records of its class and
location, each mustered count and station tally the number of flagged records of its class and of its station, and each
folio's member count, at most 8, the number of records linked to it, where the opener of each open tab is linked to the
tab's folio. -/
def Obligations.StepKeepsCountsWithRecords : Prop :=
  (∀ s t : State, s.countsGood → step s = .next t → t.countsGood) ∧
  (∀ s t : State, s.recordsGood → s.musterGood → step s = .next t → t.musterGood) ∧
  ∀ s t : State, s.tabsGood → s.membersGood → step s = .next t → t.membersGood

/-- Every record keeps its fields together: muster fields, role, cabins, message, credentials and reservation. The
credential index keeps agreeing with the records and within its size, and the occupant lists of the cabins with the
cabin fields of the records. -/
def Obligations.StepKeepsRecordsGood : Prop :=
  (∀ s t : State, s.recordsGood → step s = .next t → t.recordsGood) ∧
  (∀ s t : State, s.credentialsGood → step s = .next t → t.credentialsGood) ∧
  ∀ s t : State, s.recordsGood → s.cabinsGood → step s = .next t → t.cabinsGood

/-- Every folio keeps within its bounds, keeps the state its exposure calls for, and keeps the holds and the count of
its open tabs. The open tabs keep distinct numbers, and the opener of each stays a record linked to the tab's folio. -/
def Obligations.StepKeepsFoliosWithTabs : Prop :=
  (∀ s t : State, s.foliosGood → step s = .next t → t.foliosGood) ∧
  ∀ s t : State, s.tabsGood → step s = .next t → t.tabsGood

/-- No step passes a timer. That an expiry is taken before time moves on is the model's choice (log 3). -/
def Obligations.StepPassesNoTimer : Prop := ∀ s t : State, s.timersGood → step s = .next t → t.timersGood

/-! ### The management port (09) -/

/-- A write that is not taken, since the port is not IDLE or the frame does not match, is discarded: the rejected flag
is set, and nothing else changes but the bytes shifted out. The field that holds the bytes shifted out is the model's
(log 9). -/
def Obligations.WriteNotTakenIsDiscarded : Prop :=
  (∀ (i : Instr) (kind : Byte) (body : List Byte) (s : State),
     i.wellFormed = true → i.request = some (kind, body) → s.management.state ≠ .idle →
       exec i s =
         .next
           { s with management :=
               { s.management with
                 rejected := true
                 shiftedOut := s.management.status :: List.replicate (body.length + 5) 0xFF } }) ∧
  (∀ (bs : List Byte) (s : State), ¬ (s.management.state = .idle ∧ managementFrameGood bs = true) →
     exec (.writeDiscarded (0x01 :: bs)) s =
       .next
         { s with management :=
             { s.management with
               rejected := true
               shiftedOut := s.management.status :: List.replicate bs.length 0xFF } })

/-- A taken request leaves the port REPLY_WAITING, the rejected flag clear and a reply of its own kind in the reply
slot, with an empty body unless it is DONE; and it restarts the watchdog when it leaves the part in SERVING, whatever
its reply code. That take and reply are one command, and the place of the watchdog's restart, are the model's choice
(logs 20 and 24). -/
def Obligations.EveryTakenRequestIsAnswered : Prop :=
  ∀ (i : Instr) (kind : Byte) (body : List Byte) (s : State),
    i.wellFormed = true → i.request = some (kind, body) → s.idle →
      ∃ t, exec i s = .next t ∧ t.management.state = .replyWaiting ∧ t.management.rejected = false ∧
        t.management.request = none ∧ t.management.reply.kind = kind ∧
        (t.management.reply.code ≠ .done → t.management.reply.body = []) ∧
        t.management.watchdog =
          if t.management.service = .serving then
            (watchdogTimeout t.settings.watchdogCode).map (s.clock.runTime + ·)
          else none

/-- A taken request of a kind outside the table is refused UNKNOWN_KIND in every service state; in STANDALONE, one of a
kind that the table of R182 marks refused is refused STANDALONE, whatever its body. That take and reply are one command
is the model's choice (log 20). -/
def Obligations.GateRefusesBeforeTheRequestsOwnChecks : Prop :=
  (∀ (kind : Byte) (body : List Byte) (s : State),
     kind ∉ managementKinds → body.length ≤ 1024 → s.idle →
       exec (.unknownKind kind body) s = .next (s.replied kind body .unknownKind [])) ∧
  (∀ (i : Instr) (kind : Byte) (body : List Byte) (s : State),
     i.wellFormed = true → i.request = some (kind, body) → kind ∈ managementKinds → kind ∉ standaloneKinds → s.idle →
       s.management.service = .standalone → exec i s = .next (s.replied kind body .standalone []))

/-- A read sends the status byte and the reply frame; a read that clocks out the whole waiting reply makes the port
IDLE, a shorter one does not, and a read in IDLE sends the last reply again. A first byte of 01h names a write, one of
02h a read, and any other a poll, which sends the status byte and then FFh and changes nothing. The field that holds the
bytes shifted out is the model's (log 9), and that a poll stands in the row of READ_REPLY is its choice (log 30). So is
the last clause: READ_REPLY with a first byte of 01h stands for no read and no poll, and does nothing (log 28). -/
def Obligations.ReadSendsReplyAndFreesPort : Prop :=
  ∀ (bs : List Byte) (s : State),
    (s.management.state = .replyWaiting → (managementReplyBytes s.management.reply).length ≤ bs.length →
      exec (.readReply (0x02 :: bs)) s =
        .next
          { s with management :=
              { s.management with
                state := .idle
                shiftedOut :=
                  0x02 :: (managementReplyBytes s.management.reply ++
                    List.replicate (bs.length - (managementReplyBytes s.management.reply).length) 0xFF) } }) ∧
    (s.management.state = .replyWaiting → bs.length < (managementReplyBytes s.management.reply).length →
      exec (.readReply (0x02 :: bs)) s =
        .next
          { s with management :=
              { s.management with
                shiftedOut := 0x02 :: (managementReplyBytes s.management.reply).take bs.length } }) ∧
    (s.management.state = .idle →
      exec (.readReply (0x02 :: bs)) s =
        .next
          { s with management :=
              { s.management with
                shiftedOut :=
                  (if s.management.rejected then 0x03 else 0x00) ::
                    ((managementReplyBytes s.management.reply).take bs.length ++
                      List.replicate (bs.length - (managementReplyBytes s.management.reply).length) 0xFF) } }) ∧
    (s.management.state = .working →
      exec (.readReply (0x02 :: bs)) s =
        .next { s with management := { s.management with shiftedOut := 0x01 :: List.replicate bs.length 0xFF } }) ∧
    (∀ first : Byte, first ≠ 0x01 → first ≠ 0x02 →
      let status : Byte :=
        match s.management.state with
        | .working => 0x01
        | .replyWaiting => 0x02
        | .idle => if s.management.rejected then 0x03 else 0x00
      exec (.readReply (first :: bs)) s =
        .next { s with management := { s.management with shiftedOut := status :: List.replicate bs.length 0xFF } }) ∧
    exec (.readReply (0x01 :: bs)) s = .next s

/-! ### Guest records and credentials (01) -/

/-- SET_MESSAGE, SET_WATCH, SET_FINAL, SET_TIER, SET_CAP, SET_STATION, HOLD_RECORD and RELEASE_RECORD each write their
own fields of one record, and nothing else but the management port. -/
def Obligations.RecordFieldRequestsComplete : Prop :=
  ∀ (s : State) (slot : Nat) (r : Record), s.ready → slot < 12288 → s.record slot = some r →
    (∀ code count : Nat, code < 256 → count ≤ 7 →
      exec (.setMessage (bytes 2 slot ++ byte code ++ byte count)) s =
        .next
          ((s.putRecord slot
            (if code = 0 ∨ count = 0 then { r with message := 0, shows := 0 }
              else { r with message := code, shows := count })).replied
            0x0A (bytes 2 slot ++ byte code ++ byte count) .done [])) ∧
    (∀ m : WatchMode,
      exec (.setWatch (bytes 2 slot ++ byte (watchModeCode m))) s =
        .next
          ((s.putRecord slot { r with watchMode := m }).replied 0x0B (bytes 2 slot ++ byte (watchModeCode m)) .done
            [])) ∧
    (∀ b : Bool,
      exec (.setFinal (bytes 2 slot ++ flagByte b)) s =
        .next ((s.putRecord slot { r with final := b }).replied 0x0C (bytes 2 slot ++ flagByte b) .done [])) ∧
    (∀ tier : Nat, tier ≤ 7 →
      exec (.setTier (bytes 2 slot ++ byte tier)) s =
        .next ((s.putRecord slot { r with tier := tier }).replied 0x0D (bytes 2 slot ++ byte tier) .done [])) ∧
    (∀ cap : Option Nat, (∀ v, cap = some v → v ≤ 1000000) →
      exec (.setCap (bytes 2 slot ++ optional (bytes 4) cap)) s =
        .next
          ((s.putRecord slot { r with cap := cap }).replied 0x0E (bytes 2 slot ++ optional (bytes 4) cap) .done [])) ∧
    (∀ n : Nat, n ≤ 15 →
      exec (.setStation (bytes 2 slot ++ byte n)) s =
        .next
          ((s.putRecord slot { r with station := n }).replied 0x3C (bytes 2 slot ++ byte n) .done (byte r.station))) ∧
    (r.life = .active →
      exec (.holdRecord (bytes 2 slot)) s =
        .next ((s.putRecord slot { r with life := .held }).replied 0x07 (bytes 2 slot) .done [])) ∧
    (r.life = .held →
      exec (.releaseRecord (bytes 2 slot)) s =
        .next ((s.putRecord slot { r with life := .active }).replied 0x08 (bytes 2 slot) .done []))

/-- The body of an ISSUE_RECORD, field by field (R8). -/
def issueBody (q : IssueFields) : List Byte :=
  byte (classCode q.cls) ++ bytes 4 q.reference ++ bytes 2 q.folio ++ byte (locationCode q.location) ++ byte q.tier ++
    optional (bytes 4) q.cap ++ byte q.station ++ optional byte q.role

/-- ISSUE_RECORD takes the lowest-numbered FREE slot, joins the folio and is counted; the record table reports its
occupancy, and in CUTOFF the reconciliation test is made. The order of the test and the report is the model's choice
(log 31). -/
def Obligations.IssueRecordTakesLowestFreeSlot : Prop :=
  ∀ (s : State) (q : IssueFields) (f : Folio) (slot : Nat), s.ready → s.lowestFreeRecord slot →
    q.reference < 2 ^ 32 → q.folio < 8192 → q.tier ≤ 7 → q.station < 16 → (∀ v, q.cap = some v → v ≤ 1000000) →
    (q.location = .notEmbarked ∨ q.location = .aboard) → (q.role ≠ none ↔ q.cls = .crew) →
    (∀ v, q.role = some v → v < 32) → s.folio q.folio = some f → (f.state = .active ∨ f.state = .grace) →
    f.members < 8 →
      exec (.issueRecord (issueBody q)) s =
        .next
          ((report .records
            (reconcile s.passage.counts
              { s with
                store := { s.store with records := (s.store.records.put slot
                  { life := .active, cls := q.cls, reference := q.reference, folio := q.folio, role := q.role,
                    homeCabin := none, secondCabin := none, location := q.location, final := false,
                    lastPassage := none, station := q.station, musterFlag := false, musteredAt := none,
                    tier := q.tier, drinks := 0, cap := q.cap, spend := 0, spendPrevious := 0, message := 0,
                    shows := 0, watchMode := .none, credentials := [], reservation := none }) }
                folios := s.folios.put q.folio { f with members := f.members + 1 }
                passage := { s.passage with
                  counts := setCell s.passage.counts q.cls q.location
                    (cell s.passage.counts q.cls q.location + 1) } })).replied
            0x01 (issueBody q) .done (bytes 2 slot))

/-- The body of a RESERVE_CREDENTIAL, field by field (R10). -/
def reserveBody (slot n : Nat) (k : CredentialKind) (replaces : Option Nat) : List Byte :=
  bytes 2 slot ++ bytes 6 n ++ byte (credentialKindCode k) ++ optional (bytes 6) replaces

/-- RESERVE_CREDENTIAL enters a PENDING number with the reservation time of its code; CANCEL_CREDENTIAL and the expiry
end the reservation, and the number leaves the index. The expiry raises RESERVE_EXPIRED, and does nothing before its
time. Of the ordered checks of RESERVE_CREDENTIAL the first that fails refuses it. That an expiry before its time does
nothing, and that the index's report comes before the raise, are the model's choice (logs 4 and 31). -/
def Obligations.ReservationIsMadeAndEnds : Prop :=
  (∀ (s : State) (slot n : Nat) (k : CredentialKind) (replaces : Option Nat) (r : Record), s.ready → slot < 12288 →
     s.record slot = some r → 0 < n → n < 2 ^ 48 → (∀ m, replaces = some m → 0 < m ∧ m < 2 ^ 48 ∧ r.holds m = true) →
     s.store.index.find n = none → (∀ v ∈ s.store.revoked, v.number ≠ n) → r.reservation = none →
     (r.credentials.length < 2 ∨ replaces ≠ none) → s.store.index.length < 24576 →
       exec (.reserveCredential (reserveBody slot n k replaces)) s =
         .next
           ((report .credentials
             { s with store := { s.store with
               records := (s.store.records.put slot
                 { r with reservation :=
                     (some { number := n, kind := k, replaces := replaces,
                             expiry := s.clock.runTime + reservationTime s.settings.reservationCode }) })
               index := s.store.index.put n { slot := slot, status := .pending } } }).replied
             0x02 (reserveBody slot n k replaces) .done
             (bytes 4 (s.clock.runTime + reservationTime s.settings.reservationCode)))) ∧
  (∀ (s : State) (slot : Nat) (r : Record) (v : Reservation) (e : IndexEntry), s.record slot = some r →
     r.reservation = some v → s.store.index.find v.number = some e →
     (s.ready → slot < 12288 → 0 < v.number → v.number < 2 ^ 48 →
       exec (.cancelCredential (bytes 2 slot ++ bytes 6 v.number)) s =
         .next
           ((report .credentials ((s.putRecord slot { r with reservation := none }).dropIndex v.number)).replied
             0x04 (bytes 2 slot ++ bytes 6 v.number) .done [])) ∧
     (v.expiry ≤ s.clock.runTime →
       exec (.reservationExpiry slot) s =
         .next
           (raise .reserveExpired
             (report .credentials ((s.putRecord slot { r with reservation := none }).dropIndex v.number)))) ∧
     (s.clock.runTime < v.expiry → exec (.reservationExpiry slot) s = .next s)) ∧
  ∀ (s : State) (slot n : Nat) (k : CredentialKind) (replaces : Option Nat) (r : Record) (code : ReplyCode), s.ready →
    slot < 12288 → s.record slot = some r → 0 < n → n < 2 ^ 48 → (∀ m, replaces = some m → 0 < m ∧ m < 2 ^ 48) →
    firstRefusal
      [(s.store.index.find n ≠ none, .duplicate), (∃ v ∈ s.store.revoked, v.number = n, .revokedNumber),
        (∃ m, replaces = some m ∧ r.holds m = false, .notFound), (r.reservation ≠ none, .credFull),
        (2 ≤ r.credentials.length ∧ replaces = none, .credFull), (24576 ≤ s.store.index.length, .full)] code →
      exec (.reserveCredential (reserveBody slot n k replaces)) s =
        .next (s.replied 0x02 (reserveBody slot n k replaces) code [])

/-- CONFIRM_CREDENTIAL makes the pending number ACTIVE at the end of the record's list; a replaced number that the list
still holds is revoked first, with reason REPLACED. The order of the two reports is the model's choice (log 31). -/
def Obligations.ConfirmCredentialActivates : Prop :=
  ∀ (s : State) (slot n : Nat) (r : Record) (v : Reservation), s.ready → slot < 12288 → 0 < n → n < 2 ^ 48 →
    s.record slot = some r → r.reservation = some v → v.number = n →
    ((∀ m, v.replaces = some m → r.holds m = false) →
      exec (.confirmCredential (bytes 2 slot ++ bytes 6 n)) s =
        .next
          (((s.putRecord slot
            { r with credentials := r.credentials ++ [{ number := n, kind := v.kind }], reservation := none }).putIndex
              n { slot := slot, status := .active }).replied 0x03 (bytes 2 slot ++ bytes 6 n) .done [0x00])) ∧
    (∀ m e, v.replaces = some m → r.holds m = true → s.store.index.find m = some e →
      let kept := r.credentials.filter fun c => decide (c.number ≠ m)
      exec (.confirmCredential (bytes 2 slot ++ bytes 6 n)) s =
        .next
          ((((appendRevocation { number := m, slot := slot, reason := .replaced, time := s.clock.runTime }
            (report .credentials ((s.putRecord slot { r with credentials := kept }).dropIndex m))).putRecord slot
              { r with credentials := kept ++ [{ number := n, kind := v.kind }], reservation := none }).putIndex
              n { slot := slot, status := .active }).replied
            0x03 (bytes 2 slot ++ bytes 6 n) .done (0x01 :: bytes 6 m)))

/-- REVOKE_CREDENTIAL takes an ACTIVE number out of its record and of the index, and enters it into the revocation list;
a PENDING number is refused WRONG_STATE, a revoked one DUPLICATE and an unknown one NOT_FOUND. REMOVE_REVOKED takes a
number out of the list, and a list of 2,048 entries drops its oldest for a new one, with REVOKE_OVERFLOW. That the full
list makes no occupancy report, and the order of the two reports, are the model's choice (logs 18 and 31). -/
def Obligations.RevokeRemoveAndTheFullList : Prop :=
  ((∀ (s : State) (n : Nat) (reason : RevocationReason), s.ready → 0 < n → n < 2 ^ 48 →
      (reason = .lost ∨ reason = .host) →
      (∀ slot r, s.store.index.find n = some { slot := slot, status := .active } → s.record slot = some r →
        exec (.revokeCredential (bytes 6 n ++ byte (reasonCode reason))) s =
          .next
            ((appendRevocation { number := n, slot := slot, reason := reason, time := s.clock.runTime }
              (report .credentials
                ((s.putRecord slot
                  { r with credentials := r.credentials.filter fun c => decide (c.number ≠ n) }).dropIndex n))).replied
              0x05 (bytes 6 n ++ byte (reasonCode reason)) .done (bytes 2 slot))) ∧
      (∀ slot, s.store.index.find n = some { slot := slot, status := .pending } →
        exec (.revokeCredential (bytes 6 n ++ byte (reasonCode reason))) s =
          .next (s.replied 0x05 (bytes 6 n ++ byte (reasonCode reason)) .wrongState [])) ∧
      (s.store.index.find n = none → (∃ v ∈ s.store.revoked, v.number = n) →
        exec (.revokeCredential (bytes 6 n ++ byte (reasonCode reason))) s =
          .next (s.replied 0x05 (bytes 6 n ++ byte (reasonCode reason)) .duplicate [])) ∧
      (s.store.index.find n = none → (∀ v ∈ s.store.revoked, v.number ≠ n) →
        exec (.revokeCredential (bytes 6 n ++ byte (reasonCode reason))) s =
          .next (s.replied 0x05 (bytes 6 n ++ byte (reasonCode reason)) .notFound []))) ∧
   (∀ (s : State) (n : Nat) (v : Revocation), s.ready → 0 < n → n < 2 ^ 48 →
      (s.store.revoked.find? fun w => decide (w.number = n)) = some v →
        ∃ t : State,
          exec (.removeRevoked (bytes 6 n)) s =
            .next
              ((report .revocations t).replied 0x06 (bytes 6 n) .done (bytes 2 v.slot ++ byte (reasonCode v.reason))) ∧
          t = { s with store := { s.store with revoked := t.store.revoked } } ∧
          t.store.revoked = s.store.revoked.filter (fun w => decide (w.number ≠ n)) ∧
          ∀ w ∈ t.store.revoked, w.number ≠ n)) ∧
  (∀ (s : State) (v : Revocation),
     (s.store.revoked.length < 2048 →
       (appendRevocation v s).store.revoked = s.store.revoked ++ [v] ∧
         appendRevocation v s =
           report .revocations { s with store := { s.store with revoked := s.store.revoked ++ [v] } }) ∧
     (s.store.revoked.length = 2048 →
       (appendRevocation v s).store.revoked.length = 2048 ∧
         (appendRevocation v s).notice.pending.getLsbD (conditionCode .revokeOverflow) = true ∧
         ∀ w rest, s.store.revoked = w :: rest →
           appendRevocation v s = raise .revokeOverflow { s with store := { s.store with revoked := rest ++ [v] } }))

/-- RETIRE_RECORD revokes the record's credentials, oldest first, with reason RETIRED, a full list dropping its oldest
entries with REVOKE_OVERFLOW; it frees the slot, ends the reservation, the cabins, the watch entry and the count of the
record, and leaves every other record and every other folio as it was. Of its ordered checks the first that fails
refuses it. -/
def Obligations.RetireRecordFreesTheSlot : Prop :=
  (∀ (s : State) (slot : Nat) (r : Record) (f : Folio), s.ready → slot < 12288 → s.record slot = some r →
     (r.location = .notEmbarked ∨ r.location = .disembarked) → (∀ e ∈ s.tabs.entries, e.2.opener ≠ slot) →
     s.store.revoked.length ≤ 2048 → s.folio r.folio = some f → (1 < f.members ∨ f.state = .closed) →
     Table.wf s.store.records = true → Table.wf s.store.index = true → Table.wf s.folios = true →
     Table.wf s.access.cabins = true →
       ∃ t : State,
         exec (.retireRecord (bytes 2 slot)) s =
           .next (t.replied 0x09 (bytes 2 slot) .done (byte r.credentials.length)) ∧
         t.record slot = none ∧ (∀ k, k ≠ slot → t.record k = s.record k) ∧
         t.store.revoked =
           (s.store.revoked ++
             r.credentials.map fun c : Credential =>
               ({ number := c.number, slot := slot, reason := .retired, time := s.clock.runTime } : Revocation)).drop
             (s.store.revoked.length + r.credentials.length - 2048) ∧
         t.notice.pending =
           (if 2048 < s.store.revoked.length + r.credentials.length then
             s.notice.pending ||| Condition.revokeOverflow.bit
           else s.notice.pending) ∧
         t.notice.levels.get .records =
           (if 12288 * s.settings.threshold / 100 ≤ t.store.records.length then .at else .below) ∧
         t.notice.levels.get .tabs = s.notice.levels.get .tabs ∧ t.notice.lastRefusal = s.notice.lastRefusal ∧
         t.notice.silentPorts = s.notice.silentPorts ∧ t.notice.errorPorts = s.notice.errorPorts ∧
         (∀ c ∈ r.credentials, t.store.index.find c.number = none) ∧
         (∀ v, r.reservation = some v → t.store.index.find v.number = none) ∧
         (∀ n, (∀ c ∈ r.credentials, c.number ≠ n) → (∀ v, r.reservation = some v → v.number ≠ n) →
           t.store.index.find n = s.store.index.find n) ∧
         t.passage.counts =
           setCell s.passage.counts r.cls r.location (cell s.passage.counts r.cls r.location - 1) ∧
         t.passage.watch = s.passage.watch.filter (fun e => decide (e.slot ≠ slot)) ∧
         (∀ n, (t.cabin n).occupants =
           if r.homeCabin = some n ∨ r.secondCabin = some n then
             (s.cabin n).occupants.filter fun o => decide (o ≠ slot)
           else (s.cabin n).occupants) ∧
         (∀ n, (t.cabin n).zone = (s.cabin n).zone ∧ (t.cabin n).mode = (s.cabin n).mode) ∧
         t.folio r.folio =
           (if f.state = .closed ∧ f.members ≤ 1 then none else some { f with members := f.members - 1 }) ∧
         (∀ k, k ≠ r.folio → t.folio k = s.folio k) ∧
         t.ports = s.ports ∧ t.terminals = s.terminals ∧ t.management = s.management ∧ t.settings = s.settings ∧
         t.access.roles = s.access.roles ∧ t.access.policies = s.access.policies ∧ t.muster = s.muster ∧
         t.clock = s.clock ∧ t.charge = s.charge ∧ t.tabs = s.tabs) ∧
  ∀ (s : State) (slot : Nat) (r : Record) (f : Folio) (code : ReplyCode), s.ready → slot < 12288 →
    s.record slot = some r → s.folio r.folio = some f →
    firstRefusal
      [(r.location = .aboard ∨ r.location = .ashore, .wrongState), (∃ e ∈ s.tabs.entries, e.2.opener = slot, .tabsOpen),
        (f.members ≤ 1 ∧ f.state ≠ .closed, .folioOpen)] code →
      exec (.retireRecord (bytes 2 slot)) s = .next (s.replied 0x09 (bytes 2 slot) code [])

/-- READ_RECORD, FIND_CREDENTIAL and READ_REVOKED answer from the tables as they stand, and change nothing but the
management port. Where a reply has a presence or count byte the model reads it from the sizes the manual gives (logs 12
and 13). -/
def Obligations.RecordReadsChangeNothing : Prop :=
  ∀ s : State, s.idle →
    (∀ slot r, slot < 12288 → s.record slot = some r →
      exec (.readRecord (bytes 2 slot)) s = .next (s.replied 0x0F (bytes 2 slot) .done (recordBytes r))) ∧
    (∀ slot, slot < 12288 → s.record slot = none →
      exec (.readRecord (bytes 2 slot)) s = .next (s.replied 0x0F (bytes 2 slot) .done [0x00])) ∧
    (∀ n, 0 < n → n < 2 ^ 48 →
      (∀ slot r c, s.store.index.find n = some { slot := slot, status := .active } → s.record slot = some r →
        (r.credentials.find? fun c => decide (c.number = n)) = some c →
        exec (.findCredential (bytes 6 n)) s =
          .next (s.replied 0x10 (bytes 6 n) .done (byte 0 ++ bytes 2 slot ++ byte (credentialKindCode c.kind)))) ∧
      (∀ slot r v, s.store.index.find n = some { slot := slot, status := .pending } → s.record slot = some r →
        r.reservation = some v →
        exec (.findCredential (bytes 6 n)) s =
          .next
            (s.replied 0x10 (bytes 6 n) .done
              (byte 1 ++ bytes 2 slot ++ byte (credentialKindCode v.kind) ++ bytes 4 v.expiry))) ∧
      (∀ v, s.store.index.find n = none → (s.store.revoked.find? fun w => decide (w.number = n)) = some v →
        exec (.findCredential (bytes 6 n)) s =
          .next
            (s.replied 0x10 (bytes 6 n) .done
              (byte 2 ++ bytes 2 v.slot ++ byte (reasonCode v.reason) ++ bytes 4 v.time))) ∧
      (s.store.index.find n = none → (s.store.revoked.find? fun w => decide (w.number = n)) = none →
        exec (.findCredential (bytes 6 n)) s = .next (s.replied 0x10 (bytes 6 n) .done (byte 3)))) ∧
    (∀ p, p < 2048 →
      exec (.readRevoked (bytes 2 p)) s =
        .next
          (s.replied 0x11 (bytes 2 p) .done
            (bytes 2 s.store.revoked.length ++ listBytes revocationBytes ((s.store.revoked.drop p).take 32))))

/-- A number presented in a frame that finds no record: the result, and the state after the report. An unknown and a
pending number are reported under the mask; a revoked one raises REVOKED_PRESENTED and overwrites the last-refusal
record whether or not its result is selected (R22, R23). -/
def lookupMisses (s : State) (p : Port) (f : Frame) (n : Nat) (x : Result) (t : State) : Prop :=
  (x = .denyUnknown ∧ (n = 0 ∨ (s.store.index.find n = none ∧ ∀ v ∈ s.store.revoked, v.number ≠ n)) ∧
    t = reportRefusal p f.term .denyUnknown (some n) none s) ∨
  (∃ slot, x = .denyPending ∧ n ≠ 0 ∧ s.store.index.find n = some { slot := slot, status := .pending } ∧
    t = reportRefusal p f.term .denyPending (some n) (some slot) s) ∨
  ∃ v, x = .denyRevoked ∧ n ≠ 0 ∧ s.store.index.find n = none ∧
    (s.store.revoked.find? fun w => decide (w.number = n)) = some v ∧
    let raised := raise .revokedPresented s
    t =
      reportRefusal p f.term .denyRevoked (some n) (some v.slot)
        { raised with notice :=
            { raised.notice with
              lastRefusal :=
                some
                  { port := p, term := f.term, result := .denyRevoked, credential := some n, slot := some v.slot,
                    time := s.clock.runTime } } }

/-- LOOKUP answers a found number with the record's summary, and consumes no showing of its message; an unknown, a
pending and a revoked number are answered DENY_UNKNOWN, DENY_PENDING and DENY_REVOKED, the last reported whether or not
the result is selected. A lookup of another unit that finds a record consumes one showing: the count falls by 1, and the
code becomes 0 with it. That a reply is kept in a list is the model's choice (log 8), and the presence bytes of the
summary and the empty body of a refusal are its reading (logs 14 and 15). The request taken stays in hand with its
reply, by the model's choice (log 33). -/
def Obligations.LookupReportsWhatItFinds : Prop :=
  (∀ (s : State) (p : Port) (e : TerminalEntry) (f : Frame) (n slot : Nat) (r : Record), s.takes p e f →
     (e.kind = some .kiosk ∨ (e.kind = some .pos ∧ ∃ v, e.binding = some (.venue v))) → f.kind = 0x40 →
     f.body = bytes 6 n → s.finds n slot r →
       exec (.lookup p) s =
         .next
           (s.answered p f .ok
             (bytes 2 slot ++ byte (recordStateCode (some r.life)) ++ byte (classCode r.cls) ++ bytes 4 r.reference ++
               byte (locationCode r.location) ++ optional (bytes 2) r.homeCabin ++ optional (bytes 2) r.secondCabin ++
               byte r.tier ++ byte r.drinks ++ byte r.message))) ∧
  (∀ (s : State) (p : Port) (e : TerminalEntry) (f : Frame) (n : Nat) (x : Result) (t : State), s.takes p e f →
     (e.kind = some .kiosk ∨ (e.kind = some .pos ∧ ∃ v, e.binding = some (.venue v))) → f.kind = 0x40 →
     f.body = bytes 6 n → n < 2 ^ 48 → lookupMisses s p f n x t →
       exec (.lookup p) s = .next (t.answered p f x [])) ∧
  (∀ (s : State) (p : Port) (e : TerminalEntry) (f : Frame) (n : Nat) (v : Revocation), s.takes p e f →
     (e.kind = some .kiosk ∨ (e.kind = some .pos ∧ ∃ v, e.binding = some (.venue v))) → f.kind = 0x40 →
     f.body = bytes 6 n → n < 2 ^ 48 → 0 < n → s.store.index.find n = none →
     (s.store.revoked.find? fun w => decide (w.number = n)) = some v →
       ∃ t : State,
         exec (.lookup p) s = .next (t.answered p f .denyRevoked []) ∧
         t.notice.lastRefusal =
           some { port := p, term := f.term, result := .denyRevoked, credential := some n, slot := some v.slot,
                  time := s.clock.runTime } ∧
         t.notice.pending =
           s.notice.pending ||| Condition.revokedPresented.bit |||
             (if s.settings.refusalMask.getLsbD 0x11 then Condition.refusal.bit else 0) ∧
         t = { s with notice := t.notice } ∧ t.notice.levels = s.notice.levels ∧ t.notice.flags = s.notice.flags ∧
         t.notice.silentPorts = s.notice.silentPorts ∧ t.notice.errorPorts = s.notice.errorPorts) ∧
  (∀ (s : State) (slot : Nat) (r : Record), s.record slot = some r → (r.message ≠ 0 → r.shows ≠ 0) →
     (r.message = 0 → consumeMessage slot r s = s) ∧
     (r.message ≠ 0 → 1 < r.shows →
       consumeMessage slot r s = s.putRecord slot { r with shows := r.shows - 1 }) ∧
     (r.message ≠ 0 → r.shows = 1 → consumeMessage slot r s = s.putRecord slot { r with shows := 0, message := 0 }))

/-! ### Cabins, roles and lock decisions (02) -/

/-- The state and the reply of an UNLOCK refused after a found lookup: the refusal is reported with the presented number
and the record's slot. -/
def unlockRefused (s : State) (p : Port) (f : Frame) (n slot : Nat) (r : Record) (d : Result)
    (mode : Option CabinMode) : State :=
  (reportRefusal p f.term d (some n) (some slot) (consumeMessage slot r s)).answered p f d
    (optional byte r.guestMessage ++ optional (fun m => byte (cabinModeCode m)) mode)

/-- UNLOCK at a cabin lock opens to an occupant, and to crew whose role allows it, whether ABOARD or ASHORE with the
ashore check of the class OFF; it is refused by lookup, location, hold, occupancy, zone and mode. The presence bytes of
the reply are the model's reading (logs 14 and 15). The request taken stays in hand with its reply, by the model's
choice (log 33). -/
def Obligations.UnlockAtACabinLock : Prop :=
  ∀ (s : State) (p : Port) (e : TerminalEntry) (f : Frame) (n c : Nat), s.takes p e f → e.kind = some .lock →
    e.binding = some (.cabin c) → f.kind = 0x10 → f.body = bytes 6 n →
    let cabin := s.cabin c
    (∀ x t, n < 2 ^ 48 → lookupMisses s p f n x t →
      exec (.unlock p) s = .next (t.answered p f x (0x00 :: 0x01 :: byte (cabinModeCode cabin.mode)))) ∧
    ∀ (slot : Nat) (r : Record), s.finds n slot r →
      let opened : State :=
        (consumeMessage slot r s).answered p f .ok
          (optional byte r.guestMessage ++ (0x01 :: byte (cabinModeCode cabin.mode)))
      let refused (x : Result) : State := unlockRefused s p f n slot r x (some cabin.mode)
      let here : Prop :=
        r.location = .aboard ∨ (r.location = .ashore ∧ (s.access.policies.get r.cls).ashoreCheck = false)
      let sweeps (role : Nat) : Prop := (s.role role).sweep = true ∧ s.muster.phase = .muster
      let privacy (role : Nat) : Prop := (s.role role).privacyOverride = true ∨ sweeps role
      let lockout (role : Nat) : Prop := (s.role role).lockoutOverride = true ∨ sweeps role
      (r.location = .notEmbarked → exec (.unlock p) s = .next (refused .denyNotEmbarked)) ∧
      (r.location = .disembarked → exec (.unlock p) s = .next (refused .denyDeparted)) ∧
      (r.location = .ashore → (s.access.policies.get r.cls).ashoreCheck = true →
        exec (.unlock p) s = .next (refused .denyAshore)) ∧
      (here → r.life = .held → (r.cls = .crew ∨ slot ∉ cabin.occupants) →
        exec (.unlock p) s = .next (refused .denyHeld)) ∧
      (here → (r.life = .active ∨ r.cls ≠ .crew) → slot ∈ cabin.occupants →
        (cabin.mode ≠ .lockout → exec (.unlock p) s = .next opened) ∧
        (cabin.mode = .lockout → exec (.unlock p) s = .next (refused .denyLockout))) ∧
      (here → r.life = .active → r.cls ≠ .crew → slot ∉ cabin.occupants →
        exec (.unlock p) s = .next (refused .denyNotOccupant)) ∧
      ∀ role, here → r.life = .active → r.cls = .crew → slot ∉ cabin.occupants → r.role = some role →
        ((s.role role).cabin = false ∨ (s.role role).zones.getLsbD cabin.zone = false →
          exec (.unlock p) s = .next (refused .denyZone)) ∧
        ((s.role role).cabin = true → (s.role role).zones.getLsbD cabin.zone = true →
          (cabin.mode = .normal ∨ cabin.mode = .service → exec (.unlock p) s = .next opened) ∧
          (cabin.mode = .privacy →
            (privacy role → exec (.unlock p) s = .next opened) ∧
            (¬ privacy role → exec (.unlock p) s = .next (refused .denyPrivacy))) ∧
          (cabin.mode = .lockout →
            (lockout role → exec (.unlock p) s = .next opened) ∧
            (¬ lockout role → exec (.unlock p) s = .next (refused .denyLockout))))

/-- UNLOCK at a zone lock, from its lookup to its ninth check: a record that is not aboard is refused by its location,
unless it is ASHORE and the ashore check of its class is OFF; a HELD record is refused; crew of the zone are answered
OK, and other crew and every guest and visitor DENY_ZONE, whatever the role's other attributes; no cabin mode applies.
The presence bytes of the reply are the model's reading (logs 14 and 15). The request taken stays in hand with its
reply, by the model's choice (log 33). -/
def Obligations.UnlockAtAZoneLock : Prop :=
  ∀ (s : State) (p : Port) (e : TerminalEntry) (f : Frame) (n z : Nat), s.takes p e f → e.kind = some .lock →
    e.binding = some (.zone z) → f.kind = 0x10 → f.body = bytes 6 n →
    (∀ x t, n < 2 ^ 48 → lookupMisses s p f n x t →
      exec (.unlock p) s = .next (t.answered p f x [0x00, 0x00])) ∧
    ∀ (slot : Nat) (r : Record), s.finds n slot r →
      let refused (x : Result) : State := unlockRefused s p f n slot r x none
      let here : Prop :=
        r.location = .aboard ∨ (r.location = .ashore ∧ (s.access.policies.get r.cls).ashoreCheck = false)
      (r.location = .notEmbarked → exec (.unlock p) s = .next (refused .denyNotEmbarked)) ∧
      (r.location = .disembarked → exec (.unlock p) s = .next (refused .denyDeparted)) ∧
      (r.location = .ashore → (s.access.policies.get r.cls).ashoreCheck = true →
        exec (.unlock p) s = .next (refused .denyAshore)) ∧
      (here → r.life = .held → exec (.unlock p) s = .next (refused .denyHeld)) ∧
      (∀ role, here → r.life = .active → r.cls = .crew → r.role = some role → (s.role role).zones.getLsbD z = true →
        exec (.unlock p) s =
          .next ((consumeMessage slot r s).answered p f .ok (optional byte r.guestMessage ++ [0x00]))) ∧
      (∀ role, here → r.life = .active → r.cls = .crew → r.role = some role → (s.role role).zones.getLsbD z = false →
        exec (.unlock p) s = .next (refused .denyZone)) ∧
      (here → r.life = .active → r.cls ≠ .crew → exec (.unlock p) s = .next (refused .denyZone))

/-- LOCK_MODE by the mode of the bound cabin at take: NORMAL and PRIVACY take the setting, SERVICE and LOCKOUT are
answered DENY_MODE. A setting other than the two is answered RANGE. Both refusals are reported with no credential and no
slot. The empty body of a RANGE is the model's reading (log 15). The request taken stays in hand with its reply, by the
model's choice (log 33). -/
def Obligations.LockModeByModeAtTake : Prop :=
  ∀ (s : State) (p : Port) (e : TerminalEntry) (f : Frame) (c : Nat), s.takes p e f →
    e.kind = some .lock → e.binding = some (.cabin c) → f.kind = 0x11 →
    (∀ on : Bool, f.body = flagByte on →
      ((s.cabin c).mode = .normal ∨ (s.cabin c).mode = .privacy →
        exec (.lockMode p) s =
          .next
            ((s.putCabin c { s.cabin c with mode := if on then .privacy else .normal }).answered p f .ok
              (byte (if on then 1 else 0)))) ∧
      ((s.cabin c).mode = .service ∨ (s.cabin c).mode = .lockout →
        exec (.lockMode p) s =
          .next
            ((reportRefusal p f.term .denyMode none none s).answered p f .denyMode
              (byte (cabinModeCode (s.cabin c).mode))))) ∧
    ∀ setting : Byte, f.body = [setting] → setting ≠ 0x00 → setting ≠ 0x01 →
      exec (.lockMode p) s = .next ((reportRefusal p f.term .range none none s).answered p f .range [])

/-- SET_CABIN_ZONES gives consecutive cabins the zones it carries; ASSIGN_CABIN appends the record to the cabin and
names the cabin in the record's first free cabin field; VACATE_CABIN takes both out again, and a second cabin moves up;
SET_CABIN_MODE sets the mode. Of the ordered checks of ASSIGN_CABIN the first that fails refuses it. -/
def Obligations.CabinRequestsAllComplete : Prop :=
  (∀ (s : State) (first : Nat) (zones : List Nat), s.ready → 1 ≤ zones.length → zones.length ≤ 32 →
     first + zones.length ≤ 3072 → (∀ z ∈ zones, z < 64) → Table.wf s.access.cabins = true →
       ∃ t : State,
         exec (.setCabinZones (bytes 2 first ++ byte zones.length ++ zones.flatMap byte)) s =
           .next (t.replied 0x20 (bytes 2 first ++ byte zones.length ++ zones.flatMap byte) .done []) ∧
         (∀ n, t.cabin n =
           if h : first ≤ n ∧ n - first < zones.length then { s.cabin n with zone := zones[n - first]'h.2 }
           else s.cabin n) ∧
         t = { s with access := { s.access with cabins := t.access.cabins } }) ∧
  (∀ (s : State) (slot c : Nat) (r : Record), s.ready → slot < 12288 → c < 3072 → s.record slot = some r →
     (r.homeCabin = none → r.secondCabin = none → (s.cabin c).occupants.length < 6 →
       exec (.assignCabin (bytes 2 slot ++ bytes 2 c)) s =
         .next
           (((s.putRecord slot { r with homeCabin := some c }).putCabin c
             { s.cabin c with occupants := (s.cabin c).occupants ++ [slot] }).replied 0x21 (bytes 2 slot ++ bytes 2 c)
             .done (byte ((s.cabin c).occupants.length + 1) ++ byte 0))) ∧
     (∀ h, r.homeCabin = some h → h ≠ c → r.secondCabin = none → (s.cabin c).occupants.length < 6 →
       exec (.assignCabin (bytes 2 slot ++ bytes 2 c)) s =
         .next
           (((s.putRecord slot { r with secondCabin := some c }).putCabin c
             { s.cabin c with occupants := (s.cabin c).occupants ++ [slot] }).replied 0x21 (bytes 2 slot ++ bytes 2 c)
             .done (byte ((s.cabin c).occupants.length + 1) ++ byte 1))) ∧
     (∀ code,
       firstRefusal
         [(r.homeCabin = some c ∨ r.secondCabin = some c, .duplicate), (6 ≤ (s.cabin c).occupants.length, .full),
           (r.homeCabin ≠ none ∧ r.secondCabin ≠ none, .full)] code →
       exec (.assignCabin (bytes 2 slot ++ bytes 2 c)) s =
         .next (s.replied 0x21 (bytes 2 slot ++ bytes 2 c) code [])) ∧
     (Table.wf s.access.cabins = true → (r.homeCabin = some c ∨ r.secondCabin = some c) →
       let left := (s.cabin c).occupants.filter fun o => decide (o ≠ slot)
       exec (.vacateCabin (bytes 2 slot ++ bytes 2 c)) s =
         .next
           (((s.putRecord slot
             (if r.secondCabin = some c then { r with secondCabin := none }
               else { r with homeCabin := r.secondCabin, secondCabin := none })).putCabin c
             { s.cabin c with occupants := left }).replied 0x22 (bytes 2 slot ++ bytes 2 c) .done
             (byte left.length))) ∧
     (∀ m : CabinMode,
       exec (.setCabinMode (bytes 2 c ++ byte (cabinModeCode m))) s =
         .next
           ((s.putCabin c { s.cabin c with mode := m }).replied 0x23 (bytes 2 c ++ byte (cabinModeCode m)) .done
             (byte (cabinModeCode (s.cabin c).mode)))))

/-- The body of a LOAD_ROLE, field by field (R39). -/
def roleBody (n : Nat) (role : Role) : List Byte :=
  byte n ++ bytes 8 role.zones.toNat ++ flagByte role.cabin ++ flagByte role.privacyOverride ++
    flagByte role.lockoutOverride ++ flagByte role.sweep

/-- LOAD_ROLE replaces a role, SET_ROLE changes the role of a CREW record, SET_CLASS_POLICY sets a class's two policies,
and each changes nothing else; READ_CABIN and READ_ROLE answer from the tables. The count byte of the cabins read is the
model's reading (log 13). -/
def Obligations.RoleAndPolicyRequestsComplete : Prop :=
  ∀ s : State,
    (s.ready →
      (∀ (n : Nat) (role : Role), n < 32 →
        exec (.loadRole (roleBody n role)) s =
          .next
            ({ s with access := { s.access with
                roles := s.access.roles.putValue Role.powerOn n role } }.replied 0x24 (roleBody n role) .done [])) ∧
      (∀ (slot n old : Nat) (r : Record), slot < 12288 → n < 32 → s.record slot = some r → r.cls = .crew →
        r.role = some old →
        exec (.setRole (bytes 2 slot ++ byte n)) s =
          .next
            ((s.putRecord slot { r with role := some n }).replied 0x25 (bytes 2 slot ++ byte n) .done (byte old))) ∧
      (∀ (c : PersonClass) (check : Bool) (b : Passback),
        exec (.setClassPolicy (byte (classCode c) ++ flagByte check ++ byte (if b = Passback.hard then 0 else 1))) s =
          .next
            ({ s with access := { s.access with
                policies := s.access.policies.set c { ashoreCheck := check, passback := b } } }.replied 0x26
              (byte (classCode c) ++ flagByte check ++ byte (if b = Passback.hard then 0 else 1)) .done []))) ∧
    (s.idle →
      (∀ first count : Nat, 1 ≤ count → count ≤ 16 → first + count ≤ 3072 →
        exec (.readCabin (bytes 2 first ++ byte count)) s =
          .next
            (s.replied 0x27 (bytes 2 first ++ byte count) .done
              (byte count ++ ((List.range count).flatMap fun i => cabinBytes (s.cabin (first + i)))))) ∧
      (∀ n : Nat, n < 32 →
        exec (.readRole (byte n)) s = .next (s.replied 0x28 (byte n) .done (roleBytes (s.role n)))))

/-! ### Gangway passage and counts (03) -/

/-- The body of a GANGWAY reply after a found lookup: the class, the location after the request and the guest message
(R63). -/
def passReply (r : Record) (after : Location) : List Byte :=
  byte (classCode r.cls) ++ byte (locationCode after) ++ optional byte r.guestMessage

/-- GANGWAY, for a record found, in a phase and outside a window that let it reach the ninth check: the location at take
and the direction decide. An OK changes the location and writes the last passage, a noted passback writes the last
passage alone, and a denial changes nothing but the showing of a message. The presence byte of the message is the
model's reading (log 14). The request taken stays in hand with its reply, by the model's choice (log 33). -/
def Obligations.GangwayDecidesTheNinthCheck : Prop :=
  ∀ (s : State) (p : Port) (e : TerminalEntry) (f : Frame) (n slot g : Nat) (r : Record) (d : Direction),
    s.takes p e f → e.kind = some .gangway → e.binding = some (.gangway g) → f.kind = 0x30 →
    f.body = bytes 6 n ++ byte (directionCode d) → s.finds n slot r →
    (s.muster.phase = .inPort ∨ (s.muster.phase = .cutoff ∧ (d = .inbound ∨ r.cls = .crew ∨ r.cls = .visitor))) →
    (∀ l, r.lastPassage = some l →
      l.gangway ≠ g ∨ l.direction ≠ d ∨ l.time + blankingWindow s.settings.blankingCode ≤ s.clock.runTime) →
    (d = .inbound ∨ r.life = .active) →
    let shown := consumeMessage slot r s
    let passage : Passage := { gangway := g, direction := d, time := s.clock.runTime }
    (∀ new, (d = .inbound ∧ (r.location = .notEmbarked ∨ r.location = .ashore) ∧ new = .aboard) ∨
        (d = .outbound ∧ r.location = .aboard ∧ new = if r.final then .disembarked else .ashore) →
      exec (.gangway p) s =
        .next
          ((setLastPassage slot (some passage) (changeLocation slot r.shown new shown)).answered p f .ok
            (passReply r new))) ∧
    ((d = .inbound ∧ r.location = .aboard) ∨ (d = .outbound ∧ r.location = .ashore) →
      ((s.access.policies.get r.cls).passback = .soft →
        exec (.gangway p) s =
          .next ((setLastPassage slot (some passage) shown).answered p f .passbackNoted (passReply r r.location))) ∧
      ((s.access.policies.get r.cls).passback = .hard →
        exec (.gangway p) s =
          .next
            ((reportRefusal p f.term .denyPassback (some n) (some slot) shown).answered p f .denyPassback
              (passReply r r.location)))) ∧
    (d = .outbound → r.location = .notEmbarked →
      exec (.gangway p) s =
        .next
          ((reportRefusal p f.term .denyNotEmbarked (some n) (some slot) shown).answered p f .denyNotEmbarked
            (passReply r .notEmbarked)))

/-- The checks of GANGWAY before the ninth: a direction other than the two is out of range; at sea and in a muster it is
refused before any lookup; a lookup that finds no record refuses it; in CUTOFF a guest does not pass out; a second read
within the blanking window is a REPEAT and moves nobody; a DISEMBARKED record is refused in either direction, and a HELD
one outward. The presence byte of the message and the empty bodies are the model's reading (logs 14 and 15), and so is
the absent slot of a report made before any lookup (log 25). The request taken stays in hand with its reply, by the
model's choice (log 33). -/
def Obligations.GangwayRefusesByItsEarlierChecks : Prop :=
  (∀ (s : State) (p : Port) (e : TerminalEntry) (f : Frame) (n g : Nat) (direction : Byte),
    s.takes p e f → e.kind = some .gangway → e.binding = some (.gangway g) → f.kind = 0x30 →
    f.body = bytes 6 n ++ [direction] → n < 2 ^ 48 → direction ≠ 0x00 → direction ≠ 0x01 →
      exec (.gangway p) s = .next ((reportRefusal p f.term .range (some n) none s).answered p f .range [])) ∧
  ∀ (s : State) (p : Port) (e : TerminalEntry) (f : Frame) (n g : Nat) (d : Direction),
    s.takes p e f → e.kind = some .gangway → e.binding = some (.gangway g) → f.kind = 0x30 →
    f.body = bytes 6 n ++ byte (directionCode d) → n < 2 ^ 48 →
    (s.muster.phase = .atSea ∨ s.muster.phase = .muster →
      exec (.gangway p) s =
        .next ((reportRefusal p f.term .denyPhase (some n) none s).answered p f .denyPhase [])) ∧
    (∀ x t, (s.muster.phase = .inPort ∨ s.muster.phase = .cutoff) → lookupMisses s p f n x t →
      exec (.gangway p) s = .next (t.answered p f x [])) ∧
    ∀ (slot : Nat) (r : Record), s.finds n slot r →
      let shown := consumeMessage slot r s
      let refused (x : Result) : State :=
        (reportRefusal p f.term x (some n) (some slot) shown).answered p f x (passReply r r.location)
      let open_ := s.muster.phase = .inPort ∨
        (s.muster.phase = .cutoff ∧ (d = .inbound ∨ r.cls = .crew ∨ r.cls = .visitor))
      let again := ∃ t, r.lastPassage = some { gangway := g, direction := d, time := t } ∧
        s.clock.runTime < t + blankingWindow s.settings.blankingCode
      (s.muster.phase = .cutoff → d = .outbound → (r.cls = .guestAdult ∨ r.cls = .guestMinor) →
        exec (.gangway p) s = .next (refused .denyPhase)) ∧
      (open_ → again → exec (.gangway p) s = .next (shown.answered p f .repeated (passReply r r.location))) ∧
      (open_ → ¬ again → r.location = .disembarked → exec (.gangway p) s = .next (refused .denyDeparted)) ∧
      (open_ → ¬ again → r.location ≠ .disembarked → r.life = .held → d = .outbound →
        exec (.gangway p) s = .next (refused .denyHeld))

/-- The reconciliation test of a change of the count matrix: in CUTOFF each of the two conditions is raised where it
holds after the change and did not hold before it, and in any other phase neither is (R71). -/
def reconciled (s t : State) : Prop :=
  (t.notice.pending.getLsbD (conditionCode .allAboard) = true ↔
    s.notice.pending.getLsbD (conditionCode .allAboard) = true ∨
      (s.muster.phase = .cutoff ∧ allAboard s.passage.counts = false ∧ allAboard t.passage.counts = true)) ∧
  (t.notice.pending.getLsbD (conditionCode .allClear) = true ↔
    s.notice.pending.getLsbD (conditionCode .allClear) = true ∨
      (s.muster.phase = .cutoff ∧ allClear s.passage.counts = false ∧ allClear t.passage.counts = true))

/-- A change of location moves one record, its count and, away from ABOARD, its place in the muster; raises TAB_ASHORE
for an opener of tabs; and enters a watch hit into the watch set. A hit is a departure from ABOARD or an arrival into
it, by the watch mode. In CUTOFF it raises ALL_ABOARD and ALL_CLEAR, each where its condition comes to hold, and in any
other phase neither. Other records, the credentials, the folios, the tabs and the clock stay. -/
def Obligations.ChangeOfLocationAndItsWatchHits : Prop :=
  (∀ (s : State) (slot : Nat) (r : Record) (new : Location), s.record slot = some r → r.location ≠ new →
     let t := changeLocation slot r new s
     let off : Prop := r.location = .aboard ∧ r.musterFlag = true
     (¬ off → t.record slot = some { r with location := new } ∧ t.muster = s.muster) ∧
     (off → t.record slot = some { r with location := new, musterFlag := false, musteredAt := none } ∧
       (Table.wf s.muster.tallies = true → ∀ n, r.musteredAt = some n →
         t.muster.mustered = s.muster.mustered.set r.cls (s.muster.mustered.get r.cls - 1) ∧
         (∀ k, t.tally k = if k = n then s.tally n - 1 else s.tally k) ∧ t.muster.phase = s.muster.phase ∧
         t.muster.savedPhase = s.muster.savedPhase)) ∧
     (∀ k, k ≠ slot → t.record k = s.record k) ∧ t.store.index = s.store.index ∧ t.store.revoked = s.store.revoked ∧
     (∀ c l, cell t.passage.counts c l =
       if c = r.cls ∧ l = r.location then cell s.passage.counts c l - 1
       else if c = r.cls ∧ l = new then cell s.passage.counts c l + 1
       else cell s.passage.counts c l) ∧
     (r.location = .aboard → (∃ e ∈ s.tabs.entries, e.2.opener = slot) →
       t.notice.pending.getLsbD (conditionCode .tabAshore) = true) ∧
     (∀ h, watchHit r.watchMode r.location new = some h →
       ((∃ e ∈ s.passage.watch, e.slot = slot) →
         t.passage.watch = s.passage.watch.map fun e => if e.slot = slot then e.flagged h else e) ∧
       ((∀ e ∈ s.passage.watch, e.slot ≠ slot) → s.passage.watch.length < 64 →
         t.passage.watch = s.passage.watch ++
           [{ slot := slot, wentAshore := decide (h = .wentAshore), cameAboard := decide (h = .cameAboard) }]) ∧
       ((∀ e ∈ s.passage.watch, e.slot ≠ slot) → 64 ≤ s.passage.watch.length →
         t.passage.watch = s.passage.watch ∧ t.notice.pending.getLsbD (conditionCode .watchOverflow) = true)) ∧
     (watchHit r.watchMode r.location new = none → t.passage.watch = s.passage.watch) ∧ reconciled s t ∧
     t.folios = s.folios ∧ t.tabs = s.tabs ∧ t.charge = s.charge ∧ t.access = s.access ∧ t.clock = s.clock ∧
     t.settings = s.settings ∧ t.management = s.management ∧ t.ports = s.ports ∧ t.terminals = s.terminals) ∧
  (∀ (m : WatchMode) (old new : Location), old ≠ new →
     (watchHit m old new = some .wentAshore ↔
       (m = .onAshore ∨ m = .any) ∧ old = .aboard ∧ (new = .ashore ∨ new = .disembarked)) ∧
     (watchHit m old new = some .cameAboard ↔ (m = .onAboard ∨ m = .any) ∧ new = .aboard)) ∧
  ∀ (s : State) (before : ByClass (ByLocation Nat)),
    let t := reconcile before s
    reconciled { s with passage := { s.passage with counts := before } } t ∧ t = { s with notice := t.notice } ∧
      ∀ c : Condition, c ≠ .allAboard → c ≠ .allClear →
        t.notice.pending.getLsbD (conditionCode c) = s.notice.pending.getLsbD (conditionCode c)

/-- The two reconciliation conditions on the count matrix. -/
def Obligations.ReconciliationConditions : Prop :=
  ∀ m : ByClass (ByLocation Nat),
    (allAboard m = true ↔ m.guestAdult.ashore = 0 ∧ m.guestMinor.ashore = 0 ∧ m.crew.ashore = 0) ∧
    (allClear m = true ↔
      m.guestAdult.ashore = 0 ∧ m.guestMinor.ashore = 0 ∧ m.crew.ashore = 0 ∧ m.visitor.aboard = 0)

/-- SET_LOCATION changes the location and clears the last passage, or changes nothing where the location is the record's
own; READ_WATCH takes the oldest entries out of the watch set and shows them. The count byte of the entries shown is the
model's reading (log 13). -/
def Obligations.SetLocationAndReadWatchComplete : Prop :=
  ∀ s : State,
    (∀ (slot : Nat) (r : Record) (new : Location), s.ready → slot < 12288 → s.record slot = some r →
      (r.location ≠ new →
        exec (.setLocation (bytes 2 slot ++ byte (locationCode new))) s =
          .next
            ((setLastPassage slot none (changeLocation slot r new s)).replied 0x30
              (bytes 2 slot ++ byte (locationCode new)) .done (byte (locationCode r.location)))) ∧
      (r.location = new →
        exec (.setLocation (bytes 2 slot ++ byte (locationCode new))) s =
          .next
            (s.replied 0x30 (bytes 2 slot ++ byte (locationCode new)) .done (byte (locationCode r.location))))) ∧
    (∀ count : Nat, s.idle → 1 ≤ count → count ≤ 16 →
      exec (.readWatch (byte count)) s =
        .next
          ((setWatch (s.passage.watch.drop count) s).replied 0x32 (byte count) .done
            (listBytes (watchBytes s) (s.passage.watch.take count) ++ byte (s.passage.watch.length - count))))

/-! ### Ship time, phases and muster (04) -/

/-- SET_TIME tells the part its ship time; the first one rolls nothing, a later one makes the rollover test, and
ROLLOVER makes it alone, also apart from an advance (log 32). A rollover moves every spend today to the previous day,
clears it with the drinks used, raises DAY_ROLLOVER, and leaves balances, holds, limits and states. That a rollover not
due does nothing is the model's choice (log 4). -/
def Obligations.SetTimeAndRollover : Prop :=
  (∀ s : State,
     (∀ t : Nat, s.ready → t < 2 ^ 32 →
       let day := shipDay s.settings.rolloverHour t
       let told : TimeBase := { s.clock with status := .set, offset := some ((t : Int) - s.clock.runTime) }
       (s.clock.status = .unset →
         exec (.setTime (bytes 8 t)) s =
           .next
             ({ s with clock := { told with lastRolled := some day } }.replied 0x38 (bytes 8 t) .done
               (0x00 :: signedBytes 4 day ++ signedBytes 4 day ++ [0x00]))) ∧
       (∀ o l : Int, s.clock.status = .set → s.clock.offset = some o → s.clock.lastRolled = some l →
         (l < day →
           exec (.setTime (bytes 8 t)) s =
             .next
               ((rollOver day { s with clock := told }).replied 0x38 (bytes 8 t) .done
                 (0x01 :: signedBytes 8 (s.clock.runTime + o) ++ signedBytes 4 day ++ signedBytes 4 day ++ [0x01]))) ∧
         (day ≤ l →
           exec (.setTime (bytes 8 t)) s =
             .next
               ({ s with clock := told }.replied 0x38 (bytes 8 t) .done
                 (0x01 :: signedBytes 8 (s.clock.runTime + o) ++ signedBytes 4 day ++ signedBytes 4 l ++ [0x00]))))) ∧
     (∀ o l : Int, s.clock.status = .set → s.clock.offset = some o → s.clock.lastRolled = some l →
       let day := (s.clock.runTime + o - s.settings.rolloverHour * 3600) / 86400
       (l < day → exec .rollover s = .next (rollOver day s)) ∧ (day ≤ l → exec .rollover s = .next s)) ∧
     (s.clock.status = .unset → exec .rollover s = .next s)) ∧
  (∀ (s : State) (day : Int),
     let t := rollOver day s
     t.clock = { s.clock with lastRolled := some day } ∧
     t.notice.pending = s.notice.pending ||| Condition.dayRollover.bit ∧
     (∀ k, t.folio k = (s.folio k).map fun f => { f with spendPrevious := f.spend, spend := 0 }) ∧
     (∀ k, t.record k = (s.record k).map fun r => { r with spendPrevious := r.spend, spend := 0, drinks := 0 }) ∧
     t.store.index = s.store.index ∧ t.store.revoked = s.store.revoked ∧ t.passage = s.passage ∧ t.muster = s.muster ∧
     t.access = s.access ∧ t.charge = s.charge ∧ t.tabs = s.tabs ∧ t.settings = s.settings ∧
     t.management = s.management ∧ t.ports = s.ports ∧ t.terminals = s.terminals ∧ t.pending = s.pending)

/-- SET_PHASE by the phase at take and the phase carried; END_MUSTER restores the saved phase, makes the reconciliation
test where that is CUTOFF, and leaves the counts of the muster as they stand. That the counts of a reply have no count
byte and no presence byte is the model's reading (logs 10 and 12). -/
def Obligations.PhaseRequestsComplete : Prop :=
  (∀ (s : State) (new : Phase), s.ready →
     let body := byte (phaseCode new)
     let moved : State := { s with muster := { s.muster with phase := new } }
     let before := byte (phaseCode s.muster.phase)
     ((s.muster.phase = .atSea ∧ new = .inPort) ∨ (s.muster.phase = .inPort ∧ new = .atSea) ∨
         (s.muster.phase = .cutoff ∧ new = .inPort) →
       exec (.setPhase body) s = .next (moved.replied 0x3A body .done before)) ∧
     (s.muster.phase = .inPort → new = .cutoff →
       let first := if allAboard s.passage.counts = true then raise .allAboard moved else moved
       let last := if allClear s.passage.counts = true then raise .allClear first else first
       exec (.setPhase body) s = .next (last.replied 0x3A body .done before)) ∧
     (s.muster.phase = .cutoff → new = .atSea →
       let cells :=
         bytes 2 s.passage.counts.guestAdult.ashore ++ bytes 2 s.passage.counts.guestMinor.ashore ++
           bytes 2 s.passage.counts.crew.ashore
       exec (.setPhase body) s =
         .next
           ((if allAboard s.passage.counts = true then moved else raise .ashoreAtSailing moved).replied 0x3A body .done
             (before ++ cells))) ∧
     (s.muster.phase ≠ .muster → new = .muster →
       exec (.setPhase body) s =
         .next
           ({ s with
               store := { s.store with
                 records := s.store.records.mapValues fun r => { r with musterFlag := false, musteredAt := none } }
               muster :=
                 { phase := .muster, savedPhase := some s.muster.phase,
                   mustered := { guestAdult := 0, guestMinor := 0, crew := 0, visitor := 0 }, tallies := [] } }.replied
             0x3A body .done before)) ∧
     (s.muster.phase = .muster ∨ s.muster.phase = new ∨ (s.muster.phase = .atSea ∧ new = .cutoff) →
       exec (.setPhase body) s = .next (s.replied 0x3A body .wrongState []))) ∧
  (∀ s : State, s.ready →
     (∀ p, s.muster.phase = .muster → s.muster.savedPhase = some p →
       let back : State := { s with muster := { s.muster with phase := p, savedPhase := none } }
       let counts := s.passage.counts
       let first := if p = .cutoff ∧ allAboard counts = true then raise .allAboard back else back
       let last := if p = .cutoff ∧ allClear counts = true then raise .allClear first else first
       exec (.endMuster []) s =
         .next
           (last.replied 0x3B [] .done
             (byte (phaseCode p) ++ classCountBytes s.muster.mustered ++ bytes 2 counts.guestAdult.aboard ++
               bytes 2 counts.guestMinor.aboard ++ bytes 2 counts.crew.aboard ++ bytes 2 counts.visitor.aboard))) ∧
     (s.muster.phase ≠ .muster → exec (.endMuster []) s = .next (s.replied 0x3B [] .wrongState [])))

/-- MUSTER_TAP checks in a record that is ABOARD and not yet checked in, with OK at its own station and OK_ELSEWHERE at
another; a second tap is a REPEAT, a record that is not ABOARD and a number that finds no record are refused, and
outside MUSTER so is every tap. The presence bytes of the message and of the station and the empty bodies are the
model's reading (logs 14 and 15), and so is the absent slot of a report made before any lookup (log 25). The request
taken stays in hand with its reply, by the model's choice (log 33). -/
def Obligations.MusterTapChecksIn : Prop :=
  ∀ (s : State) (p : Port) (e : TerminalEntry) (f : Frame) (n station : Nat),
    s.takes p e f → e.kind = some .muster → e.binding = some (.station station) → f.kind = 0x31 →
    f.body = bytes 6 n → n < 2 ^ 48 →
    (s.muster.phase ≠ .muster →
      exec (.musterTap p) s =
        .next ((reportRefusal p f.term .denyPhase (some n) none s).answered p f .denyPhase [])) ∧
    (∀ x t, s.muster.phase = .muster → lookupMisses s p f n x t →
      exec (.musterTap p) s = .next (t.answered p f x [])) ∧
    ∀ (slot : Nat) (r : Record), s.finds n slot r →
      let shown := consumeMessage slot r s
      let reply (at_ : Option Nat) : List Byte :=
        byte (classCode r.cls) ++ byte r.station ++ optional byte at_ ++ optional byte r.guestMessage
      (s.muster.phase = .muster → r.location = .aboard → r.musterFlag = false →
        exec (.musterTap p) s =
          .next
            (({ shown.putRecord slot { r.shown with musterFlag := true, musteredAt := some station } with
                muster :=
                  { s.muster with
                    mustered := s.muster.mustered.set r.cls (s.muster.mustered.get r.cls + 1)
                    tallies := s.muster.tallies.putValue 0 station (s.tally station + 1) } }).answered p f
              (if r.station = station then .ok else .okElsewhere) (reply (some station)))) ∧
      (s.muster.phase = .muster → r.location = .aboard → r.musterFlag = true →
        exec (.musterTap p) s = .next (shown.answered p f .repeated (reply r.musteredAt))) ∧
      (∀ x, s.muster.phase = .muster →
        (r.location = .ashore ∧ x = .denyAshore) ∨ (r.location = .notEmbarked ∧ x = .denyNotEmbarked) ∨
          (r.location = .disembarked ∧ x = .denyDeparted) →
        exec (.musterTap p) s =
          .next ((reportRefusal p f.term x (some n) (some slot) shown).answered p f x (reply r.musteredAt)))

/-! ### Folios and credit states (05) -/

/-- Re-evaluation moves a folio by its exposure and its stored limits; an entry into SUSPENDED raises FOLIO_SUSPENDED,
by re-evaluation and by a limit decline, and a suspension by the host raises nothing. -/
def Obligations.ReevaluationByExposure : Prop :=
  (∀ f : Folio,
    (f.state = .active → f.exposure > f.hard →
      f.reevaluated = ({ f with state := .suspended, cause := some .ceiling }, true)) ∧
    (f.state = .active → f.exposure ≤ f.hard → f.reevaluated = (f, false)) ∧
    (f.state = .grace → f.exposure ≤ f.soft →
      f.reevaluated = ({ f with state := .active, cause := none, grace := f.allowance }, false)) ∧
    (f.state = .grace → f.soft < f.exposure → f.exposure ≤ f.hard → f.reevaluated = (f, false)) ∧
    (f.state = .grace → f.soft < f.exposure → f.hard < f.exposure →
      f.reevaluated = ({ f with state := .suspended, cause := some .ceiling }, true)) ∧
    (f.state = .suspended → (f.cause = some .limit ∨ f.cause = some .ceiling) → f.resumeMode = .auto →
      f.exposure ≤ f.soft →
      f.reevaluated = ({ f with state := .active, cause := none, grace := f.allowance }, false)) ∧
    (f.state = .suspended → (f.soft < f.exposure ∨ f.resumeMode = .latched ∨ f.cause = some .host) →
      f.reevaluated = (f, false)) ∧
    (f.state = .closed → f.reevaluated = (f, false))) ∧
  (∀ (s : State) (slot : Nat) (f : Folio),
    (f.reevaluated.2 = true →
      storeReevaluated slot f s = raise .folioSuspended (s.putFolio slot f.reevaluated.1)) ∧
    (f.reevaluated.2 = false → storeReevaluated slot f s = s.putFolio slot f.reevaluated.1) ∧
    limitDecline slot f s =
      raise .folioSuspended (s.putFolio slot { f with state := .suspended, cause := some .limit }) ∧
    (s.ready → slot < 8192 → s.folio slot = some f → ∀ t, exec (.suspendFolio (bytes 2 slot)) s = .next t →
      t.notice = s.notice))

/-- The body of an OPEN_FOLIO (R110). -/
def openFolioBody (soft hard allowance : Nat) (m : ResumeMode) : List Byte :=
  bytes 4 soft ++ bytes 4 hard ++ byte allowance ++ byte (resumeModeCode m)

/-- OPEN_FOLIO takes the lowest-numbered FREE slot, with the allowance clamped to 15; CLOSE_FOLIO frees an empty folio
and closes one that has members, and of its ordered checks the first that fails refuses it; REOPEN_FOLIO, SUSPEND_FOLIO
and RESUME_FOLIO move the state. -/
def Obligations.FolioStateRequestsComplete : Prop :=
  ∀ s : State, s.ready →
    (∀ (slot soft hard allowance : Nat) (m : ResumeMode), s.lowestFreeFolio slot → soft ≤ hard → hard ≤ 100000000 →
      allowance < 256 →
      exec (.openFolio (openFolioBody soft hard allowance m)) s =
        .next
          ((s.putFolio slot
            { state := .active, cause := none, resumeMode := m, soft := soft, hard := hard,
              allowance := min allowance 15, grace := min allowance 15, balance := 0, holds := 0, prepaid := 0,
              openTabs := 0, members := 0, spend := 0, spendPrevious := 0 }).replied
            0x40 (openFolioBody soft hard allowance m) .done (bytes 2 slot ++ byte (min allowance 15)))) ∧
    (∀ (slot : Nat) (f : Folio), slot < 8192 → s.folio slot = some f →
      (f.state ≠ .closed → f.openTabs = 0 → f.balance = 0 → f.members = 0 →
        exec (.closeFolio (bytes 2 slot)) s =
          .next ((s.dropFolio slot).replied 0x41 (bytes 2 slot) .done (bytes 4 f.prepaid ++ [0x00]))) ∧
      (f.state ≠ .closed → f.openTabs = 0 → f.balance = 0 → f.members ≠ 0 →
        exec (.closeFolio (bytes 2 slot)) s =
          .next
            ((s.putFolio slot { f with state := .closed, cause := none, prepaid := 0 }).replied 0x41 (bytes 2 slot)
              .done (bytes 4 f.prepaid ++ [0x04]))) ∧
      (∀ code,
        firstRefusal
          [(f.state = .closed, .wrongState), (0 < f.openTabs, .tabsOpen), (f.balance ≠ 0, .stillOver)] code →
        exec (.closeFolio (bytes 2 slot)) s = .next (s.replied 0x41 (bytes 2 slot) code [])) ∧
      (f.state = .closed →
        exec (.reopenFolio (bytes 2 slot)) s =
          .next
            ((s.putFolio slot { f with state := .active, grace := f.allowance }).replied 0x42 (bytes 2 slot) .done
              [])) ∧
      (f.state = .active ∨ f.state = .grace ∨ (f.state = .suspended ∧ f.cause ≠ some .host) →
        exec (.suspendFolio (bytes 2 slot)) s =
          .next
            ((s.putFolio slot { f with state := .suspended, cause := some .host }).replied 0x43 (bytes 2 slot) .done
              (byte (folioStateCode f.state) ++ optional (fun c => byte (causeCode c)) f.cause))) ∧
      (f.state = .suspended → f.exposure ≤ f.soft →
        exec (.resumeFolio (bytes 2 slot)) s =
          .next
            ((s.putFolio slot { f with state := .active, cause := none, grace := f.allowance }).replied 0x44
              (bytes 2 slot) .done ([0x01] ++ signedBytes 4 f.exposure ++ byte f.allowance))) ∧
      (f.state = .suspended → f.soft < f.exposure → f.exposure ≤ f.hard →
        exec (.resumeFolio (bytes 2 slot)) s =
          .next
            ((s.putFolio slot { f with state := .grace, cause := none, grace := f.allowance }).replied 0x44
              (bytes 2 slot) .done ([0x02] ++ signedBytes 4 f.exposure ++ byte f.allowance))) ∧
      (f.state = .suspended → f.soft < f.exposure → f.hard < f.exposure →
        exec (.resumeFolio (bytes 2 slot)) s = .next (s.replied 0x44 (bytes 2 slot) .stillOver [])))

/-- The fields of a folio as the reply of a host posting carries them: B, X, the state and the cause (R116, R117). -/
def postingReply (f : Folio) : List Byte :=
  signedBytes 4 f.balance ++ signedBytes 4 f.exposure ++ byte (folioStateCode f.state) ++
    optional (fun c => byte (causeCode c)) f.cause

/-- SET_LIMITS, POST_PAYMENT, POST_REFUND and POST_ADJUSTMENT change the folio and re-evaluate it in the same change;
ADD_PREPAID adds to the prepaid credit up to 10,000,000 and does not. -/
def Obligations.FolioPostingsComplete : Prop :=
  ∀ (s : State) (slot : Nat) (f : Folio), s.ready → slot < 8192 → s.folio slot = some f →
    (∀ (soft hard allowance : Nat) (m : ResumeMode), soft ≤ hard → hard ≤ 100000000 → allowance < 256 →
      let limited : Folio :=
        { f with
          soft := soft
          hard := hard
          allowance := min allowance 15
          resumeMode := m
          grace := if f.state = .active then min allowance 15 else min f.grace (min allowance 15) }
      exec (.setLimits (bytes 2 slot ++ openFolioBody soft hard allowance m)) s =
        .next
          ((storeReevaluated slot limited s).replied 0x45 (bytes 2 slot ++ openFolioBody soft hard allowance m) .done
            (byte (folioStateCode limited.reevaluated.1.state) ++
              optional (fun c => byte (causeCode c)) limited.reevaluated.1.cause))) ∧
    (∀ amount : Nat, f.state ≠ .closed → 1 ≤ amount → amount ≤ 2000000000 →
      let body := bytes 2 slot ++ bytes 4 amount
      let paid : Folio := { f with balance := f.balance - amount }
      let refunded : Folio := { f with balance := f.balance - amount, spend := f.spend - amount }
      let adjusted : Folio := { f with balance := f.balance + amount, spend := min (f.spend + amount) 999999999 }
      (-1000000000 ≤ f.balance - amount →
        exec (.postPayment body) s =
            .next
              ((storeReevaluated slot paid s).replied 0x46 body .done (postingReply paid.reevaluated.1)) ∧
          exec (.postRefund body) s =
            .next
              ((storeReevaluated slot refunded s).replied 0x47 body .done (postingReply refunded.reevaluated.1))) ∧
      (f.balance - amount < -1000000000 →
        exec (.postPayment body) s = .next (s.replied 0x46 body .range []) ∧
          exec (.postRefund body) s = .next (s.replied 0x47 body .range [])) ∧
      (f.balance + amount ≤ 1000000000 →
        exec (.postAdjustment body) s =
          .next
            ((storeReevaluated slot adjusted s).replied 0x48 body .done (postingReply adjusted.reevaluated.1))) ∧
      (1000000000 < f.balance + amount →
        exec (.postAdjustment body) s = .next (s.replied 0x48 body .range []))) ∧
    (∀ amount : Nat, f.state ≠ .closed → 1 ≤ amount → amount ≤ 10000000 →
      let total := min (f.prepaid + amount) 10000000
      exec (.addPrepaid (bytes 2 slot ++ bytes 4 amount)) s =
        .next
          ((s.putFolio slot { f with prepaid := total }).replied 0x49 (bytes 2 slot ++ bytes 4 amount) .done
            (bytes 4 (total - f.prepaid) ++ bytes 4 total)))

/-- LINK_RECORD moves a record to another folio: the target gains a member and the old folio loses one, and a CLOSED
folio that loses its last member becomes FREE. Of its ordered checks the first that fails refuses it. -/
def Obligations.LinkRecordMovesTheMembership : Prop :=
  (∀ (s : State) (slot target : Nat) (r : Record) (old f : Folio), s.ready → slot < 12288 → target < 8192 →
     s.record slot = some r → s.folio r.folio = some old → s.folio target = some f → r.folio ≠ target →
     (∀ e ∈ s.tabs.entries, e.2.opener ≠ slot) → (f.state = .active ∨ f.state = .grace) → f.members < 8 →
       let body := bytes 2 slot ++ bytes 2 target
       let moved := (s.putRecord slot { r with folio := target }).putFolio target { f with members := f.members + 1 }
       (old.state ≠ .closed ∨ 1 < old.members →
         exec (.linkRecord body) s =
           .next
             ((moved.putFolio r.folio { old with members := old.members - 1 }).replied 0x4A body .done
               (bytes 2 r.folio ++ byte (old.members - 1) ++ byte (f.members + 1) ++ [0x00]))) ∧
       (old.state = .closed → old.members ≤ 1 → Table.wf s.folios = true →
         exec (.linkRecord body) s =
           .next
             ((moved.dropFolio r.folio).replied 0x4A body .done
               (bytes 2 r.folio ++ [0x00] ++ byte (f.members + 1) ++ [0x01])))) ∧
  ∀ (s : State) (slot target : Nat) (r : Record) (f : Folio) (code : ReplyCode), s.ready → slot < 12288 →
    target < 8192 → s.record slot = some r → s.folio target = some f →
    firstRefusal
      [(r.folio = target, .duplicate), (∃ e ∈ s.tabs.entries, e.2.opener = slot, .tabsOpen),
        (f.state ≠ .active ∧ f.state ≠ .grace, .wrongState), (8 ≤ f.members, .full)] code →
      exec (.linkRecord (bytes 2 slot ++ bytes 2 target)) s =
        .next (s.replied 0x4A (bytes 2 slot ++ bytes 2 target) code [])

/-! ### Venues and the charge computation (06) -/

/-- Service is the amount times the rate in basis points, a half cent rounded up, formed on the full amount whatever
part of it a package covers. -/
def Obligations.ServiceRoundsHalfUp : Prop :=
  (∀ (amount : Nat) (flags : ItemFlags) (r : Record) (t : Tier) (v : Venue) (prepaid : Nat),
    (figures amount flags r t v prepaid).v = (amount * v.rate + 5000) / 10000) ∧
  (∀ amount rate : Nat, service amount rate = (amount * rate + 5000) / 10000 ∧
    10000 * service amount rate ≤ amount * rate + 5000 ∧ amount * rate + 5000 < 10000 * (service amount rate + 1) ∧
    (amount * rate < 5000 → service amount rate = 0) ∧ service amount 0 = 0)

/-- The figures of a charge: the coverage, the sum due, its parts from prepaid credit and the balance, and the daily cap
on the full sum; and the effective limits, cut down to the standalone limit in STANDALONE for a category whose policy is
CAP. -/
def Obligations.ChargeFiguresAndEffectiveLimits : Prop :=
  (∀ (amount : Nat) (flags : ItemFlags) (r : Record) (t : Tier) (v : Venue) (prepaid : Nat),
     let g := figures amount flags r t v prepaid
     (flags.package = true → r.tier ≠ 0 → r.drinks < t.count → (v.category = .bar ∨ v.category = .dining) →
       g.k = min amount t.cap) ∧
     (flags.package = false ∨ r.tier = 0 ∨ t.count ≤ r.drinks ∨ v.category = .retail ∨ v.category = .spa ∨
       v.category = .services → g.k = 0) ∧
     g.k ≤ amount ∧ g.d = amount - g.k + g.v ∧ g.w = min prepaid g.d ∧ g.e = g.d - g.w ∧ g.d = g.w + g.e ∧
     (r.cap = none → overCap r g.d = false) ∧
     (∀ q, r.cap = some q → (overCap r g.d = true ↔ q < r.spend + g.d))) ∧
  (∀ (s : State) (f : Folio) (c : Category),
     (s.management.service ≠ .standalone ∨ s.settings.policies.get c = .hold →
       effectiveLimits s f c = (f.soft, f.hard)) ∧
     (s.management.service = .standalone → s.settings.policies.get c = .cap →
       effectiveLimits s f c = (min f.soft s.settings.standaloneLimit, min f.hard s.settings.standaloneLimit)))

/-- The body of a CHARGE (R127). -/
def chargeRequest (n amount : Nat) (flags : ItemFlags) : List Byte :=
  bytes 6 n ++ bytes 4 amount ++ byte ((if flags.alcohol then 1 else 0) + if flags.package then 2 else 0)

/-- A terminal of a venue has presented a purchase of a record that passes the shared checks: the venue is open and
admits the class, the record is ACTIVE and ABOARD, and its folio is ACTIVE or GRACE. -/
def purchaseReady (s : State) (p : Port) (e : TerminalEntry) (f : Frame) (n slot venue : Nat) (r : Record)
    (folio : Folio) : Prop :=
  s.takes p e f ∧ e.kind = some .pos ∧ e.binding = some (.venue venue) ∧ s.finds n slot r ∧
    s.muster.phase ≠ .muster ∧ (s.venue venue).isOpen = true ∧ r.life = .active ∧ r.location = .aboard ∧
    (s.venue venue).classes.getLsbD (classCode r.cls) = true ∧ s.folio r.folio = some folio ∧
    (folio.state = .active ∨ folio.state = .grace)

/-- CHARGE, past its eleven checks: a sum over the daily cap is declined with no effect; a sum that the effective limits
allow is posted to the folio and the record as one change, at the cost of one grace charge above the soft limit; any
other is declined DENY_LIMIT, which suspends a folio in GRACE when the stored limits decline it too. The presence bytes
of the reply are the model's reading (log 14). The request taken stays in hand with its reply, by the model's choice
(log 33). -/
def Obligations.ChargePostsOrDeclines : Prop :=
  ∀ (s : State) (p : Port) (e : TerminalEntry) (f : Frame) (n slot venue amount : Nat) (flags : ItemFlags)
    (r : Record) (folio : Folio), purchaseReady s p e f n slot venue r folio → f.kind = 0x20 →
    f.body = chargeRequest n amount flags → 1 ≤ amount → amount ≤ 2000000 →
    (flags.alcohol = true → r.cls ≠ .guestMinor) →
    let v := s.venue venue
    let g := figures amount flags r (s.tier r.tier) v folio.prepaid
    let x := folio.exposure
    let soft := (effectiveLimits s folio v.category).1
    let hard := (effectiveLimits s folio v.category).2
    let shown := consumeMessage slot r s
    let bought : Record :=
      { r.shown with
        spend := min (r.spend + g.d) 999999999
        drinks := if 0 < g.k then r.drinks + 1 else r.drinks }
    let posted (grace : Nat) (state : FolioState) : Folio :=
      { folio with
        balance := folio.balance + g.e
        prepaid := folio.prepaid - g.w
        spend := min (folio.spend + g.d) 999999999
        grace := grace
        state := state }
    let reply (w e grace : Option Nat) : List Byte :=
      (0x01 :: bytes 4 g.k) ++ (0x01 :: bytes 4 g.v) ++ optional (bytes 4) w ++ optional (bytes 4) e ++
        optional byte grace ++ optional byte r.guestMessage
    (overCap r g.d = true →
      exec (.charge p) s =
        .next
          ((reportRefusal p f.term .denyCap (some n) (some slot) shown).answered p f .denyCap
            (reply none none (some folio.grace)))) ∧
    (overCap r g.d = false → g.d = 0 →
      exec (.charge p) s =
        .next ((shown.putRecord slot bought).answered p f .ok (reply (some 0) (some 0) (some folio.grace)))) ∧
    (overCap r g.d = false → 0 < g.d → (g.e = 0 ∨ x + g.e ≤ soft) →
      let after := posted folio.grace folio.state
      exec (.charge p) s =
        .next
          (((storeReevaluated r.folio after shown).putRecord slot bought).answered p f .ok
            (reply (some g.w) (some g.e) (some after.reevaluated.1.grace)))) ∧
    (overCap r g.d = false → 0 < g.e → soft < x + g.e → x + g.e ≤ hard → 0 < folio.grace →
      let after := posted (folio.grace - 1) .grace
      exec (.charge p) s =
        .next
          (((storeReevaluated r.folio after shown).putRecord slot bought).answered p f .okGrace
            (reply (some g.w) (some g.e) (some after.reevaluated.1.grace)))) ∧
    (overCap r g.d = false → 0 < g.e → soft < x + g.e → (hard < x + g.e ∨ folio.grace = 0) →
      let stored := folio.soft < x + g.e ∧ (folio.hard < x + g.e ∨ folio.grace = 0)
      let after :=
        if folio.state = .grace ∧ stored then
          raise .folioSuspended (shown.putFolio r.folio { folio with state := .suspended, cause := some .limit })
        else shown
      exec (.charge p) s =
        .next
          ((reportRefusal p f.term .denyLimit (some n) (some slot) after).answered p f .denyLimit
            (reply (some g.w) (some g.e) (some folio.grace))))

/-- LOAD_VENUE, SET_VENUE_OPEN and LOAD_TIER write their fields of one entry, with the rate, the cap and the count
clamped; the open flag is not LOAD_VENUE's, nor the other fields SET_VENUE_OPEN's. -/
def Obligations.VenueAndTierRequestsComplete : Prop :=
  ∀ s : State, s.ready →
    (∀ (n rate code : Nat) (c : Category) (set : BitVec 4), n < 128 → rate < 65536 → code ≤ 15 →
      let body := byte n ++ byte (categoryCode c) ++ bytes 2 rate ++ byte set.toNat ++ byte code
      exec (.loadVenue body) s =
        .next
          ({ s with charge := { s.charge with
              venues := (s.charge.venues.putValue Venue.powerOn n
                { category := c, rate := min rate 3000, classes := set, isOpen := (s.venue n).isOpen,
                  timeoutCode := code }) } }.replied 0x50 body .done (bytes 2 (min rate 3000)))) ∧
    (∀ (n : Nat) (b : Bool), n < 128 →
      exec (.setVenueOpen (byte n ++ flagByte b)) s =
        .next
          ({ s with charge := { s.charge with
              venues := s.charge.venues.putValue Venue.powerOn n { s.venue n with isOpen := b } } }.replied 0x51
            (byte n ++ flagByte b) .done (flagByte (s.venue n).isOpen))) ∧
    (∀ n cap count : Nat, 1 ≤ n → n ≤ 7 → cap < 2 ^ 32 → count < 256 →
      exec (.loadTier (byte n ++ bytes 4 cap ++ byte count)) s =
        .next
          ({ s with charge := { s.charge with
              tiers :=
                (s.charge.tiers.putValue Tier.powerOn n { cap := min cap 10000, count := min count 30 }) } }.replied
            0x52 (byte n ++ bytes 4 cap ++ byte count) .done (bytes 4 (min cap 10000) ++ byte (min count 30))))

/-- The checks of a purchase before its lookup: the phase, the range of what it carries, and the venue's open flag
(R127, R144). -/
def refusedBeforeLookup (s : State) (venue : Nat) (inRange : Prop) (x : Result) : Prop :=
  (s.muster.phase = .muster ∧ x = .denyPhase) ∨ (s.muster.phase ≠ .muster ∧ ¬ inRange ∧ x = .range) ∨
    (s.muster.phase ≠ .muster ∧ inRange ∧ (s.venue venue).isOpen = false ∧ x = .denyVenueClosed)

/-- The checks of a purchase after a found lookup: a hold, the location, the class and the folio's state (R128, R129,
R144). -/
def refusedAfterLookup (s : State) (venue : Nat) (r : Record) (alcohol : Prop) (x : Result) : Prop :=
  let admitted := (s.venue venue).classes.getLsbD (classCode r.cls) = true ∧ ¬ (alcohol ∧ r.cls = .guestMinor)
  (r.life = .held ∧ x = .denyHeld) ∨
    (r.life = .active ∧
      ((r.location = .notEmbarked ∧ x = .denyNotEmbarked) ∨ (r.location = .ashore ∧ x = .denyAshore) ∨
        (r.location = .disembarked ∧ x = .denyDeparted))) ∨
    (r.life = .active ∧ r.location = .aboard ∧
      ((¬ admitted ∧ x = .denyClass) ∨
        (admitted ∧
          ∃ folio, s.folio r.folio = some folio ∧
            ((folio.state = .closed ∧ x = .denyFolioClosed) ∨ (folio.state = .suspended ∧ x = .denySuspended)))))

/-- CHARGE and OPEN_TAB refused by the checks before the computation: those before the lookup, the lookup, and those
after it, of which a CHARGE's consume a showing of the message. The presence bytes of a CHARGE's reply and the empty
bodies are the model's reading (logs 14 and 15), and so is what the reports name (log 25). The request taken stays in
hand with its reply, by the model's choice (log 33). -/
def Obligations.PurchaseRefusedByItsChecks : Prop :=
  ∀ (s : State) (p : Port) (e : TerminalEntry) (f : Frame) (n venue : Nat), s.takes p e f → e.kind = some .pos →
    e.binding = some (.venue venue) → n < 2 ^ 48 →
    let early (x : Result) : State := (reportRefusal p f.term x (some n) none s).answered p f x []
    (f.kind = 0x20 →
      (∀ (amount : Nat) (item : Byte) (x : Result), amount < 2 ^ 32 →
        f.body = bytes 6 n ++ bytes 4 amount ++ [item] →
        refusedBeforeLookup s venue (1 ≤ amount ∧ amount ≤ 2000000 ∧ item.toNat < 4) x →
          exec (.charge p) s = .next (early x)) ∧
      ∀ (amount : Nat) (flags : ItemFlags), f.body = chargeRequest n amount flags → 1 ≤ amount → amount ≤ 2000000 →
        s.muster.phase ≠ .muster → (s.venue venue).isOpen = true →
        (∀ x t, lookupMisses s p f n x t →
          exec (.charge p) s = .next (t.answered p f x (List.replicate 6 0x00))) ∧
        ∀ slot r x, s.finds n slot r → refusedAfterLookup s venue r (flags.alcohol = true) x →
          exec (.charge p) s =
            .next
              ((reportRefusal p f.term x (some n) (some slot) (consumeMessage slot r s)).answered p f x
                (List.replicate 5 0x00 ++ optional byte r.guestMessage))) ∧
    (f.kind = 0x21 →
      ∀ hold : Nat, hold < 2 ^ 32 → f.body = bytes 6 n ++ bytes 4 hold →
        (∀ x, refusedBeforeLookup s venue (100 ≤ hold ∧ hold ≤ 500000) x →
          exec (.openTab p) s = .next (early x)) ∧
        (100 ≤ hold → hold ≤ 500000 → s.muster.phase ≠ .muster → (s.venue venue).isOpen = true →
          (∀ x t, lookupMisses s p f n x t → exec (.openTab p) s = .next (t.answered p f x [])) ∧
          ∀ slot r x, s.finds n slot r → refusedAfterLookup s venue r False x →
            exec (.openTab p) s =
              .next ((reportRefusal p f.term x (some n) (some slot) s).answered p f x [])))

/-! ### Tabs (07) -/

/-- OPEN_TAB opens a tab in the lowest-numbered free entry, with the next number and the venue's lifetime, and puts its
hold on the opener's folio; a fifth tab, a full table and a hold above the effective soft limit are refused. The order
of the re-evaluation and the report is the model's choice (log 31). The request taken stays in hand with its reply, by
the model's choice (log 33). -/
def Obligations.OpenTabHoldsOrRefuses : Prop :=
  ∀ (s : State) (p : Port) (e : TerminalEntry) (f : Frame) (n slot venue hold : Nat) (r : Record) (folio : Folio),
    purchaseReady s p e f n slot venue r folio → f.kind = 0x21 → f.body = bytes 6 n ++ bytes 4 hold → 100 ≤ hold →
    hold ≤ 500000 →
    let v := s.venue venue
    let soft := (effectiveLimits s folio v.category).1
    let minutes := tabLifetime v.timeoutCode
    let refused (x : Result) : State :=
      (reportRefusal p f.term x (some n) (some slot) s).answered p f x []
    (∀ entry, folio.openTabs < 4 → s.lowestFreeTab entry → folio.exposure + hold ≤ soft →
      let number := assignedNumber s
      let opened : State :=
        { s with tabs :=
            { entries := (s.tabs.entries.put entry
                { number := number, folio := r.folio, opener := slot, venue := venue, hold := hold,
                  opened := s.clock.runTime, expiry := s.clock.runTime + minutes * 60 })
              nextNumber := if number < 65535 then number + 1 else 1 } }
      exec (.openTab p) s =
        .next
          ((report .tabs
            (storeReevaluated r.folio { folio with holds := folio.holds + hold, openTabs := folio.openTabs + 1 }
              opened)).answered p f .ok (bytes 2 number ++ bytes 4 hold ++ bytes 2 minutes))) ∧
    (4 ≤ folio.openTabs → exec (.openTab p) s = .next (refused .denyTabLimit)) ∧
    (folio.openTabs < 4 → (∀ k < 1024, s.tabs.entries.find k ≠ none) →
      exec (.openTab p) s = .next (refused .denyTableFull)) ∧
    (∀ entry, folio.openTabs < 4 → s.lowestFreeTab entry → soft < folio.exposure + hold →
      exec (.openTab p) s = .next (refused .denyLimit))

/-- The number of a new tab: the first from the counter on, past 65,535 from 1 again, that no open tab holds. -/
def Obligations.TabNumberIsTheFirstFree : Prop :=
  ∀ s : State, s.tabs.entries.length ≤ 1024 → 1 ≤ s.tabs.nextNumber → s.tabs.nextNumber ≤ 65535 →
    1 ≤ assignedNumber s ∧ assignedNumber s ≤ 65535 ∧ (∀ e ∈ s.tabs.entries, e.2.number ≠ assignedNumber s) ∧
    ((∀ e ∈ s.tabs.entries, e.2.number ≠ s.tabs.nextNumber) → assignedNumber s = s.tabs.nextNumber) ∧
    (s.tabs.nextNumber ≤ assignedNumber s →
      ∀ k, s.tabs.nextNumber ≤ k → k < assignedNumber s → ∃ e ∈ s.tabs.entries, e.2.number = k) ∧
    (assignedNumber s < s.tabs.nextNumber →
      (∀ k, s.tabs.nextNumber ≤ k → k ≤ 65535 → ∃ e ∈ s.tabs.entries, e.2.number = k) ∧
        ∀ k, 1 ≤ k → k < assignedNumber s → ∃ e ∈ s.tabs.entries, e.2.number = k)

/-- The expiry of a tab is its opening run time plus the lifetime of its venue's tab-timeout code, at 60 s to the
minute; no LOAD_VENUE and no SET_TIME moves it. -/
def Obligations.TabLifetimeByCode : Prop :=
  (∀ (slot : Nat) (r : Record) (venue hold : Nat) (s : State) (code minutes : Nat),
    (code, minutes) ∈
      [(0, 10), (1, 15), (2, 20), (3, 30), (4, 45), (5, 60), (6, 90), (7, 120), (8, 150), (9, 180), (10, 240),
        (11, 300), (12, 360), (13, 480), (14, 600), (15, 720)] →
    (s.venue venue).timeoutCode = code →
      (openedTab slot r venue hold s).opened = s.clock.runTime ∧
        (openedTab slot r venue hold s).expiry = (openedTab slot r venue hold s).opened + 60 * minutes) ∧
  (∀ (s t : State) (body : List Byte),
    (exec (.loadVenue body) s = .next t → t.tabs = s.tabs) ∧ (exec (.setTime body) s = .next t → t.tabs = s.tabs))

/-- The end of a tab with nothing posted: its entry is free, its hold leaves the folio, which is re-evaluated, and the
table reports. -/
def tabReleased (s : State) (entry : Nat) (t : Tab) (folio : Folio) : State :=
  report .tabs
    (storeReevaluated t.folio { folio with holds := folio.holds - t.hold, openTabs := folio.openTabs - 1 }
      { s with tabs := { s.tabs with entries := s.tabs.entries.drop entry } })

/-- A tab ends with its hold released and nothing posted by VOID_TAB from a terminal or the host, by its expiry, which
raises TAB_EXPIRED, and by a CLOSE_TAB with the amount 0, whatever its flags. A CLOSE_TAB out of range, and a CLOSE_TAB
or VOID_TAB of a number that no open tab holds or of a tab of another venue, are refused. That an expiry before its time
does nothing, and that the table's report comes before the raise of TAB_EXPIRED, are the model's choice (logs 4 and 31),
and the layout of the replies is its reading (logs 14 and 15), as is the absent credential of the reports (log 25). The
request taken stays in hand with its reply, by the model's choice (log 33). -/
def Obligations.TabEndsWithItsHoldReleased : Prop :=
  (∀ (s : State) (entry : Nat) (t : Tab) (folio : Folio), s.tab t.number = some (entry, t) →
    s.tabs.entries.find entry = some t → s.folio t.folio = some folio → 0 < t.number → t.number ≤ 65535 →
    (s.ready →
      exec (.hostVoidTab (bytes 2 t.number)) s =
        .next
          ((tabReleased s entry t folio).replied 0x58 (bytes 2 t.number) .done
            (bytes 2 t.folio ++ bytes 2 t.opener ++ byte t.venue ++ bytes 4 t.hold))) ∧
    (t.expiry ≤ s.clock.runTime →
      exec (.tabExpiry entry) s = .next (raise .tabExpired (tabReleased s entry t folio))) ∧
    (s.clock.runTime < t.expiry → exec (.tabExpiry entry) s = .next s) ∧
    (∀ (p : Port) (e : TerminalEntry) (f : Frame), s.takes p e f → e.kind = some .pos →
      (e.binding = some (.venue t.venue) → f.kind = 0x23 → f.body = bytes 2 t.number →
        exec (.voidTab p) s = .next ((tabReleased s entry t folio).answered p f .ok (bytes 4 t.hold))) ∧
      (∀ item < 4, e.binding = some (.venue t.venue) → f.kind = 0x22 →
        f.body = bytes 2 t.number ++ bytes 4 0 ++ byte item →
        exec (.closeTab p) s =
          .next
            ((tabReleased s entry t folio).answered p f .ok
              ((0x01 :: bytes 4 0) ++ (0x01 :: bytes 4 0) ++ (0x01 :: bytes 4 0) ++ (0x01 :: bytes 4 0) ++
                (0x01 :: bytes 4 t.hold) ++
                (0x01 :: byte
                  (Folio.reevaluated { folio with
                    holds := folio.holds - t.hold
                    openTabs := folio.openTabs - 1 }).1.grace)))) ∧
      (∀ v, e.binding = some (.venue v) → v ≠ t.venue →
        (f.kind = 0x23 → f.body = bytes 2 t.number →
          exec (.voidTab p) s =
            .next
              ((reportRefusal p f.term .denyWrongVenue none (some t.opener) s).answered p f .denyWrongVenue [])) ∧
        (∀ amount ≤ 2000000, ∀ item < 4, f.kind = 0x22 → f.body = bytes 2 t.number ++ bytes 4 amount ++ byte item →
          exec (.closeTab p) s =
            .next
              ((reportRefusal p f.term .denyWrongVenue none (some t.opener) s).answered p f .denyWrongVenue []))))) ∧
  (∀ (s : State) (p : Port) (e : TerminalEntry) (f : Frame) (venue number : Nat), s.takes p e f → e.kind = some .pos →
    e.binding = some (.venue venue) → number < 65536 →
    let refused (x : Result) : State := (reportRefusal p f.term x none none s).answered p f x []
    (∀ amount item : Nat, amount < 2 ^ 32 → item < 256 → f.kind = 0x22 →
      f.body = bytes 2 number ++ bytes 4 amount ++ byte item →
      (2000000 < amount ∨ 4 ≤ item → exec (.closeTab p) s = .next (refused .range)) ∧
      (amount ≤ 2000000 → item < 4 → s.tab number = none → exec (.closeTab p) s = .next (refused .denyTabUnknown))) ∧
    (f.kind = 0x23 → f.body = bytes 2 number → s.tab number = none →
      exec (.voidTab p) s = .next (refused .denyTabUnknown)))

/-- CLOSE_TAB with an amount: an ALCOHOL close of a GUEST_MINOR is declined DENY_CLASS; within the effective limits the
hold is released and the sum posted as one change; a sum over the cap or the limits is declined, the tab stays open, and
a decline suspends a folio in GRACE. The presence bytes of the reply are the model's reading (log 14), and so is the
absent credential of the reports (log 25); the order of the re-evaluation and the report is its choice (log 31). The
request taken stays in hand with its reply, by the model's choice (log 33). -/
def Obligations.CloseTabPostsOrDeclines : Prop :=
  ∀ (s : State) (p : Port) (e : TerminalEntry) (f : Frame) (entry amount : Nat) (flags : ItemFlags) (t : Tab)
    (r : Record) (folio : Folio), s.takes p e f → e.kind = some .pos → e.binding = some (.venue t.venue) →
    f.kind = 0x22 →
    f.body = bytes 2 t.number ++ bytes 4 amount ++
      byte ((if flags.alcohol then 1 else 0) + if flags.package then 2 else 0) →
    s.tab t.number = some (entry, t) → t.number ≤ 65535 → 1 ≤ amount → amount ≤ 2000000 →
    s.record t.opener = some r → s.folio t.folio = some folio →
    (flags.alcohol = true → r.cls = .guestMinor →
      exec (.closeTab p) s =
        .next
          ((reportRefusal p f.term .denyClass none (some t.opener) s).answered p f .denyClass
            (List.replicate 6 0x00))) ∧
    ((flags.alcohol = true → r.cls ≠ .guestMinor) →
      let v := s.venue t.venue
      let g := figures amount flags r (s.tier r.tier) v folio.prepaid
      let x := folio.exposure - t.hold
      let soft := (effectiveLimits s folio v.category).1
      let hard := (effectiveLimits s folio v.category).2
      let ended : State := { s with tabs := { s.tabs with entries := s.tabs.entries.drop entry } }
      let bought : Record :=
        { r with
          spend := min (r.spend + g.d) 999999999
          drinks := if 0 < g.k then r.drinks + 1 else r.drinks }
      let posted (grace : Nat) (state : FolioState) : Folio :=
        { folio with
          holds := folio.holds - t.hold
          openTabs := folio.openTabs - 1
          balance := folio.balance + g.e
          prepaid := folio.prepaid - g.w
          spend := min (folio.spend + g.d) 999999999
          grace := grace
          state := state }
      let reply (w e hold grace : Option Nat) : List Byte :=
        (0x01 :: bytes 4 g.k) ++ (0x01 :: bytes 4 g.v) ++ optional (bytes 4) w ++ optional (bytes 4) e ++
          optional (bytes 4) hold ++ optional byte grace
      let closed (after : Folio) : State :=
        report .tabs ((storeReevaluated t.folio after ended).putRecord t.opener bought)
      (overCap r g.d = true →
        exec (.closeTab p) s =
          .next
            ((reportRefusal p f.term .denyCap none (some t.opener) s).answered p f .denyCap
              (reply none none none (some folio.grace)))) ∧
      (overCap r g.d = false → g.d = 0 →
        let after : Folio := { folio with holds := folio.holds - t.hold, openTabs := folio.openTabs - 1 }
        exec (.closeTab p) s =
          .next
            ((closed after).answered p f .ok
              (reply (some 0) (some 0) (some t.hold) (some after.reevaluated.1.grace)))) ∧
      (overCap r g.d = false → 0 < g.d → (g.e = 0 ∨ x + g.e ≤ soft) →
        let after := posted folio.grace folio.state
        exec (.closeTab p) s =
          .next
            ((closed after).answered p f .ok
              (reply (some g.w) (some g.e) (some t.hold) (some after.reevaluated.1.grace)))) ∧
      (overCap r g.d = false → 0 < g.e → soft < x + g.e → x + g.e ≤ hard → 0 < folio.grace →
        folio.state ≠ .suspended →
        let after := posted (folio.grace - 1) .grace
        exec (.closeTab p) s =
          .next
            ((closed after).answered p f .okGrace
              (reply (some g.w) (some g.e) (some t.hold) (some after.reevaluated.1.grace)))) ∧
      (overCap r g.d = false → 0 < g.e → soft < x + g.e →
        (hard < x + g.e ∨ folio.grace = 0 ∨ folio.state = .suspended) →
        let stored := folio.soft < x + g.e ∧ (folio.hard < x + g.e ∨ folio.grace = 0)
        let after :=
          if folio.state = .grace ∧ stored then
            raise .folioSuspended (s.putFolio t.folio { folio with state := .suspended, cause := some .limit })
          else s
        exec (.closeTab p) s =
          .next
            ((reportRefusal p f.term .denyLimit none (some t.opener) after).answered p f .denyLimit
              (reply (some g.w) (some g.e) none (some folio.grace)))))

/-! ### Terminal ports and request frames (08) -/

/-- A byte received in HUNT begins a frame or is dropped, whatever its stop bit, which is the model's choice (log 22).
In FRAME, within 2 ms of the byte before it, it is kept, or completes the frame; a bad stop bit, a LENGTH above 60 and a
longer gap discard the frame. A discarded frame counts one error up to 255, and PORT_ERRORS is raised when the count
comes to 16. The place of a frame collected whole and not yet checked is the model's (log 7), an event not due does
nothing (log 4), and a gap is the difference of two millisecond counts (log 23). -/
def Obligations.ReceiverCollectsOrDiscards : Prop :=
  (∀ (s : State) (p : Port) (b : Byte) (stop : Bool), (s.port p).whole = none →
     ((s.port p).receiver = .hunt →
       exec (.receivedByte p b stop) s =
         .next
           (if b = 0xC3 then s.setPort p { s.port p with receiver := .frame [] s.moment } else s)) ∧
     (∀ got last, (s.port p).receiver = .frame got last → s.moment ≤ last + 2 →
       (stop = false ∨ (got = [] ∧ 60 < b.toNat) →
         exec (.receivedByte p b stop) s =
           .next (discardFrame p (s.setPort p { s.port p with receiver := .hunt }))) ∧
       (stop = true → (got = [] → b.toNat ≤ 60) → collectedWhole (got ++ [b]) = false →
         exec (.receivedByte p b stop) s =
           .next (s.setPort p { s.port p with receiver := .frame (got ++ [b]) s.moment })) ∧
       (stop = true → got ≠ [] → collectedWhole (got ++ [b]) = true →
         exec (.receivedByte p b stop) s =
           .next (s.setPort p { s.port p with receiver := .hunt, whole := some (got ++ [b]) }))) ∧
     (∀ got last, (s.port p).receiver = .frame got last →
       (last + 2 < s.moment →
         exec (.interByteGap p) s =
           .next (discardFrame p (s.setPort p { s.port p with receiver := .hunt }))) ∧
       (s.moment ≤ last + 2 → exec (.interByteGap p) s = .next s) ∧
       (last + 2 < s.moment →
         exec (.receivedByte p b stop) s =
           exec (.receivedByte p b stop) (discardFrame p (s.setPort p { s.port p with receiver := .hunt }))))) ∧
  (∀ (s : State) (p : Port),
     let counted := s.setPort p { s.port p with errors := min 255 ((s.port p).errors + 1) }
     ((s.port p).errors ≠ 15 → discardFrame p s = counted) ∧
     ((s.port p).errors = 15 →
       ((discardFrame p s).port p).errors = 16 ∧
         (discardFrame p s).notice.pending.getLsbD (conditionCode .portErrors) = true ∧
         (discardFrame p s).notice.errorPorts.getLsbD p.val = true))

/-- A frame with a terminal number of 0 to 63 and a matching check sum arrives: the port is ACTIVE for 10 s more, and
the frame is queued, or answered PORT_FULL by a queue of 8; any other frame is discarded. The silence timer, reached,
makes the port SILENT and raises PORT_SILENT for it. The place of a frame collected whole, the list of replies and an
event not due are the model's choice (logs 7, 8 and 4). -/
def Obligations.FrameArrivalAndPortSilence : Prop :=
  (∀ (s : State) (p : Port),
     (∀ (term : Nat) (tag kind : Byte) (body sum : List Byte), term < 256 → body.length ≤ 60 → sum.length = 2 →
       let checked := bytes 1 body.length ++ bytes 1 term ++ [tag, kind] ++ body
       let f : Frame := { term := term, tag := tag, kind := kind, body := body }
       let b := s.port p
       let heard : PortBlock :=
         { b with
           whole := none
           silence := .active
           silenceExpiry := some (s.clock.runTime + 10)
           lastArrival := some s.clock.runTime }
       b.whole = some (checked ++ sum) →
       (term < 64 → sum = checkSumBytes checked → b.queue.length < 8 →
         exec (.frameArrival p) s = .next (s.setPort p { heard with queue := b.queue ++ [f] })) ∧
       (term < 64 → sum = checkSumBytes checked → 8 ≤ b.queue.length →
         exec (.frameArrival p) s =
           .next
             (reportRefusal p term .portFull none none
               (s.setPort p
                 { heard with
                   replies := b.replies ++ [{ term := term, tag := tag, result := .portFull, body := [] }] }))) ∧
       (64 ≤ term ∨ sum ≠ checkSumBytes checked →
         exec (.frameArrival p) s = .next (discardFrame p (s.setPort p { b with whole := none })))) ∧
     ((s.port p).whole = none → exec (.frameArrival p) s = .next s)) ∧
  (∀ (s : State) (p : Port) (at_ : Nat), (s.port p).silence = .active → (s.port p).silenceExpiry = some at_ →
     (at_ ≤ s.clock.runTime →
       ∃ t : State,
         exec (.portSilenceExpiry p) s = .next t ∧
         t.port p = { s.port p with silence := .silent, silenceExpiry := none } ∧
         (∀ q, q ≠ p → t.port q = s.port q) ∧
         t.notice.pending = s.notice.pending ||| Condition.portSilent.bit ∧
         t.notice.silentPorts = s.notice.silentPorts ||| ((1 : BitVec 6) <<< p.val) ∧
         t = { s with ports := t.ports, notice := t.notice } ∧ t.notice.errorPorts = s.notice.errorPorts ∧
         t.notice.levels = s.notice.levels ∧ t.notice.flags = s.notice.flags ∧
         t.notice.lastRefusal = s.notice.lastRefusal) ∧
     (s.clock.runTime < at_ → exec (.portSilenceExpiry p) s = .next s))

/-- What a port answers itself: an unknown kind is BAD_REQUEST; a PING is answered to any terminal in every service
state; and a disabled terminal, one of a kind that is not permitted, a body of the wrong size and the LOADING state, in
this order, refuse each of the nine other requests. A take command first decides the reply to the request in hand, which
goes out after the replies decided before it, a PORT_FULL among them. That a command of a kind that the oldest frame is
not, or at an empty queue, does this alone is the model's choice (logs 4 and 33), and the absent credential of the
reports is its reading (log 25). -/
def Obligations.PortAnswersBeforeAnyUnit : Prop :=
  (∀ (s : State) (p : Port) (f : Frame), (s.port p).queue.head? = some f →
     (f.kind ∉ terminalKinds →
       exec (.unknownRequestKind p) s =
         .next ((reportRefusal p f.term .badRequest none none s).answered p f .badRequest [])) ∧
     (f.kind = 0x00 → f.body = [] →
       let e := s.terminal p f.term
       exec (.ping p) s =
         .next
           (s.answered p f .ok
             (byte (serviceCode s.management.service) ++ optional (fun k => byte (terminalKindCode k)) e.kind ++
               flagByte e.enabled))) ∧
     (f.kind = 0x00 → f.body ≠ [] →
       exec (.ping p) s = .next ((reportRefusal p f.term .badRequest none none s).answered p f .badRequest []))) ∧
  (∀ (s : State) (p : Port) (e : TerminalEntry),
     let decided : State :=
       s.setPort p
         { s.port p with
           inHand := none
           replies := (s.port p).replies ++ (match (s.port p).inHand with | some h => [h.reply] | none => []) }
     ((∀ f, (s.port p).queue.head? = some f → f.kind ∈ terminalKinds) →
       exec (.unknownRequestKind p) s = .next decided) ∧
     ((∀ f, (s.port p).queue.head? = some f → f.kind ≠ 0x00) → exec (.ping p) s = .next decided) ∧
     (∀ q ∈ terminalRequests p e, (∀ f, (s.port p).queue.head? = some f → f.kind ≠ q.kind) →
       exec q.take s = .next decided)) ∧
  (∀ (s : State) (p : Port) (f : Frame), (s.port p).queue.head? = some f →
     let e := s.terminal p f.term
     let refused (x : Result) : State := (reportRefusal p f.term x none none s).answered p f x []
     ∀ q ∈ terminalRequests p e, f.kind = q.kind →
       (e.enabled = false → exec q.take s = .next (refused .terminalDisabled)) ∧
       (e.enabled = true → ¬ q.permitted → exec q.take s = .next (refused .wrongTerminal)) ∧
       (e.enabled = true → e.boundAsKind → q.permitted → f.body.length ≠ q.size →
         exec q.take s = .next (refused .badRequest)) ∧
       (e.enabled = true → e.boundAsKind → q.permitted → f.body.length = q.size → s.management.service = .loading →
         exec q.take s = .next (refused .notReady)))

/-- LOAD_TERMINAL replaces an entry, SET_TERMINAL_ENABLED changes its enabled flag, PORT_RESET empties the queue, the
receiver and the error counter of one port, and READ_PORT clears the error counter after it is read. A frame collected
whole outlives a PORT_RESET by the model's choice (log 7), and an entry with no kind is refused for either flag by its
choice (log 34). -/
def Obligations.TerminalAndPortRequestsComplete : Prop :=
  ∀ (s : State) (p : Port),
    (s.ready → ∀ term : Nat, term < 64 →
      (∀ (kind : TerminalKind) (binding : Option Binding) (enabled : Bool),
        (match kind, binding with
          | .kiosk, none => True
          | .lock, some (.cabin c) => c < 3072
          | .lock, some (.zone z) => z < 64
          | .pos, some (.venue v) => v < 128
          | .gangway, some (.gangway g) => g < 8
          | .muster, some (.station n) => n < 16
          | _, _ => False) →
        let body := byte p.val ++ byte term ++ byte (terminalKindCode kind) ++
          optional (fun b => byte b.marker ++ bytes 2 b.number) binding ++ flagByte enabled
        exec (.loadTerminal body) s =
          .next
            ({ s with terminals :=
                (s.terminals.putValue TerminalEntry.powerOn (p.val * 64 + term)
                  { kind := some kind, binding := binding, enabled := enabled }) }.replied 0x60 body .done
              (terminalBytes (s.terminal p term)))) ∧
      (∀ enabled : Bool, (s.terminal p term).kind ≠ none →
        let body := byte p.val ++ byte term ++ flagByte enabled
        exec (.setTerminalEnabled body) s =
          .next
            ({ s with terminals :=
                (s.terminals.putValue TerminalEntry.powerOn (p.val * 64 + term)
                  { s.terminal p term with enabled := enabled }) }.replied 0x61 body .done
              (flagByte (s.terminal p term).enabled))) ∧
      ((s.terminal p term).kind = none → ∀ enabled : Bool,
        let body := byte p.val ++ byte term ++ flagByte enabled
        exec (.setTerminalEnabled body) s = .next (s.replied 0x61 body .wrongState []))) ∧
    (s.ready →
      exec (.portReset (byte p.val)) s =
        .next
          ((s.setPort p
            { s.port p with
              queue := []
              receiver := .hunt
              errors := 0
              silence := .active
              silenceExpiry := some (s.clock.runTime + 10) }).replied 0x62 (byte p.val) .done
            (byte (s.port p).queue.length ++ byte (s.port p).errors))) ∧
    (s.idle →
      exec (.readPort (byte p.val)) s =
        .next
          ((s.setPort p { s.port p with errors := 0 }).replied 0x63 (byte p.val) .done
            (byte (s.port p).errors ++ byte (silenceCode (s.port p).silence) ++ byte (s.port p).queue.length ++
              optional (bytes 4) (s.port p).lastArrival)))

/-! ### The service states and the settings (09) -/

/-- OPEN_SERVICE and RESUME_SERVICE make the state SERVING and start the watchdog; the expiry of the watchdog makes it
STANDALONE, keeps the run time of the expiry, stops the watchdog and raises STANDALONE. That an expiry before its time,
or outside SERVING, does nothing is the model's choice (log 4). -/
def Obligations.ServiceStateChanges : Prop :=
  ∀ s : State,
    (s.idle → s.management.service = .loading → s.clock.status = .set →
      exec (.openService []) s =
        .next
          ({ s with management := { s.management with service := .serving, standaloneSince := none } }.replied 0x70 []
            .done (bytes 4 s.clock.runTime))) ∧
    (s.idle → s.management.service = .loading → s.clock.status = .unset →
      exec (.openService []) s = .next (s.replied 0x70 [] .timeNotSet [])) ∧
    (s.idle → s.management.service = .serving →
      exec (.openService []) s = .next (s.replied 0x70 [] .wrongState []) ∧
        exec (.resumeService []) s = .next (s.replied 0x71 [] .wrongState [])) ∧
    (∀ since, s.idle → s.management.service = .standalone → s.management.standaloneSince = some since →
      exec (.resumeService []) s =
        .next
          ({ s with management := { s.management with service := .serving, standaloneSince := none } }.replied 0x71 []
            .done (bytes 4 since ++ bytes 4 s.clock.runTime))) ∧
    (∀ at_, s.management.service = .serving → s.management.watchdog = some at_ →
      (at_ ≤ s.clock.runTime →
        exec .serverWatchdogExpiry s =
          .next
            (raise .standalone
              { s with management :=
                  { s.management with
                    service := .standalone
                    standaloneSince := some at_
                    watchdog := none } })) ∧
      (s.clock.runTime < at_ → exec .serverWatchdogExpiry s = .next s)) ∧
    (s.management.service ≠ .serving → exec .serverWatchdogExpiry s = .next s)

/-- The body of a SET_SETTING of one byte (R188). -/
def settingByte (name value : Nat) : List Byte := byte name ++ byte value

/-- SET_SETTING sets each setting in its range and answers the value before, with the step that the setting brings
about: the rollover test, the watchdog's restart, fresh capacity reports, and the moves of flags and line. One pulse for
several conditions enabled at once is the model's reading (log 19), and the order of the fresh reports its choice
(log 31). -/
def Obligations.SetSettingSetsEachSetting : Prop :=
  ∀ s : State, s.ready →
    let answers (body reply : List Byte) (t : State) : Prop :=
      exec (.setSetting body) s = .next (t.replied 0x73 body .done reply)
    let set := s.settings
    (∀ n ≤ 3, answers (settingByte 0x00 n) (byte set.reservationCode)
      { s with settings := { set with reservationCode := n } }) ∧
    (∀ n ≤ 3, answers (settingByte 0x01 n) (byte set.blankingCode)
      { s with settings := { set with blankingCode := n } }) ∧
    (∀ n ≤ 23,
      let changed : State := { s with settings := { set with rolloverHour := n } }
      (s.clock.status = .unset → answers (settingByte 0x02 n) (byte set.rolloverHour) changed) ∧
      (∀ o l : Int, s.clock.status = .set → s.clock.offset = some o → s.clock.lastRolled = some l →
        let day := (s.clock.runTime + o - n * 3600) / 86400
        answers (settingByte 0x02 n) (byte set.rolloverHour) (if l < day then rollOver day changed else changed))) ∧
    (∀ n ≤ 3, answers (settingByte 0x03 n) (byte set.watchdogCode)
      { s with settings := { set with watchdogCode := n } }) ∧
    (∀ (c : Category) (p : StandalonePolicy),
      answers (settingByte (4 + categoryCode c) (policyCode p)) (byte (policyCode (set.policies.get c)))
        { s with settings := { set with policies := set.policies.set c p } }) ∧
    (∀ n ≤ 100000, answers (byte 0x09 ++ bytes 4 n) (bytes 4 set.standaloneLimit)
      { s with settings := { set with standaloneLimit := n } }) ∧
    (∀ m : BitVec 17, answers (byte 0x0A ++ bytes 3 m.toNat) (bytes 3 set.enables.toNat) (setEnables m s)) ∧
    (∀ m : BitVec 88, m &&& ~~~refusalCodes = 0 →
      answers (byte 0x0B ++ bytes 11 m.toNat) (bytes 11 set.refusalMask.toNat)
        { s with settings := { set with refusalMask := m } }) ∧
    (∀ n, 50 ≤ n → n ≤ 95 → n % 5 = 0 →
      answers (settingByte 0x0C n) (byte set.threshold)
        (report .tabs (report .revocations (report .credentials (report .records
          { s with settings := { set with threshold := n } }))))) ∧
    (∀ m : LatchMode, answers (settingByte 0x0D (latchModeCode m)) (byte (latchModeCode set.latchMode))
      (setLatchMode m s)) ∧
    (∀ m : AckMode, answers (settingByte 0x0E (ackModeCode m)) (byte (ackModeCode set.ackMode))
      { s with settings := { set with ackMode := m } }) ∧
    (∀ m : LineMode, set.lineMode = m → answers (settingByte 0x0F (lineModeCode m)) (byte (lineModeCode m)) s) ∧
    (set.lineMode = .pulse →
      answers (settingByte 0x0F 0) [0x01]
        { s with
          settings := { set with lineMode := .level }
          notice := { s.notice with
            owed := false
            line :=
              match s.notice.line with
              | .holdoff ends => .holdoff ends
              | _ => if s.demand = 0 then .negated else .asserted } }) ∧
    (set.lineMode = .level →
      answers (settingByte 0x0F 1) [0x00]
        { s with
          settings := { set with lineMode := .pulse }
          notice :=
            if s.notice.line = .asserted then
              { s.notice with
                owed := false
                line := if set.holdoff = 0 then .negated else .holdoff (s.moment + set.holdoff * 10) }
            else s.notice }) ∧
    (∀ n ≤ 3, answers (settingByte 0x10 n) (byte set.pulseCode) { s with settings := { set with pulseCode := n } }) ∧
    (∀ n ≤ 255, answers (settingByte 0x11 n) (byte set.holdoff) { s with settings := { set with holdoff := n } })

/-- SERVICE_RESET empties the queues, the notice unit and the watch set, returns the notice settings, makes STANDALONE
into SERVING, has every table report afresh, and keeps the tables, the counts, the phase and the clock. That the six
counts of the reply have no count byte is the model's reading (log 10). -/
def Obligations.ServiceResetKeepsTheTables : Prop :=
  ∀ s : State, s.idle →
    let emptied : State :=
      { s with
        ports := s.ports.map fun b => { b with queue := [] }
        notice :=
          { pending := 0, silentPorts := 0, errorPorts := 0, levels := s.notice.levels,
            flags := { records := false, credentials := false, revocations := false, tabs := false },
            lastRefusal := none, line := .negated, owed := false }
        settings := { s.settings with
          enables := BitVec.allOnes 17
          refusalMask := 0
          threshold := 90
          latchMode := .latched
          ackMode := .explicit
          lineMode := .level
          pulseCode := 1
          holdoff := 0 }
        passage := { s.passage with watch := [] } }
    let reported := report .tabs (report .revocations (report .credentials (report .records emptied)))
    let queues := (List.finRange 6).flatMap fun p => byte (s.port p).queue.length
    (s.management.service ≠ .standalone →
      exec (.serviceReset []) s =
        .next (reported.replied 0x72 [] .done (queues ++ byte (serviceCode s.management.service)))) ∧
    (s.management.service = .standalone →
      exec (.serviceReset []) s =
        .next
          ({ reported with management :=
              { s.management with service := .serving, standaloneSince := none } }.replied 0x72 [] .done
            (queues ++ [0x01]))) ∧
    ∀ t, exec (.serviceReset []) s = .next t →
      t.store = s.store ∧ t.folios = s.folios ∧ t.tabs = s.tabs ∧ t.charge = s.charge ∧ t.access = s.access ∧
        t.muster = s.muster ∧ t.clock = s.clock ∧ t.terminals = s.terminals ∧ t.passage.counts = s.passage.counts

/-- The body of a SCAN by a criterion from a start slot (R73, R167). -/
def scanBody (c : Criterion) (start : Nat) : List Byte :=
  match c with
  | .ashore => byte 0 ++ bytes 2 start ++ [0x00]
  | .notEmbarked => byte 1 ++ bytes 2 start ++ [0x00]
  | .aboardNotMustered => byte 2 ++ bytes 2 start ++ [0x00]
  | .visitorAboard => byte 3 ++ bytes 2 start ++ [0x00]
  | .held => byte 4 ++ bytes 2 start ++ [0x00]
  | .watched => byte 5 ++ bytes 2 start ++ [0x00]
  | .folioSuspended => byte 6 ++ bytes 2 start ++ [0x00]
  | .folioGrace => byte 7 ++ bytes 2 start ++ [0x00]
  | .openerOfTabs => byte 8 ++ bytes 2 start ++ [0x00]
  | .memberOf folio => byte 9 ++ bytes 2 start ++ (0x01 :: bytes 2 folio)

/-- The reads of the count matrix, the records by criterion, the clock, the muster, the folios, the venues, the tiers,
the tabs, the terminals, the settings and the service answer from the state as it stands, in every service state, and
change nothing but the management port. The count and presence bytes of the replies are the model's reading (logs 10, 12
and 13), and so is the watchdog's restart before READ_SERVICE reads it (log 24). -/
def Obligations.ScanAndTableReadsChangeNothing : Prop :=
  (∀ s : State, s.idle →
     let answers (c : Instr) (kind : Byte) (body reply : List Byte) : Prop :=
       exec c s = .next (s.replied kind body .done reply)
     answers (.readCounts []) 0x31 []
       (matrixBytes s.passage.counts ++ byte (phaseCode s.muster.phase) ++ bytes 4 s.clock.runTime) ∧
     (∀ (c : Criterion) (start : Nat), start < 12288 → (∀ folio, c = .memberOf folio → folio < 8192) →
       let page := (s.store.records.filter fun e => decide (start ≤ e.1) && scanMatches s c e.1 e.2).take 32
       answers (.scan (scanBody c start)) 0x33 (scanBody c start)
         (listBytes scanBytes page ++ optional (bytes 2) (nextStart (page.map Prod.fst) 32 12288))) ∧
     (s.clock.status = .unset →
       answers (.readTime []) 0x39 []
         (bytes 4 s.clock.runTime ++ [0x00, 0x00] ++ optional (signedBytes 8) s.clock.offset ++ [0x00] ++
           optional (signedBytes 4) s.clock.lastRolled ++ byte s.settings.rolloverHour ++ [0x00])) ∧
     (∀ o l : Int, s.clock.status = .set → s.clock.offset = some o → s.clock.lastRolled = some l →
       let hour := s.settings.rolloverHour
       let t : Int := s.clock.runTime + o
       answers (.readTime []) 0x39 []
         (bytes 4 s.clock.runTime ++ [0x01] ++ (0x01 :: signedBytes 8 t) ++ (0x01 :: signedBytes 8 o) ++
           (0x01 :: signedBytes 4 (shipDay hour t)) ++ (0x01 :: signedBytes 4 l) ++ byte hour ++
           (0x01 :: bytes 4 ((shipDay hour t + 1) * 86400 + hour * 3600 - t).toNat))) ∧
     answers (.readMuster []) 0x3D []
       (byte (phaseCode s.muster.phase) ++ optional (fun p => byte (phaseCode p)) s.muster.savedPhase ++
         classCountBytes s.muster.mustered ++ ((List.range 16).flatMap fun n => bytes 2 (s.tally n)) ++
         bytes 2 s.passage.counts.guestAdult.aboard ++ bytes 2 s.passage.counts.guestMinor.aboard ++
         bytes 2 s.passage.counts.crew.aboard ++ bytes 2 s.passage.counts.visitor.aboard) ∧
     (∀ slot, slot < 8192 →
       (∀ f, s.folio slot = some f → answers (.readFolio (bytes 2 slot)) 0x4B (bytes 2 slot) (folioBytes f)) ∧
       (s.folio slot = none → answers (.readFolio (bytes 2 slot)) 0x4B (bytes 2 slot) [0x00])) ∧
     (∀ first count, 1 ≤ count → count ≤ 16 → first + count ≤ 128 →
       answers (.readVenue (byte first ++ byte count)) 0x53 (byte first ++ byte count)
         (byte count ++ ((List.range count).flatMap fun i => venueBytes (s.venue (first + i))))) ∧
     answers (.readTier []) 0x54 [] ([1, 2, 3, 4, 5, 6, 7].flatMap fun n => tierBytes (s.tier n)) ∧
     (∀ n, 0 < n → n ≤ 65535 →
       (∀ entry t, s.tab n = some (entry, t) →
         answers (.readTab (bytes 2 n)) 0x59 (bytes 2 n) (tabBytes t ++ bytes 2 (t.expiry - s.clock.runTime))) ∧
       (s.tab n = none → exec (.readTab (bytes 2 n)) s = .next (s.replied 0x59 (bytes 2 n) .notFound []))) ∧
     (∀ (start : Nat) (folio : Option Nat), start < 1024 → (∀ v, folio = some v → v < 8192) →
       let page :=
         (s.tabs.entries.filter fun e => decide (start ≤ e.1) && (folio.all fun v => decide (e.2.folio = v))).take 16
       answers (.listTabs (bytes 2 start ++ optional (bytes 2) folio)) 0x5A (bytes 2 start ++ optional (bytes 2) folio)
         (listBytes (fun e => listedTabBytes e.2) page ++
           optional (bytes 2) (nextStart (page.map Prod.fst) 16 1024))) ∧
     (∀ (p : Port) (first : Nat), first < 64 →
       let count := min 16 (64 - first)
       answers (.readTerminals (byte p.val ++ byte first)) 0x64 (byte p.val ++ byte first)
         (byte count ++ ((List.range count).flatMap fun i => terminalBytes (s.terminal p (first + i))))) ∧
     answers (.readSettings []) 0x74 [] (settingsBytes s.settings) ∧
     answers (.readService []) 0x75 []
       (byte (serviceCode s.management.service) ++ optional (bytes 4) s.management.standaloneSince ++
         byte s.settings.watchdogCode ++
         optional (bytes 4)
           (if s.management.service = .serving then
             (watchdogTimeout s.settings.watchdogCode).map (s.clock.runTime + ·)
           else none) ++
         byte (timeStatusCode s.clock.status) ++ bytes 4 s.clock.runTime)) ∧
  (∀ (s : State) (slot : Nat) (r : Record),
     (scanMatches s .ashore slot r = true ↔ r.location = .ashore) ∧
     (scanMatches s .notEmbarked slot r = true ↔ r.location = .notEmbarked) ∧
     (scanMatches s .aboardNotMustered slot r = true ↔ r.location = .aboard ∧ r.musterFlag = false) ∧
     (scanMatches s .visitorAboard slot r = true ↔ r.cls = .visitor ∧ r.location = .aboard) ∧
     (scanMatches s .held slot r = true ↔ r.life = .held) ∧
     (scanMatches s .watched slot r = true ↔ r.watchMode ≠ .none) ∧
     (scanMatches s .folioSuspended slot r = true ↔ ∃ f, s.folio r.folio = some f ∧ f.state = .suspended) ∧
     (scanMatches s .folioGrace slot r = true ↔ ∃ f, s.folio r.folio = some f ∧ f.state = .grace) ∧
     (scanMatches s .openerOfTabs slot r = true ↔ ∃ e ∈ s.tabs.entries, e.2.opener = slot) ∧
     (∀ folio, scanMatches s (.memberOf folio) slot r = true ↔ r.folio = folio))

/-! ### Notices (10) and the advance of time -/

/-- What an event that makes the demand of one state that of another does to the NOTICE line. In LEVEL mode the line is
ASSERTED when the demand arises in NEGATED, and leaves ASSERTED, for NEGATED or for a holdoff, when the demand ends; in
PULSE mode a condition newly demanded starts a pulse in NEGATED, and is owed one during a pulse or a holdoff (R199,
R200). -/
def lineFollows (s t : State) : Prop :=
  (s.settings.lineMode = .level → t.notice.owed = s.notice.owed ∧
    (s.notice.line = .negated → t.notice.line = if s.demand = 0 ∧ t.demand ≠ 0 then .asserted else .negated) ∧
    (s.notice.line = .asserted →
      t.notice.line =
        if s.demand ≠ 0 ∧ t.demand = 0 then
          if s.settings.holdoff = 0 then .negated else .holdoff (s.moment + s.settings.holdoff * 10)
        else .asserted) ∧
    ∀ ends, s.notice.line = .holdoff ends → t.notice.line = s.notice.line) ∧
  (s.settings.lineMode = .pulse →
    (t.demand &&& ~~~s.demand = 0 → t.notice.line = s.notice.line ∧ t.notice.owed = s.notice.owed) ∧
    (t.demand &&& ~~~s.demand ≠ 0 →
      (s.notice.line = .negated →
        t.notice.line = .pulse (s.moment + pulseWidth s.settings.pulseCode) ∧ t.notice.owed = s.notice.owed) ∧
      ∀ ends, s.notice.line = .pulse ends ∨ s.notice.line = .holdoff ends →
        t.notice.line = s.notice.line ∧ t.notice.owed = true))

/-- A raise makes a condition pending and moves the line: in LEVEL mode the first demand asserts it; in PULSE mode a
condition newly pending and enabled starts a pulse, or is owed one. The line follows the demand in the same way at an
acknowledgement, a change of the enables, of the watch set and of the capacity latch mode, and a report; in LEVEL mode
it leaves ASSERTED when the demand ends. A change to LIVE sets every capacity flag to its level. A pulse ends in NEGATED
or HOLDOFF, and a holdoff by the line mode and the demand. An end before its time does nothing, by the model's choice
(log 4); that each raise and each report of one change is an event of its own, and one pulse for several conditions
enabled at once, are the model's reading (logs 19 and 31). -/
def Obligations.NoticeLineMovements : Prop :=
  (∀ (s : State) (c : Condition), c ≠ .watchHit → c ≠ .capacity →
     let t := raise c s
     let new := s.pendingConditions.getLsbD (conditionCode c) = false ∧
       s.settings.enables.getLsbD (conditionCode c) = true
     t.pendingConditions = s.pendingConditions ||| c.bit ∧
     t =
       { s with notice :=
           { s.notice with
             pending := s.notice.pending ||| c.bit
             line := t.notice.line
             owed := t.notice.owed } } ∧
     (¬ new → t.notice.line = s.notice.line ∧ t.notice.owed = s.notice.owed) ∧
     (new → s.settings.lineMode = .level → t.notice.owed = s.notice.owed ∧
       (s.notice.line = .negated → s.demand = 0 → t.notice.line = .asserted) ∧
       (s.notice.line ≠ .negated ∨ s.demand ≠ 0 → t.notice.line = s.notice.line)) ∧
     (new → s.settings.lineMode = .pulse →
       (s.notice.line = .negated →
         t.notice.line = .pulse (s.moment + pulseWidth s.settings.pulseCode) ∧ t.notice.owed = s.notice.owed) ∧
       (∀ ends, s.notice.line = .pulse ends ∨ s.notice.line = .holdoff ends →
         t.notice.line = s.notice.line ∧ t.notice.owed = true))) ∧
  (∀ s : State,
     (∀ c, lineFollows s (raise c s)) ∧ (∀ set, lineFollows s (acknowledge set s)) ∧
     (∀ w, lineFollows s (setWatch w s)) ∧ (∀ table, lineFollows s (report table s)) ∧
     (∀ m : BitVec 17,
       let t := setEnables m s
       lineFollows s t ∧ t.pendingConditions = s.pendingConditions ∧
         t =
           { s with
             settings := { s.settings with enables := m }
             notice := { s.notice with line := t.notice.line, owed := t.notice.owed } }) ∧
     ∀ m : LatchMode,
       let t := setLatchMode m s
       lineFollows s t ∧
         (∀ table,
           t.notice.flags.get table =
             if m = .live then decide (s.notice.levels.get table = .at) else s.notice.flags.get table) ∧
         t =
           { s with
             settings := { s.settings with latchMode := m }
             notice :=
               { s.notice with flags := t.notice.flags, line := t.notice.line, owed := t.notice.owed } }) ∧
  (∀ (s : State) (ends : Nat),
     (s.notice.line = .pulse ends →
       (ends ≤ s.moment → s.settings.holdoff = 0 →
         exec .pulseEnd s = .next { s with notice := { s.notice with line := .negated, owed := false } }) ∧
       (ends ≤ s.moment → 0 < s.settings.holdoff →
         exec .pulseEnd s =
           .next { s with notice := { s.notice with line := .holdoff (s.moment + s.settings.holdoff * 10) } }) ∧
       (s.moment < ends → exec .pulseEnd s = .next s)) ∧
     (s.notice.line = .holdoff ends →
       (ends ≤ s.moment → s.settings.lineMode = .level →
         exec .holdoffEnd s =
           .next
             { s with notice :=
                 { s.notice with line := if s.demand = 0 then .negated else .asserted, owed := false } }) ∧
       (ends ≤ s.moment → s.settings.lineMode = .pulse →
         exec .holdoffEnd s =
           .next
             { s with notice :=
                 { s.notice with
                   line :=
                     if s.notice.owed = true ∧ s.demand ≠ 0 then
                       .pulse (s.moment + pulseWidth s.settings.pulseCode)
                     else .negated
                   owed := false } }) ∧
       (s.moment < ends → exec .holdoffEnd s = .next s)))

/-- READ_NOTICES shows the notice unit as it stands, and in READ_CLEARS mode clears what it shows; ACK_NOTICES clears
the conditions it names. WATCH_HIT is not cleared, nor CAPACITY in LIVE mode. A report of a table's occupancy sets its
level by the threshold, and its flag by the level and the latch mode. A refusal whose result the mask selects overwrites
the last-refusal record and raises REFUSAL; one that it does not select, and a result of the OK class, change nothing.
The layout of the capacity levels and flags is the model's reading (log 11). -/
def Obligations.NoticesReadClearedAndReported : Prop :=
  (∀ s : State, s.idle →
     let shown :=
       bytes 3 s.pendingConditions.toNat ++ bytes 3 s.settings.enables.toNat ++ levelsBytes s.notice.levels ++
         flagsBytes s.notice.flags ++ byte s.notice.silentPorts.toNat ++ byte s.notice.errorPorts.toNat ++
         byte s.passage.watch.length ++ optional refusedBytes s.notice.lastRefusal ++ byte (lineCode s.notice.line)
     (s.settings.ackMode = .explicit → exec (.readNotices []) s = .next (s.replied 0x78 [] .done shown)) ∧
     (s.settings.ackMode = .readClears →
       exec (.readNotices []) s = .next ((acknowledge (BitVec.allOnes 17) s).replied 0x78 [] .done shown)) ∧
     ∀ set : BitVec 17,
       let t := acknowledge set s
       let clears (c : Condition) : Bool :=
         set.getLsbD (conditionCode c) && decide (c ≠ .watchHit) &&
           !(decide (c = .capacity) && decide (s.settings.latchMode = .live))
       exec (.ackNotices (bytes 3 set.toNat)) s =
         .next (t.replied 0x79 (bytes 3 set.toNat) .done (bytes 3 t.pendingConditions.toNat)) ∧
       (∀ c : Condition,
         t.pendingConditions.getLsbD (conditionCode c) =
           (s.pendingConditions.getLsbD (conditionCode c) && !clears c)) ∧
       t.notice.silentPorts = (if clears .portSilent then 0 else s.notice.silentPorts) ∧
       t.notice.errorPorts = (if clears .portErrors then 0 else s.notice.errorPorts) ∧
       (clears .capacity = false → t.notice.flags = s.notice.flags) ∧
       t.notice.levels = s.notice.levels ∧ t.notice.lastRefusal = s.notice.lastRefusal ∧
       t = { s with notice := t.notice }) ∧
  (∀ (s : State) (t : CapacityTable),
     let u := report t s
     let full := t.size * s.settings.threshold / 100 ≤ s.occupancy t
     (full → u.notice.levels.get t = .at ∧ u.notice.flags.get t = true) ∧
     (¬ full → u.notice.levels.get t = .below ∧
       u.notice.flags.get t = (if s.settings.latchMode = .latched then s.notice.flags.get t else false)) ∧
     (∀ o, o ≠ t → u.notice.levels.get o = s.notice.levels.get o ∧ u.notice.flags.get o = s.notice.flags.get o) ∧
     u = { s with notice := u.notice } ∧ u.notice.pending = s.notice.pending ∧
     u.notice.silentPorts = s.notice.silentPorts ∧ u.notice.errorPorts = s.notice.errorPorts ∧
     u.notice.lastRefusal = s.notice.lastRefusal) ∧
  (∀ (s : State) (p : Port) (term : Nat) (x : Result) (credential slot : Option Nat),
     let t := reportRefusal p term x credential slot s
     let okClass := x = .ok ∨ x = .okGrace ∨ x = .repeated ∨ x = .passbackNoted ∨ x = .okElsewhere
     (¬ okClass → s.settings.refusalMask.getLsbD x.code.toNat = true →
       t.notice.lastRefusal =
         some
           { port := p, term := term, result := x, credential := credential, slot := slot,
             time := s.clock.runTime } ∧
       t.notice.pending = s.notice.pending ||| Condition.refusal.bit ∧
       t =
         { s with notice :=
             { s.notice with
               pending := t.notice.pending
               lastRefusal := t.notice.lastRefusal
               line := (raise .refusal s).notice.line
               owed := (raise .refusal s).notice.owed } }) ∧
     (okClass ∨ s.settings.refusalMask.getLsbD x.code.toNat = false → t = s))

/-- No timer is due, no gap has passed and no frame waits for its checks. -/
def nothingDue (s : State) : Prop :=
  (∀ p, (s.port p).whole = none ∧ s.gapPassed p = false ∧
    ∀ e, (s.port p).silence = .active → (s.port p).silenceExpiry = some e → s.clock.runTime < e) ∧
    (∀ slot r v, s.record slot = some r → r.reservation = some v → s.clock.runTime < v.expiry) ∧
    (∀ entry t, s.tabs.entries.find entry = some t → s.clock.runTime < t.expiry) ∧
    (∀ e, s.management.watchdog = some e → s.clock.runTime < e) ∧
    ∀ e, s.notice.line = .pulse e ∨ s.notice.line = .holdoff e → s.moment < e

/-- The advance of time, where nothing is due: one millisecond, and one second of run time at the end of each thousand.
An advance of run time tests the day number that it reaches, and the rollover is made at that advance: a SET_TIME taken
next meets a last-rolled day that has already moved. That one RUN_TIME_ADVANCE is a millisecond long is the model's
reading (log 27). That whatever is due is taken first is its choice (log 3), and so is that the rollover comes before a
pulse end or a holdoff end that falls due at the same advance (log 35). -/
def Obligations.TimeAdvancesByOneMillisecond : Prop :=
  ∀ s : State, nothingDue s →
    (s.clock.millis < 999 →
      exec .runTimeAdvance s = .next { s with clock := { s.clock with millis := s.clock.millis + 1 } }) ∧
    (s.clock.millis = 999 → s.clock.runTime < 4294967295 →
      let on : State := { s with clock := { s.clock with millis := 0, runTime := s.clock.runTime + 1 } }
      (s.clock.status = .unset → exec .runTimeAdvance s = .next on) ∧
      (∀ o l : Int, s.clock.status = .set → s.clock.offset = some o → s.clock.lastRolled = some l →
        let day := (s.clock.runTime + 1 + o - s.settings.rolloverHour * 3600) / 86400
        (l < day → exec .runTimeAdvance s = .next (rollOver day on)) ∧
        (day ≤ l → exec .runTimeAdvance s = .next on)))
end

