-- ==== Sys2Proof/Laws/Operands.lean ====
section
/-! SUPPORT. Numbers as bytes, and the splitting of a body that was written field by field. -/

namespace Sys2Proof.Machine

@[simp] theorem bytes_length (n v : Nat) : (bytes n v).length = n := by
  induction n with
  | zero => rfl
  | succ n ih => simp [bytes, ih]

theorem number_append_start (a : Nat) (bs : List Byte) :
    bs.foldl (fun a b => a * 256 + b.toNat) a = a * 256 ^ bs.length + number bs := by
  induction bs generalizing a with
  | nil => simp [number]
  | cons b bs ih =>
    have h0 : number (b :: bs) = b.toNat * 256 ^ bs.length + number bs := by
      have := ih (0 * 256 + b.toNat)
      simpa [number] using this
    rw [List.foldl_cons, ih, h0, List.length_cons, pow_succ]
    ring

theorem number_cons (b : Byte) (bs : List Byte) : number (b :: bs) = b.toNat * 256 ^ bs.length + number bs := by
  have := number_append_start (0 * 256 + b.toNat) bs
  simpa [number] using this

/-- The bytes of a number that fits spell the number. -/
theorem number_bytes (n v : Nat) (h : v < 256 ^ n) : number (bytes n v) = v := by
  have key : ∀ n v, number (bytes n v) = v % 256 ^ n := by
    intro n
    induction n with
    | zero => intro v; simp [bytes, number, Nat.mod_one]
    | succ n ih =>
      intro v
      have h1 : (BitVec.ofNat 8 (v / 256 ^ n)).toNat = v / 256 ^ n % 256 := by simp
      have h2 : v % 256 ^ (n + 1) = v % 256 ^ n + 256 ^ n * (v / 256 ^ n % 256) := by
        rw [pow_succ]
        exact Nat.mod_mul
      rw [bytes, number_cons, ih, bytes_length, h1, h2, Nat.mul_comm, Nat.add_comm]
  rw [key, Nat.mod_eq_of_lt h]

@[simp] theorem split_nil : split [] [] = some [] := rfl

/-- A field of a fixed size, at the front of a body. -/
theorem split_fixed (n v : Nat) (fs : List Field) (rest : List Byte) (h : v < 256 ^ n) :
    split (.fixed n :: fs) (bytes n v ++ rest) = (split fs rest).map (Chunk.here v :: ·) := by
  have h1 : (bytes n v ++ rest).take n = bytes n v := by
    rw [List.take_append_of_le_length (by simp)]
    simp
  have h2 : (bytes n v ++ rest).drop n = rest := by
    rw [List.drop_append_of_le_length (by simp)]
    simp
  simp only [split, h1, h2, number_bytes n v h, List.length_append, bytes_length]
  rw [if_neg (by omega)]

/-- An absent field, at the front of a body. -/
theorem split_absent (n : Nat) (fs : List Field) (rest : List Byte) :
    split (.optional n :: fs) (0x00 :: rest) = (split fs rest).map (Chunk.absent :: ·) := by
  simp [split]

/-- A present field, at the front of a body. -/
theorem split_present (n v : Nat) (fs : List Field) (rest : List Byte) (h : v < 256 ^ n) :
    split (.optional n :: fs) (0x01 :: (bytes n v ++ rest)) = (split fs rest).map (Chunk.here v :: ·) := by
  have h1 : (bytes n v ++ rest).take n = bytes n v := by
    rw [List.take_append_of_le_length (by simp)]
    simp
  have h2 : (bytes n v ++ rest).drop n = rest := by
    rw [List.drop_append_of_le_length (by simp)]
    simp
  simp [split, h1, h2, number_bytes n v h]

/-- A single byte is a number of one byte. -/
theorem byte_eq (n : Nat) : byte n = [BitVec.ofNat 8 n] := by simp [byte, bytes]

end Sys2Proof.Machine
end

