-- ==== Sys2Proof/Laws/Bodies.lean ====
section
/-! SUPPORT. What each request reads from a body that was written field by field: one lemma for each operand form. -/

namespace Sys2Proof.Machine

/-! ## Codes -/

@[simp] theorem flagOf_flagCode (b : Bool) : flagOf (flagCode b) = some b := by cases b <;> rfl
@[simp] theorem classOf_classCode (c : PersonClass) : classOf (classCode c) = some c := by cases c <;> rfl
@[simp] theorem locationOf_locationCode (l : Location) : locationOf (locationCode l) = some l := by cases l <;> rfl
@[simp] theorem directionOf_directionCode (d : Direction) : directionOf (directionCode d) = some d := by cases d <;> rfl
@[simp] theorem cabinModeOf_cabinModeCode (m : CabinMode) : cabinModeOf (cabinModeCode m) = some m := by cases m <;> rfl
@[simp] theorem credentialKindOf_credentialKindCode (k : CredentialKind) :
    credentialKindOf (credentialKindCode k) = some k := by cases k <;> rfl
@[simp] theorem watchModeOf_watchModeCode (m : WatchMode) : watchModeOf (watchModeCode m) = some m := by cases m <;> rfl
@[simp] theorem phaseOf_phaseCode (p : Phase) : phaseOf (phaseCode p) = some p := by cases p <;> rfl
@[simp] theorem resumeModeOf_resumeModeCode (m : ResumeMode) : resumeModeOf (resumeModeCode m) = some m := by
  cases m <;> rfl
@[simp] theorem categoryOf_categoryCode (c : Category) : categoryOf (categoryCode c) = some c := by cases c <;> rfl
@[simp] theorem policyOf_policyCode (p : StandalonePolicy) : policyOf (policyCode p) = some p := by cases p <;> rfl
@[simp] theorem terminalKindOf_terminalKindCode (k : TerminalKind) : terminalKindOf (terminalKindCode k) = some k := by
  cases k <;> rfl
@[simp] theorem latchModeOf_latchModeCode (m : LatchMode) : latchModeOf (latchModeCode m) = some m := by cases m <;> rfl
@[simp] theorem ackModeOf_ackModeCode (m : AckMode) : ackModeOf (ackModeCode m) = some m := by cases m <;> rfl
@[simp] theorem lineModeOf_lineModeCode (m : LineMode) : lineModeOf (lineModeCode m) = some m := by cases m <;> rfl

theorem flagCode_lt (b : Bool) : flagCode b < 2 := by cases b <;> decide
theorem classCode_lt (c : PersonClass) : classCode c < 4 := by cases c <;> decide
theorem locationCode_lt (l : Location) : locationCode l < 4 := by cases l <;> decide
theorem directionCode_lt (d : Direction) : directionCode d < 2 := by cases d <;> decide
theorem cabinModeCode_lt (m : CabinMode) : cabinModeCode m < 4 := by cases m <;> decide
theorem credentialKindCode_lt (k : CredentialKind) : credentialKindCode k < 2 := by cases k <;> decide
theorem watchModeCode_lt (m : WatchMode) : watchModeCode m < 4 := by cases m <;> decide
theorem phaseCode_lt (p : Phase) : phaseCode p < 4 := by cases p <;> decide
theorem resumeModeCode_lt (m : ResumeMode) : resumeModeCode m < 2 := by cases m <;> decide
theorem categoryCode_lt (c : Category) : categoryCode c < 5 := by cases c <;> decide
theorem terminalKindCode_lt (k : TerminalKind) : terminalKindCode k < 5 := by cases k <;> decide
theorem reasonCode_lt (r : RevocationReason) : reasonCode r < 4 := by cases r <;> decide

/-! ## Fields at the front of a body -/

theorem split_last (k n : Nat) (fs : List Field) (h : n < 256 ^ k) :
    split (.fixed k :: fs) (bytes k n) = (split fs []).map (Chunk.here n :: ·) := by
  have := split_fixed k n fs [] h
  simpa using this

theorem split_present_last (k n : Nat) (fs : List Field) (h : n < 256 ^ k) :
    split (.optional k :: fs) (0x01 :: bytes k n) = (split fs []).map (Chunk.here n :: ·) := by
  have := split_present k n fs [] h
  simpa using this

/-- What a body holds at an optional field. -/
def Chunk.ofOption : Option Nat → Chunk
  | some v => .here v
  | none => .absent

theorem split_optional (k : Nat) (o : Option Nat) (fs : List Field) (rest : List Byte)
    (h : ∀ v, o = some v → v < 256 ^ k) :
    split (.optional k :: fs) (optional (bytes k) o ++ rest) = (split fs rest).map (Chunk.ofOption o :: ·) := by
  cases o with
  | none => exact split_absent k fs rest
  | some v => exact split_present k v fs rest (h v rfl)

theorem split_optional_last (k : Nat) (o : Option Nat) (fs : List Field) (h : ∀ v, o = some v → v < 256 ^ k) :
    split (.optional k :: fs) (optional (bytes k) o) = (split fs []).map (Chunk.ofOption o :: ·) := by
  have := split_optional k o fs [] h
  simpa using this

/-! ## Record requests -/

theorem readSlot_body {slot : Nat} (h : slot < 12288) : readSlot (bytes 2 slot) = .good slot := by
  simp [readSlot, fields, split_last 2 slot [] (by omega), slotGood, Config.recordSlots, h]

theorem readSlotAnd_body {α : Type} {decode : Nat → Option α} {slot v : Nat} {a : α} (h : slot < 12288) (hv : v < 256)
    (hd : decode v = some a) : readSlotAnd decode (bytes 2 slot ++ byte v) = .good (slot, a) := by
  simp [readSlotAnd, fields, byte, split_fixed 2 slot _ _ (show slot < 256 ^ 2 by omega),
    split_last 1 v [] (by omega), slotGood, Config.recordSlots, h, hd]

theorem readMessage_body {slot code count : Nat} (h : slot < 12288) (hc : code < 256) (hn : count ≤ 7) :
    readMessage (bytes 2 slot ++ byte code ++ byte count) = .good (slot, code, count) := by
  simp [readMessage, fields, byte, split_fixed 2 slot _ _ (show slot < 256 ^ 2 by omega),
    split_fixed 1 code _ _ (show code < 256 ^ 1 by omega), split_last 1 count [] (by omega), slotGood,
    Config.recordSlots, h, hn]

theorem readCap_body {slot : Nat} {cap : Option Nat} (h : slot < 12288) (hc : ∀ v, cap = some v → v ≤ 1000000) :
    readCap (bytes 2 slot ++ optional (bytes 4) cap) = .good (slot, cap) := by
  have hb : ∀ v, cap = some v → v < 256 ^ 4 := fun v hv => by have := hc v hv; omega
  have hs : split [.fixed 2, .optional 4] (bytes 2 slot ++ optional (bytes 4) cap) =
      some [.here slot, Chunk.ofOption cap] := by
    rw [split_fixed 2 slot _ _ (by omega), split_optional_last 4 cap [] hb]
    rfl
  cases cap with
  | none => simp [readCap, fields, hs, slotGood, Config.recordSlots, h, Chunk.ofOption, Chunk.optionalNumber]
  | some v =>
    have := hc v rfl
    simp [readCap, fields, hs, slotGood, Config.recordSlots, h, Chunk.ofOption, Chunk.optionalNumber, capGood, this]

theorem readCredential_body {n : Nat} (h : 0 < n) (hn : n < 2 ^ 48) : readCredential (bytes 6 n) = .good n := by
  simp [readCredential, fields, split_last 6 n [] (by omega), credentialGood, h]

theorem readSlotCredential_body {slot n : Nat} (h : slot < 12288) (h0 : 0 < n) (hn : n < 2 ^ 48) :
    readSlotCredential (bytes 2 slot ++ bytes 6 n) = .good (slot, n) := by
  simp [readSlotCredential, fields, split_fixed 2 slot _ _ (show slot < 256 ^ 2 by omega),
    split_last 6 n [] (by omega), slotGood, Config.recordSlots, h, credentialGood, h0]

theorem readReserve_body {slot n : Nat} {k : CredentialKind} {replaces : Option Nat} (h : slot < 12288) (h0 : 0 < n)
    (hn : n < 2 ^ 48) (hr : ∀ m, replaces = some m → 0 < m ∧ m < 2 ^ 48) :
    readReserve (bytes 2 slot ++ bytes 6 n ++ byte (credentialKindCode k) ++ optional (bytes 6) replaces) =
      .good ⟨slot, n, k, replaces⟩ := by
  have hk := credentialKindCode_lt k
  have hs : split [.fixed 2, .fixed 6, .fixed 1, .optional 6]
      (bytes 2 slot ++ bytes 6 n ++ byte (credentialKindCode k) ++ optional (bytes 6) replaces) =
      some [.here slot, .here n, .here (credentialKindCode k), Chunk.ofOption replaces] := by
    rw [List.append_assoc, List.append_assoc, split_fixed 2 slot _ _ (by omega), split_fixed 6 n _ _ (by omega), byte,
      split_fixed 1 _ _ _ (by omega),
      split_optional_last 6 replaces [] (fun v hv => by have := hr v hv; omega)]
    rfl
  cases replaces with
  | none =>
    simp only [readReserve, fields, hs]
    simp [Chunk.ofOption, Chunk.optionalNumber, slotGood, Config.recordSlots, h, credentialGood, h0]
  | some m =>
    have := (hr m rfl).1
    simp only [readReserve, fields, hs]
    simp [Chunk.ofOption, Chunk.optionalNumber, slotGood, Config.recordSlots, h, credentialGood, h0, this]

theorem readRevoke_body {n : Nat} {reason : RevocationReason} (h0 : 0 < n) (hn : n < 2 ^ 48)
    (hr : reason = .lost ∨ reason = .host) :
    readRevoke (bytes 6 n ++ byte (reasonCode reason)) = .good (n, reason) := by
  have hk := reasonCode_lt reason
  have hs : split [.fixed 6, .fixed 1] (bytes 6 n ++ byte (reasonCode reason)) =
      some [.here n, .here (reasonCode reason)] := by
    rw [split_fixed 6 n _ _ (by omega), byte, split_last 1 _ [] (by omega)]
    rfl
  simp only [readRevoke, fields, hs]
  rcases hr with rfl | rfl <;> simp [reasonCode, credentialGood, h0]

theorem readPosition_body {p : Nat} (h : p < 2048) : readPosition (bytes 2 p) = .good p := by
  simp [readPosition, fields, split_last 2 p [] (by omega), Config.revocationSize, h]

theorem readNothing_body : readNothing [] = .good () := rfl

/-- A body of ISSUE_RECORD: the role is present for CREW alone (R8). -/
theorem readIssue_body {q : IssueFields} (h1 : q.reference < 2 ^ 32) (h2 : q.folio < 8192) (h3 : q.tier ≤ 7)
    (h4 : q.station < 16) (h5 : ∀ v, q.cap = some v → v ≤ 1000000) (h6 : q.location = .notEmbarked ∨ q.location = .aboard)
    (h7 : q.role ≠ none ↔ q.cls = .crew) (h8 : ∀ v, q.role = some v → v < 32) :
    readIssue
      (byte (classCode q.cls) ++ bytes 4 q.reference ++ bytes 2 q.folio ++ byte (locationCode q.location) ++
        byte q.tier ++ optional (bytes 4) q.cap ++ byte q.station ++ optional byte q.role) = .good q := by
  obtain ⟨cls, reference, folio, location, tier, cap, station, role⟩ := q
  simp only at h1 h2 h3 h4 h5 h6 h7 h8 ⊢
  have hc := classCode_lt cls
  have hl := locationCode_lt location
  have e : (byte : Nat → List Byte) = bytes 1 := rfl
  have hs : split [.fixed 1, .fixed 4, .fixed 2, .fixed 1, .fixed 1, .optional 4, .fixed 1, .optional 1]
      (byte (classCode cls) ++ bytes 4 reference ++ bytes 2 folio ++ byte (locationCode location) ++ byte tier ++
        optional (bytes 4) cap ++ byte station ++ optional byte role) =
      some [.here (classCode cls), .here reference, .here folio, .here (locationCode location), .here tier,
        Chunk.ofOption cap, .here station, Chunk.ofOption role] := by
    simp only [List.append_assoc, e]
    rw [split_fixed 1 _ _ _ (by omega), split_fixed 4 _ _ _ (by omega), split_fixed 2 _ _ _ (by omega),
      split_fixed 1 _ _ _ (by omega), split_fixed 1 _ _ _ (by omega),
      split_optional 4 cap _ _ (fun v hv => by have := h5 v hv; omega), split_fixed 1 _ _ _ (by omega),
      split_optional_last 1 role [] (fun v hv => by have := h8 v hv; omega)]
    rfl
  have ho : (Chunk.ofOption cap).optionalNumber capGood = some cap := by
    cases cap with
    | none => rfl
    | some v => simp [Chunk.ofOption, Chunk.optionalNumber, capGood, h5 v rfl]
  have hr : (Chunk.ofOption role).optionalNumber (fun v => decide (v < Config.roles)) = some role := by
    cases role with
    | none => rfl
    | some v => simp [Chunk.ofOption, Chunk.optionalNumber, Config.roles, h8 v rfl]
  have ha : (Chunk.ofOption role = .absent) ↔ role = none := by cases role <;> simp [Chunk.ofOption]
  have hx : (decide (classOf (classCode cls) = some .crew) && decide (Chunk.ofOption role = .absent) ||
      decide (classOf (classCode cls) ≠ some .crew) && decide (Chunk.ofOption role ≠ .absent)) = false := by
    simp only [classOf_classCode, Option.some.injEq, ne_eq, ha]
    by_cases hcrew : cls = .crew
    · simp [hcrew, h7.mpr hcrew]
    · have : role = none := by
        by_contra hne
        exact hcrew (h7.mp hne)
      simp [hcrew, this]
  simp only [classOf_classCode] at hx
  have hloc : (decide (location = .notEmbarked) || decide (location = .aboard)) = true := by
    rcases h6 with rfl | rfl <;> rfl
  simp only [readIssue, hs, classOf_classCode, locationOf_locationCode, hx, ho, hr, hloc]
  simp [folioGood, Config.folioSlots, Config.stations, h2, h3, h4]

/-! ## Cabins, roles, phases -/

theorem readSlotCabin_body {slot c : Nat} (h : slot < 12288) (hc : c < 3072) :
    readSlotCabin (bytes 2 slot ++ bytes 2 c) = .good (slot, c) := by
  simp [readSlotCabin, fields, split_fixed 2 slot _ _ (show slot < 256 ^ 2 by omega), split_last 2 c [] (by omega),
    slotGood, cabinGood, Config.recordSlots, Config.cabins, h, hc]

theorem readCabinMode_body {c : Nat} {m : CabinMode} (hc : c < 3072) :
    readCabinMode (bytes 2 c ++ byte (cabinModeCode m)) = .good (c, m) := by
  have := cabinModeCode_lt m
  simp [readCabinMode, fields, byte, split_fixed 2 c _ _ (show c < 256 ^ 2 by omega),
    split_last 1 _ [] (show cabinModeCode m < 256 ^ 1 by omega), cabinGood, Config.cabins, hc]

theorem readRun_body {n top size first count : Nat} (hf : first < 256 ^ n) (h1 : 1 ≤ count) (h2 : count ≤ top)
    (h3 : first + count ≤ size) (h4 : count < 256) :
    readRun n top size (bytes n first ++ byte count) = .good (first, count) := by
  have h5 : first + count - 1 < size := by omega
  simp [readRun, fields, byte, split_fixed n first _ _ hf, split_last 1 count [] (show count < 256 ^ 1 by omega), h1,
    h2, h5]

theorem readNumber_body {n v : Nat} {test : Nat → Bool} (hv : v < 256 ^ n) (ht : test v = true) :
    readNumber n test (bytes n v) = .good v := by
  simp [readNumber, fields, split_last n v [] hv, ht]

theorem readCabinZones_body {first : Nat} {zones : List Nat} (h1 : 1 ≤ zones.length) (h2 : zones.length ≤ 32)
    (h3 : first + zones.length ≤ 3072) (hz : ∀ z ∈ zones, z < 64) :
    readCabinZones (bytes 2 first ++ byte zones.length ++ zones.flatMap byte) = .good (first, zones) := by
  have hl : ∀ l : List Nat, (l.flatMap byte).length = l.length := by
    intro l
    induction l with
    | nil => rfl
    | cons a l ih => simp [byte_eq, ih]
  have hm : ∀ l : List Nat, (∀ z ∈ l, z < 64) → (l.flatMap byte).map BitVec.toNat = l := by
    intro l
    induction l with
    | nil => intro; rfl
    | cons a l ih =>
      intro h
      have ha : a < 64 := h a (by simp)
      have hr := ih fun z hz => h z (by simp [hz])
      simp only [List.flatMap_cons, byte_eq, List.singleton_append, List.map_cons, hr, BitVec.toNat_ofNat]
      rw [Nat.mod_eq_of_lt (by omega)]
  have hall : (zones.flatMap byte).all (fun z => decide (z.toNat < Config.zones)) = true := by
    have : ∀ l : List Nat, (∀ z ∈ l, z < 64) → ∀ b ∈ l.flatMap byte, b.toNat < 64 := by
      intro l h b hb
      simp only [List.mem_flatMap, byte_eq, List.mem_singleton] at hb
      obtain ⟨a, ha, rfl⟩ := hb
      have := h a ha
      rw [BitVec.toNat_ofNat, Nat.mod_eq_of_lt (by omega)]
      exact this
    simp only [List.all_eq_true, decide_eq_true_eq]
    exact this zones hz
  have hb : bytes 2 first = [BitVec.ofNat 8 (first / 256), BitVec.ofNat 8 first] := by simp [bytes]
  have hf : number [BitVec.ofNat 8 (first / 256), BitVec.ofNat 8 first] = first := by
    rw [← hb]
    exact number_bytes 2 first (by omega)
  have hc : (BitVec.ofNat 8 zones.length).toNat = zones.length := by
    rw [BitVec.toNat_ofNat, Nat.mod_eq_of_lt (by omega)]
  rw [hb, byte_eq]
  simp only [List.cons_append, List.nil_append, readCabinZones, hf, hc, hl, hall, hm zones hz, ne_eq, not_true_eq_false,
    if_false]
  rw [if_pos]
  exact ⟨h1, h2, by simp only [Config.cabins]; omega, trivial⟩

theorem readRoleLoad_body {n : Nat} {role : Role} (h : n < 32) :
    readRoleLoad
      (byte n ++ bytes 8 role.zones.toNat ++ flagByte role.cabin ++ flagByte role.privacyOverride ++
        flagByte role.lockoutOverride ++ flagByte role.sweep) = .good (n, role) := by
  obtain ⟨zones, cabin, privacy, lockout, sweep⟩ := role
  have hz := zones.isLt
  have h1 := flagCode_lt cabin
  have h2 := flagCode_lt privacy
  have h3 := flagCode_lt lockout
  have h4 := flagCode_lt sweep
  have hs : split [.fixed 1, .fixed 8, .fixed 1, .fixed 1, .fixed 1, .fixed 1]
      (byte n ++ bytes 8 zones.toNat ++ flagByte cabin ++ flagByte privacy ++ flagByte lockout ++ flagByte sweep) =
      some [.here n, .here zones.toNat, .here (flagCode cabin), .here (flagCode privacy), .here (flagCode lockout),
        .here (flagCode sweep)] := by
    simp only [List.append_assoc, byte, flagByte]
    rw [split_fixed 1 _ _ _ (by omega), split_fixed 8 _ _ _ (by omega), split_fixed 1 _ _ _ (by omega),
      split_fixed 1 _ _ _ (by omega), split_fixed 1 _ _ _ (by omega), split_last 1 _ _ (by omega)]
    rfl
  simp only [readRoleLoad, fields, hs]
  simp [Config.roles, h]

theorem readClassPolicy_body {c : PersonClass} {check : Bool} {b : Passback} :
    readClassPolicy (byte (classCode c) ++ flagByte check ++ byte (if b = .hard then 0 else 1)) =
      .good (c, ⟨check, b⟩) := by
  cases c <;> cases check <;> cases b <;> rfl

theorem readPhase_body {p : Phase} :
    fields [.fixed 1] (byte (phaseCode p)) (fun | [.here v] => phaseOf v | _ => none) = .good p := by
  cases p <;> rfl

theorem readShipTime_body {t : Nat} (h : t < 2 ^ 32) : readShipTime (bytes 8 t) = .good (t : Int) := by
  have h1 : signedNumber 8 t = (t : Int) := by
    unfold signedNumber
    rw [if_pos (by omega)]
  simp only [readShipTime, fields, split_last 8 t [] (show t < 256 ^ 8 by omega), split_nil, Option.map_some, h1]
  rw [if_pos (by omega)]

/-! ## Folios -/

theorem readOpenFolio_body {soft hard allowance : Nat} {m : ResumeMode} (h1 : soft ≤ hard) (h2 : hard ≤ 100000000)
    (h3 : allowance < 256) :
    readOpenFolio (bytes 4 soft ++ bytes 4 hard ++ byte allowance ++ byte (resumeModeCode m)) =
      .good ⟨soft, hard, min allowance 15, m⟩ := by
  have hm := resumeModeCode_lt m
  have hs : split [.fixed 4, .fixed 4, .fixed 1, .fixed 1]
      (bytes 4 soft ++ bytes 4 hard ++ byte allowance ++ byte (resumeModeCode m)) =
      some [.here soft, .here hard, .here allowance, .here (resumeModeCode m)] := by
    simp only [List.append_assoc, byte]
    rw [split_fixed 4 _ _ _ (by omega), split_fixed 4 _ _ _ (by omega), split_fixed 1 _ _ _ (by omega),
      split_last 1 _ _ (by omega)]
    rfl
  simp only [readOpenFolio, fields, hs]
  simp [limitsOf, h1, h2]

theorem readSetLimits_body {slot soft hard allowance : Nat} {m : ResumeMode} (h : slot < 8192) (h1 : soft ≤ 100000000)
    (h2 : hard ≤ 100000000) (h3 : allowance < 256) :
    readSetLimits
      (bytes 2 slot ++ (bytes 4 soft ++ bytes 4 hard ++ byte allowance ++ byte (resumeModeCode m))) =
      .good ⟨slot, soft, hard, min allowance 15, m⟩ := by
  have hm := resumeModeCode_lt m
  have hs : split [.fixed 2, .fixed 4, .fixed 4, .fixed 1, .fixed 1]
      (bytes 2 slot ++ (bytes 4 soft ++ bytes 4 hard ++ byte allowance ++ byte (resumeModeCode m))) =
      some [.here slot, .here soft, .here hard, .here allowance, .here (resumeModeCode m)] := by
    simp only [List.append_assoc, byte]
    rw [split_fixed 2 _ _ _ (by omega), split_fixed 4 _ _ _ (by omega), split_fixed 4 _ _ _ (by omega),
      split_fixed 1 _ _ _ (by omega), split_last 1 _ _ (by omega)]
    rfl
  simp only [readSetLimits, fields, hs]
  simp [folioGood, Config.folioSlots, h, h1, h2]

theorem readFolioSlot_body {slot : Nat} (h : slot < 8192) : readFolioSlot (bytes 2 slot) = .good slot :=
  readNumber_body (by omega) (by simp [folioGood, Config.folioSlots, h])

theorem readPosting_body {top slot amount : Nat} (h : slot < 8192) (h1 : 1 ≤ amount) (h2 : amount ≤ top)
    (h3 : top < 2 ^ 32) : readPosting top (bytes 2 slot ++ bytes 4 amount) = .good (slot, amount) := by
  have hs : split [.fixed 2, .fixed 4] (bytes 2 slot ++ bytes 4 amount) = some [.here slot, .here amount] := by
    rw [split_fixed 2 _ _ _ (by omega), split_last 4 _ _ (by omega)]
    rfl
  simp only [readPosting, fields, hs]
  simp [folioGood, Config.folioSlots, h, h2, Nat.pos_iff_ne_zero.mp h1, Nat.one_le_iff_ne_zero]

theorem readLink_body {slot folio : Nat} (h : slot < 12288) (hf : folio < 8192) :
    readLink (bytes 2 slot ++ bytes 2 folio) = .good (slot, folio) := by
  have hs : split [.fixed 2, .fixed 2] (bytes 2 slot ++ bytes 2 folio) = some [.here slot, .here folio] := by
    rw [split_fixed 2 _ _ _ (by omega), split_last 2 _ _ (by omega)]
    rfl
  simp only [readLink, fields, hs]
  simp [slotGood, folioGood, Config.recordSlots, Config.folioSlots, h, hf]

/-! ## Venues, tiers, tabs -/

theorem readVenueLoad_body {n rate code : Nat} {c : Category} {set : BitVec 4} (h : n < 128) (hr : rate < 65536)
    (hc : code ≤ 15) :
    readVenueLoad (byte n ++ byte (categoryCode c) ++ bytes 2 rate ++ byte set.toNat ++ byte code) =
      .good ⟨n, c, min rate 3000, set, code⟩ := by
  have hk := categoryCode_lt c
  have hset := set.isLt
  have hs : split [.fixed 1, .fixed 1, .fixed 2, .fixed 1, .fixed 1]
      (byte n ++ byte (categoryCode c) ++ bytes 2 rate ++ byte set.toNat ++ byte code) =
      some [.here n, .here (categoryCode c), .here rate, .here set.toNat, .here code] := by
    simp only [List.append_assoc, byte]
    rw [split_fixed 1 _ _ _ (by omega), split_fixed 1 _ _ _ (by omega), split_fixed 2 _ _ _ (by omega),
      split_fixed 1 _ _ _ (by omega), split_last 1 _ _ (by omega)]
    rfl
  simp only [readVenueLoad, fields, hs]
  simp [Config.venues, h, hc, hset]

theorem readVenueOpen_body {n : Nat} {b : Bool} (h : n < 128) : readVenueOpen (byte n ++ flagByte b) = .good (n, b) := by
  have hb := flagCode_lt b
  have hs : split [.fixed 1, .fixed 1] (byte n ++ flagByte b) = some [.here n, .here (flagCode b)] := by
    simp only [byte, flagByte]
    rw [split_fixed 1 _ _ _ (by omega), split_last 1 _ _ (by omega)]
    rfl
  simp only [readVenueOpen, fields, hs]
  simp [Config.venues, h]

theorem readTierLoad_body {n cap count : Nat} (h1 : 1 ≤ n) (h2 : n ≤ 7) (hc : cap < 2 ^ 32) (hn : count < 256) :
    readTierLoad (byte n ++ bytes 4 cap ++ byte count) = .good (n, ⟨min cap 10000, min count 30⟩) := by
  have hs : split [.fixed 1, .fixed 4, .fixed 1] (byte n ++ bytes 4 cap ++ byte count) =
      some [.here n, .here cap, .here count] := by
    simp only [List.append_assoc, byte]
    rw [split_fixed 1 _ _ _ (by omega), split_fixed 4 _ _ _ (by omega), split_last 1 _ _ (by omega)]
    rfl
  simp only [readTierLoad, fields, hs]
  rw [if_pos ⟨h1, h2⟩]

theorem readTabList_body {start : Nat} {folio : Option Nat} (h : start < 1024) (hf : ∀ v, folio = some v → v < 8192) :
    readTabList (bytes 2 start ++ optional (bytes 2) folio) = .good (start, folio) := by
  have hs : split [.fixed 2, .optional 2] (bytes 2 start ++ optional (bytes 2) folio) =
      some [.here start, Chunk.ofOption folio] := by
    rw [split_fixed 2 start _ _ (by omega), split_optional_last 2 folio [] (fun v hv => by have := hf v hv; omega)]
    rfl
  simp only [readTabList, fields, hs]
  cases folio with
  | none => simp [Chunk.ofOption, Chunk.optionalNumber, Config.tabEntries, h]
  | some v => simp [Chunk.ofOption, Chunk.optionalNumber, Config.tabEntries, h, folioGood, Config.folioSlots, hf v rfl]

/-! ## Ports and terminals -/

theorem portOf_val (p : Port) : portOf p.val = some p := by
  simp [portOf, p.isLt]

theorem readPort_body (p : Port) : readPort (byte p.val) = .good p := by
  have hp := p.isLt
  simp only [readPort, fields, byte, split_last 1 p.val [] (show p.val < 256 ^ 1 by omega), split_nil, Option.map_some,
    portOf_val]

theorem readTerminalRun_body (p : Port) {first : Nat} (h : first < 64) :
    readTerminalRun (byte p.val ++ byte first) = .good (p, first) := by
  have hp := p.isLt
  have hs : split [.fixed 1, .fixed 1] (byte p.val ++ byte first) = some [.here p.val, .here first] := by
    simp only [byte]
    rw [split_fixed 1 _ _ _ (by omega), split_last 1 _ _ (by omega)]
    rfl
  simp only [readTerminalRun, fields, hs, portOf_val]
  simp [Config.terminalsPerPort, h]

theorem readTerminalEnable_body (p : Port) {term : Nat} {b : Bool} (h : term < 64) :
    readTerminalEnable (byte p.val ++ byte term ++ flagByte b) = .good (p, term, b) := by
  have hp := p.isLt
  have hb := flagCode_lt b
  have hs : split [.fixed 1, .fixed 1, .fixed 1] (byte p.val ++ byte term ++ flagByte b) =
      some [.here p.val, .here term, .here (flagCode b)] := by
    simp only [List.append_assoc, byte, flagByte]
    rw [split_fixed 1 _ _ _ (by omega), split_fixed 1 _ _ _ (by omega), split_last 1 _ _ (by omega)]
    rfl
  simp only [readTerminalEnable, fields, hs, portOf_val]
  simp [Config.terminalsPerPort, h]

/-- The binding field of LOAD_TERMINAL is a marker byte and a number of two bytes (R167). -/
theorem bindingField (b : Binding) (h : b.number < 65536) :
    byte b.marker ++ bytes 2 b.number = bytes 3 (b.marker * 65536 + b.number) := by
  have e : bytes 3 (b.marker * 65536 + b.number) =
      [BitVec.ofNat 8 ((b.marker * 65536 + b.number) / 65536), BitVec.ofNat 8 ((b.marker * 65536 + b.number) / 256),
        BitVec.ofNat 8 (b.marker * 65536 + b.number)] := by simp [bytes]
  have e2 : bytes 2 b.number = [BitVec.ofNat 8 (b.number / 256), BitVec.ofNat 8 b.number] := by simp [bytes]
  rw [e, byte_eq, e2]
  simp only [List.singleton_append, List.cons.injEq, and_true]
  refine ⟨?_, ?_, ?_⟩ <;> apply BitVec.eq_of_toNat_eq <;> simp only [BitVec.toNat_ofNat] <;> omega

/-! ## Notices and settings -/

theorem readConditions_body (set : BitVec 17) : readConditions (bytes 3 set.toNat) = .good set := by
  have h := set.isLt
  simp only [readConditions, fields, split_last 3 set.toNat [] (show set.toNat < 256 ^ 3 by omega), split_nil,
    Option.map_some]
  rw [if_pos h]
  simp

/-- A setting of one byte. -/
theorem readSetting_byte {name v : Nat} (hn : name ≤ 0x11) (hv : v < 256) (hs : settingSize name = 1) :
    readSetting (byte name ++ byte v) =
      match settingOf name v with
      | some a => .good a
      | none => .range := by
  have h1 : (BitVec.ofNat 8 name).toNat = name := by
    rw [BitVec.toNat_ofNat, Nat.mod_eq_of_lt (by omega)]
  have h2 : number [BitVec.ofNat 8 v] = v := by
    rw [← byte_eq]
    exact number_bytes 1 v (by omega)
  rw [byte_eq, byte_eq]
  simp only [List.singleton_append, readSetting, h1, h2, hs, List.length_singleton, ne_eq, not_true_eq_false, and_false,
    if_false] <;>
    rfl

/-- A setting of another size. -/
theorem readSetting_bytes {name n v : Nat} (hn : name ≤ 0x11) (hv : v < 256 ^ n) (hs : settingSize name = n) :
    readSetting (byte name ++ bytes n v) =
      match settingOf name v with
      | some a => .good a
      | none => .range := by
  have h1 : (BitVec.ofNat 8 name).toNat = name := by
    rw [BitVec.toNat_ofNat, Nat.mod_eq_of_lt (by omega)]
  rw [byte_eq]
  simp only [List.singleton_append, readSetting, h1, number_bytes n v hv, hs, bytes_length, ne_eq, not_true_eq_false,
    and_false, if_false] <;>
    rfl

end Sys2Proof.Machine
end

