-- ==== Sys2Proof/Laws/Tables.lean ====
section
/-! SUPPORT. What each operation on a sparse table does: a read after a write, the frame of a write, and the
canonical form kept. -/

namespace Sys2Proof.Table

variable {α : Type}

@[simp] theorem find_nil (k : Nat) : find ([] : Table α) k = none := rfl

theorem find_cons (j k : Nat) (v : α) (t : Table α) :
    find ((j, v) :: t) k = if j = k then some v else find t k := rfl

@[simp] theorem find_put_same (t : Table α) (k : Nat) (v : α) : find (put t k v) k = some v := by
  induction t with
  | nil => simp [put, find]
  | cons e t ih =>
    obtain ⟨j, w⟩ := e
    simp only [put]
    split
    · simp [find]
    · split
      · simp [find]
      · rename_i h1 h2
        have h3 : j ≠ k := fun h => h2 h.symm
        simp [find, h3, ih]

theorem find_put_other (t : Table α) (v : α) {k i : Nat} (h : i ≠ k) : find (put t k v) i = find t i := by
  induction t with
  | nil => simp [put, find, Ne.symm h]
  | cons e t ih =>
    obtain ⟨j, w⟩ := e
    simp only [put]
    split
    · simp [find, Ne.symm h]
    · split
      · rename_i h1 h2
        subst h2
        simp [find, Ne.symm h]
      · simp [find, ih]

theorem find_drop_other (t : Table α) {k i : Nat} (h : i ≠ k) : find (drop t k) i = find t i := by
  induction t with
  | nil => rfl
  | cons e t ih =>
    obtain ⟨j, w⟩ := e
    simp only [drop]
    split
    · rename_i h1
      subst h1
      simp [find, Ne.symm h]
    · simp [find, ih]

@[simp] theorem find_mapValues (f : α → α) (t : Table α) (k : Nat) : find (mapValues f t) k = (find t k).map f := by
  induction t with
  | nil => rfl
  | cons e t ih =>
    obtain ⟨j, w⟩ := e
    have ih' : find (List.map (fun e : Nat × α => (e.1, f e.2)) t) k = (find t k).map f := ih
    simp only [mapValues, List.map_cons, find_cons, ih']
    split <;> simp

theorem wf_tail {e : Nat × α} {t : Table α} (h : wf (e :: t) = true) : wf t = true := by
  cases t with
  | nil => rfl
  | cons d t =>
    obtain ⟨j, w⟩ := e
    obtain ⟨k, x⟩ := d
    simp only [wf, Bool.and_eq_true] at h
    exact h.2

/-- In the canonical form the keys after the first are above it. -/
theorem wf_above {j : Nat} {w : α} {t : Table α} (h : wf ((j, w) :: t) = true) :
    ∀ e ∈ t, j < e.1 := by
  induction t generalizing j w with
  | nil => simp
  | cons d t ih =>
    obtain ⟨k, x⟩ := d
    simp only [wf, Bool.and_eq_true, decide_eq_true_eq] at h
    intro e he
    rcases List.mem_cons.mp he with rfl | he'
    · exact h.1
    · exact lt_trans h.1 (ih h.2 e he')

theorem find_below {k : Nat} {t : Table α} (h : ∀ e ∈ t, k < e.1) : find t k = none := by
  induction t with
  | nil => rfl
  | cons d t ih =>
    obtain ⟨j, w⟩ := d
    have hj : k < j := h (j, w) (by simp)
    rw [find_cons, if_neg (by omega)]
    exact ih fun e he => h e (by simp [he])

@[simp] theorem find_drop_same {t : Table α} (k : Nat) (h : wf t = true) : find (drop t k) k = none := by
  induction t with
  | nil => rfl
  | cons d t ih =>
    obtain ⟨j, w⟩ := d
    simp only [drop]
    split
    · rename_i hjk
      subst hjk
      exact find_below (wf_above h)
    · rename_i hjk
      rw [find_cons, if_neg hjk]
      exact ih (wf_tail h)

/-- A first key below every other key, put before a table in its canonical form, keeps the form. -/
theorem wf_cons {j : Nat} {w : α} {t : Table α} (h : wf t = true) (hj : ∀ e ∈ t, j < e.1) :
    wf ((j, w) :: t) = true := by
  cases t with
  | nil => rfl
  | cons d t =>
    obtain ⟨k, x⟩ := d
    simp only [wf, Bool.and_eq_true, decide_eq_true_eq]
    exact ⟨hj (k, x) (by simp), h⟩

theorem mem_put {t : Table α} {k : Nat} {v : α} {e : Nat × α} (h : e ∈ put t k v) : e = (k, v) ∨ e ∈ t := by
  induction t with
  | nil => simpa [put] using h
  | cons d t ih =>
    obtain ⟨j, w⟩ := d
    simp only [put] at h
    split at h
    · simpa using h
    · split at h
      · rcases List.mem_cons.mp h with h1 | h1
        · exact Or.inl h1
        · exact Or.inr (by simp [h1])
      · rcases List.mem_cons.mp h with h1 | h1
        · exact Or.inr (by simp [h1])
        · rcases ih h1 with h2 | h2
          · exact Or.inl h2
          · exact Or.inr (by simp [h2])

theorem mem_drop {t : Table α} {k : Nat} {e : Nat × α} (h : e ∈ drop t k) : e ∈ t := by
  induction t with
  | nil => simp [drop] at h
  | cons d t ih =>
    obtain ⟨j, w⟩ := d
    simp only [drop] at h
    split at h
    · simp [h]
    · rcases List.mem_cons.mp h with h1 | h1
      · simp [h1]
      · simp [ih h1]

/-- A write keeps the canonical form. -/
theorem wf_put {t : Table α} (k : Nat) (v : α) (h : wf t = true) : wf (put t k v) = true := by
  induction t with
  | nil => rfl
  | cons d t ih =>
    obtain ⟨j, w⟩ := d
    simp only [put]
    split
    · rename_i hkj
      refine wf_cons h fun e he => ?_
      rcases List.mem_cons.mp he with rfl | he'
      · exact hkj
      · exact lt_trans hkj (wf_above h e he')
    · split
      · rename_i hkj
        subst hkj
        exact wf_cons (wf_tail h) (wf_above h)
      · rename_i h1 h2
        refine wf_cons (ih (wf_tail h)) fun e he => ?_
        rcases mem_put he with rfl | he'
        · exact lt_of_le_of_ne (Nat.le_of_not_lt h1) (Ne.symm h2)
        · exact wf_above h e he'

/-- The end of an entry keeps the canonical form. -/
theorem wf_drop {t : Table α} (k : Nat) (h : wf t = true) : wf (drop t k) = true := by
  induction t with
  | nil => rfl
  | cons d t ih =>
    obtain ⟨j, w⟩ := d
    simp only [drop]
    split
    · exact wf_tail h
    · exact wf_cons (ih (wf_tail h)) fun e he => wf_above h e (mem_drop he)

theorem wf_putValue [DecidableEq α] {t : Table α} (i : α) (k : Nat) (v : α) (h : wf t = true) :
    wf (putValue t i k v) = true := by
  unfold putValue
  split
  · exact wf_drop k h
  · exact wf_put k v h

theorem wf_mapValues (f : α → α) {t : Table α} (h : wf t = true) : wf (mapValues f t) = true := by
  induction t with
  | nil => rfl
  | cons d t ih =>
    obtain ⟨j, w⟩ := d
    refine wf_cons (t := mapValues f t) (ih (wf_tail h)) fun e he => ?_
    obtain ⟨d, hd, rfl⟩ := List.mem_map.mp he
    exact wf_above h d hd

/-- A write of an entry of a table whose every entry exists is read back. -/
@[simp] theorem value_putValue_same [DecidableEq α] {t : Table α} (i : α) (k : Nat) (v : α) (h : wf t = true) :
    value (putValue t i k v) i k = v := by
  unfold putValue value
  split
  · rename_i hv
    simp [find_drop_same k h, hv]
  · simp

theorem value_putValue_other [DecidableEq α] (t : Table α) (i v : α) {k n : Nat} (h : n ≠ k) :
    value (putValue t i k v) i n = value t i n := by
  unfold putValue value
  split
  · rw [find_drop_other t h]
  · rw [find_put_other t v h]

/-- The lowest free key is free, within its trials, and every key below it is in use. -/
theorem lowestFree_spec {t : Table α} {n k i : Nat} (h : lowestFree t n k = some i) :
    k ≤ i ∧ i < k + n ∧ find t i = none ∧ ∀ j, k ≤ j → j < i → find t j ≠ none := by
  induction n generalizing k with
  | zero => simp [lowestFree] at h
  | succ n ih =>
    simp only [lowestFree] at h
    split at h
    · rename_i hk
      obtain rfl := Option.some.inj h
      exact ⟨le_refl _, by omega, by simpa using hk, by omega⟩
    · rename_i hk
      obtain ⟨h1, h2, h3, h4⟩ := ih h
      refine ⟨by omega, by omega, h3, fun j hj hji => ?_⟩
      rcases Nat.eq_or_lt_of_le hj with rfl | hlt
      · intro hn
        simp [hn] at hk
      · exact h4 j hlt hji

/-- A free key within the trials, with every key below it in use, is the lowest free one. -/
theorem lowestFree_eq {t : Table α} {n k i : Nat} (hk : k ≤ i) (hn : i < k + n) (hi : find t i = none)
    (hlow : ∀ j, k ≤ j → j < i → find t j ≠ none) : lowestFree t n k = some i := by
  induction n generalizing k with
  | zero => omega
  | succ n ih =>
    simp only [lowestFree]
    rcases Nat.eq_or_lt_of_le hk with rfl | hlt
    · simp [hi]
    · rw [if_neg (by simpa [Option.isNone_iff_eq_none] using hlow k (le_refl _) hlt)]
      exact ih hlt (by omega) fun j hj => hlow j (by omega)

end Sys2Proof.Table
end

