-- ==== Sys2Proof/Laws/State.lean ====
section
/-! SUPPORT. What each shared operation leaves of the state: one lemma for each field that the operation does not
touch, and the reads of what it wrote. -/

namespace Sys2Proof.Machine

variable (s : State)


/-! ### State.putRecord -/

@[simp] theorem State.putRecord_ports (slot : Nat) (r : Record) : (s.putRecord slot r).ports = s.ports := rfl
@[simp] theorem State.putRecord_terminals (slot : Nat) (r : Record) : (s.putRecord slot r).terminals = s.terminals := rfl
@[simp] theorem State.putRecord_management (slot : Nat) (r : Record) : (s.putRecord slot r).management = s.management := rfl
@[simp] theorem State.putRecord_settings (slot : Nat) (r : Record) : (s.putRecord slot r).settings = s.settings := rfl
@[simp] theorem State.putRecord_access (slot : Nat) (r : Record) : (s.putRecord slot r).access = s.access := rfl
@[simp] theorem State.putRecord_passage (slot : Nat) (r : Record) : (s.putRecord slot r).passage = s.passage := rfl
@[simp] theorem State.putRecord_muster (slot : Nat) (r : Record) : (s.putRecord slot r).muster = s.muster := rfl
@[simp] theorem State.putRecord_clock (slot : Nat) (r : Record) : (s.putRecord slot r).clock = s.clock := rfl
@[simp] theorem State.putRecord_folios (slot : Nat) (r : Record) : (s.putRecord slot r).folios = s.folios := rfl
@[simp] theorem State.putRecord_charge (slot : Nat) (r : Record) : (s.putRecord slot r).charge = s.charge := rfl
@[simp] theorem State.putRecord_tabs (slot : Nat) (r : Record) : (s.putRecord slot r).tabs = s.tabs := rfl
@[simp] theorem State.putRecord_notice (slot : Nat) (r : Record) : (s.putRecord slot r).notice = s.notice := rfl
@[simp] theorem State.putRecord_pending (slot : Nat) (r : Record) : (s.putRecord slot r).pending = s.pending := rfl

/-! ### State.putIndex -/

@[simp] theorem State.putIndex_ports (n : Nat) (e : IndexEntry) : (s.putIndex n e).ports = s.ports := rfl
@[simp] theorem State.putIndex_terminals (n : Nat) (e : IndexEntry) : (s.putIndex n e).terminals = s.terminals := rfl
@[simp] theorem State.putIndex_management (n : Nat) (e : IndexEntry) : (s.putIndex n e).management = s.management := rfl
@[simp] theorem State.putIndex_settings (n : Nat) (e : IndexEntry) : (s.putIndex n e).settings = s.settings := rfl
@[simp] theorem State.putIndex_access (n : Nat) (e : IndexEntry) : (s.putIndex n e).access = s.access := rfl
@[simp] theorem State.putIndex_passage (n : Nat) (e : IndexEntry) : (s.putIndex n e).passage = s.passage := rfl
@[simp] theorem State.putIndex_muster (n : Nat) (e : IndexEntry) : (s.putIndex n e).muster = s.muster := rfl
@[simp] theorem State.putIndex_clock (n : Nat) (e : IndexEntry) : (s.putIndex n e).clock = s.clock := rfl
@[simp] theorem State.putIndex_folios (n : Nat) (e : IndexEntry) : (s.putIndex n e).folios = s.folios := rfl
@[simp] theorem State.putIndex_charge (n : Nat) (e : IndexEntry) : (s.putIndex n e).charge = s.charge := rfl
@[simp] theorem State.putIndex_tabs (n : Nat) (e : IndexEntry) : (s.putIndex n e).tabs = s.tabs := rfl
@[simp] theorem State.putIndex_notice (n : Nat) (e : IndexEntry) : (s.putIndex n e).notice = s.notice := rfl
@[simp] theorem State.putIndex_pending (n : Nat) (e : IndexEntry) : (s.putIndex n e).pending = s.pending := rfl

/-! ### State.dropIndex -/

@[simp] theorem State.dropIndex_ports (n : Nat) : (s.dropIndex n).ports = s.ports := rfl
@[simp] theorem State.dropIndex_terminals (n : Nat) : (s.dropIndex n).terminals = s.terminals := rfl
@[simp] theorem State.dropIndex_management (n : Nat) : (s.dropIndex n).management = s.management := rfl
@[simp] theorem State.dropIndex_settings (n : Nat) : (s.dropIndex n).settings = s.settings := rfl
@[simp] theorem State.dropIndex_access (n : Nat) : (s.dropIndex n).access = s.access := rfl
@[simp] theorem State.dropIndex_passage (n : Nat) : (s.dropIndex n).passage = s.passage := rfl
@[simp] theorem State.dropIndex_muster (n : Nat) : (s.dropIndex n).muster = s.muster := rfl
@[simp] theorem State.dropIndex_clock (n : Nat) : (s.dropIndex n).clock = s.clock := rfl
@[simp] theorem State.dropIndex_folios (n : Nat) : (s.dropIndex n).folios = s.folios := rfl
@[simp] theorem State.dropIndex_charge (n : Nat) : (s.dropIndex n).charge = s.charge := rfl
@[simp] theorem State.dropIndex_tabs (n : Nat) : (s.dropIndex n).tabs = s.tabs := rfl
@[simp] theorem State.dropIndex_notice (n : Nat) : (s.dropIndex n).notice = s.notice := rfl
@[simp] theorem State.dropIndex_pending (n : Nat) : (s.dropIndex n).pending = s.pending := rfl

/-! ### State.putFolio -/

@[simp] theorem State.putFolio_ports (slot : Nat) (f : Folio) : (s.putFolio slot f).ports = s.ports := rfl
@[simp] theorem State.putFolio_terminals (slot : Nat) (f : Folio) : (s.putFolio slot f).terminals = s.terminals := rfl
@[simp] theorem State.putFolio_management (slot : Nat) (f : Folio) : (s.putFolio slot f).management = s.management := rfl
@[simp] theorem State.putFolio_settings (slot : Nat) (f : Folio) : (s.putFolio slot f).settings = s.settings := rfl
@[simp] theorem State.putFolio_store (slot : Nat) (f : Folio) : (s.putFolio slot f).store = s.store := rfl
@[simp] theorem State.putFolio_access (slot : Nat) (f : Folio) : (s.putFolio slot f).access = s.access := rfl
@[simp] theorem State.putFolio_passage (slot : Nat) (f : Folio) : (s.putFolio slot f).passage = s.passage := rfl
@[simp] theorem State.putFolio_muster (slot : Nat) (f : Folio) : (s.putFolio slot f).muster = s.muster := rfl
@[simp] theorem State.putFolio_clock (slot : Nat) (f : Folio) : (s.putFolio slot f).clock = s.clock := rfl
@[simp] theorem State.putFolio_charge (slot : Nat) (f : Folio) : (s.putFolio slot f).charge = s.charge := rfl
@[simp] theorem State.putFolio_tabs (slot : Nat) (f : Folio) : (s.putFolio slot f).tabs = s.tabs := rfl
@[simp] theorem State.putFolio_notice (slot : Nat) (f : Folio) : (s.putFolio slot f).notice = s.notice := rfl
@[simp] theorem State.putFolio_pending (slot : Nat) (f : Folio) : (s.putFolio slot f).pending = s.pending := rfl

/-! ### State.dropFolio -/

@[simp] theorem State.dropFolio_ports (slot : Nat) : (s.dropFolio slot).ports = s.ports := rfl
@[simp] theorem State.dropFolio_terminals (slot : Nat) : (s.dropFolio slot).terminals = s.terminals := rfl
@[simp] theorem State.dropFolio_management (slot : Nat) : (s.dropFolio slot).management = s.management := rfl
@[simp] theorem State.dropFolio_settings (slot : Nat) : (s.dropFolio slot).settings = s.settings := rfl
@[simp] theorem State.dropFolio_store (slot : Nat) : (s.dropFolio slot).store = s.store := rfl
@[simp] theorem State.dropFolio_access (slot : Nat) : (s.dropFolio slot).access = s.access := rfl
@[simp] theorem State.dropFolio_passage (slot : Nat) : (s.dropFolio slot).passage = s.passage := rfl
@[simp] theorem State.dropFolio_muster (slot : Nat) : (s.dropFolio slot).muster = s.muster := rfl
@[simp] theorem State.dropFolio_clock (slot : Nat) : (s.dropFolio slot).clock = s.clock := rfl
@[simp] theorem State.dropFolio_charge (slot : Nat) : (s.dropFolio slot).charge = s.charge := rfl
@[simp] theorem State.dropFolio_tabs (slot : Nat) : (s.dropFolio slot).tabs = s.tabs := rfl
@[simp] theorem State.dropFolio_notice (slot : Nat) : (s.dropFolio slot).notice = s.notice := rfl
@[simp] theorem State.dropFolio_pending (slot : Nat) : (s.dropFolio slot).pending = s.pending := rfl

/-! ### State.putCabin -/

@[simp] theorem State.putCabin_ports (n : Nat) (c : Cabin) : (s.putCabin n c).ports = s.ports := rfl
@[simp] theorem State.putCabin_terminals (n : Nat) (c : Cabin) : (s.putCabin n c).terminals = s.terminals := rfl
@[simp] theorem State.putCabin_management (n : Nat) (c : Cabin) : (s.putCabin n c).management = s.management := rfl
@[simp] theorem State.putCabin_settings (n : Nat) (c : Cabin) : (s.putCabin n c).settings = s.settings := rfl
@[simp] theorem State.putCabin_store (n : Nat) (c : Cabin) : (s.putCabin n c).store = s.store := rfl
@[simp] theorem State.putCabin_passage (n : Nat) (c : Cabin) : (s.putCabin n c).passage = s.passage := rfl
@[simp] theorem State.putCabin_muster (n : Nat) (c : Cabin) : (s.putCabin n c).muster = s.muster := rfl
@[simp] theorem State.putCabin_clock (n : Nat) (c : Cabin) : (s.putCabin n c).clock = s.clock := rfl
@[simp] theorem State.putCabin_folios (n : Nat) (c : Cabin) : (s.putCabin n c).folios = s.folios := rfl
@[simp] theorem State.putCabin_charge (n : Nat) (c : Cabin) : (s.putCabin n c).charge = s.charge := rfl
@[simp] theorem State.putCabin_tabs (n : Nat) (c : Cabin) : (s.putCabin n c).tabs = s.tabs := rfl
@[simp] theorem State.putCabin_notice (n : Nat) (c : Cabin) : (s.putCabin n c).notice = s.notice := rfl
@[simp] theorem State.putCabin_pending (n : Nat) (c : Cabin) : (s.putCabin n c).pending = s.pending := rfl

/-! ### State.setCounts -/

@[simp] theorem State.setCounts_ports (m : ByClass (ByLocation Nat)) : (s.setCounts m).ports = s.ports := rfl
@[simp] theorem State.setCounts_terminals (m : ByClass (ByLocation Nat)) : (s.setCounts m).terminals = s.terminals := rfl
@[simp] theorem State.setCounts_management (m : ByClass (ByLocation Nat)) : (s.setCounts m).management = s.management := rfl
@[simp] theorem State.setCounts_settings (m : ByClass (ByLocation Nat)) : (s.setCounts m).settings = s.settings := rfl
@[simp] theorem State.setCounts_store (m : ByClass (ByLocation Nat)) : (s.setCounts m).store = s.store := rfl
@[simp] theorem State.setCounts_access (m : ByClass (ByLocation Nat)) : (s.setCounts m).access = s.access := rfl
@[simp] theorem State.setCounts_muster (m : ByClass (ByLocation Nat)) : (s.setCounts m).muster = s.muster := rfl
@[simp] theorem State.setCounts_clock (m : ByClass (ByLocation Nat)) : (s.setCounts m).clock = s.clock := rfl
@[simp] theorem State.setCounts_folios (m : ByClass (ByLocation Nat)) : (s.setCounts m).folios = s.folios := rfl
@[simp] theorem State.setCounts_charge (m : ByClass (ByLocation Nat)) : (s.setCounts m).charge = s.charge := rfl
@[simp] theorem State.setCounts_tabs (m : ByClass (ByLocation Nat)) : (s.setCounts m).tabs = s.tabs := rfl
@[simp] theorem State.setCounts_notice (m : ByClass (ByLocation Nat)) : (s.setCounts m).notice = s.notice := rfl
@[simp] theorem State.setCounts_pending (m : ByClass (ByLocation Nat)) : (s.setCounts m).pending = s.pending := rfl

/-! ### State.setPort -/

@[simp] theorem State.setPort_terminals (p : Port) (b : PortBlock) : (s.setPort p b).terminals = s.terminals := rfl
@[simp] theorem State.setPort_management (p : Port) (b : PortBlock) : (s.setPort p b).management = s.management := rfl
@[simp] theorem State.setPort_settings (p : Port) (b : PortBlock) : (s.setPort p b).settings = s.settings := rfl
@[simp] theorem State.setPort_store (p : Port) (b : PortBlock) : (s.setPort p b).store = s.store := rfl
@[simp] theorem State.setPort_access (p : Port) (b : PortBlock) : (s.setPort p b).access = s.access := rfl
@[simp] theorem State.setPort_passage (p : Port) (b : PortBlock) : (s.setPort p b).passage = s.passage := rfl
@[simp] theorem State.setPort_muster (p : Port) (b : PortBlock) : (s.setPort p b).muster = s.muster := rfl
@[simp] theorem State.setPort_clock (p : Port) (b : PortBlock) : (s.setPort p b).clock = s.clock := rfl
@[simp] theorem State.setPort_folios (p : Port) (b : PortBlock) : (s.setPort p b).folios = s.folios := rfl
@[simp] theorem State.setPort_charge (p : Port) (b : PortBlock) : (s.setPort p b).charge = s.charge := rfl
@[simp] theorem State.setPort_tabs (p : Port) (b : PortBlock) : (s.setPort p b).tabs = s.tabs := rfl
@[simp] theorem State.setPort_notice (p : Port) (b : PortBlock) : (s.setPort p b).notice = s.notice := rfl
@[simp] theorem State.setPort_pending (p : Port) (b : PortBlock) : (s.setPort p b).pending = s.pending := rfl

/-! ### State.putTerminal -/

@[simp] theorem State.putTerminal_ports (p : Port) (t : Nat) (e : TerminalEntry) : (s.putTerminal p t e).ports = s.ports := rfl
@[simp] theorem State.putTerminal_management (p : Port) (t : Nat) (e : TerminalEntry) : (s.putTerminal p t e).management = s.management := rfl
@[simp] theorem State.putTerminal_settings (p : Port) (t : Nat) (e : TerminalEntry) : (s.putTerminal p t e).settings = s.settings := rfl
@[simp] theorem State.putTerminal_store (p : Port) (t : Nat) (e : TerminalEntry) : (s.putTerminal p t e).store = s.store := rfl
@[simp] theorem State.putTerminal_access (p : Port) (t : Nat) (e : TerminalEntry) : (s.putTerminal p t e).access = s.access := rfl
@[simp] theorem State.putTerminal_passage (p : Port) (t : Nat) (e : TerminalEntry) : (s.putTerminal p t e).passage = s.passage := rfl
@[simp] theorem State.putTerminal_muster (p : Port) (t : Nat) (e : TerminalEntry) : (s.putTerminal p t e).muster = s.muster := rfl
@[simp] theorem State.putTerminal_clock (p : Port) (t : Nat) (e : TerminalEntry) : (s.putTerminal p t e).clock = s.clock := rfl
@[simp] theorem State.putTerminal_folios (p : Port) (t : Nat) (e : TerminalEntry) : (s.putTerminal p t e).folios = s.folios := rfl
@[simp] theorem State.putTerminal_charge (p : Port) (t : Nat) (e : TerminalEntry) : (s.putTerminal p t e).charge = s.charge := rfl
@[simp] theorem State.putTerminal_tabs (p : Port) (t : Nat) (e : TerminalEntry) : (s.putTerminal p t e).tabs = s.tabs := rfl
@[simp] theorem State.putTerminal_notice (p : Port) (t : Nat) (e : TerminalEntry) : (s.putTerminal p t e).notice = s.notice := rfl
@[simp] theorem State.putTerminal_pending (p : Port) (t : Nat) (e : TerminalEntry) : (s.putTerminal p t e).pending = s.pending := rfl

/-! ### State.putVenue -/

@[simp] theorem State.putVenue_ports (n : Nat) (v : Venue) : (s.putVenue n v).ports = s.ports := rfl
@[simp] theorem State.putVenue_terminals (n : Nat) (v : Venue) : (s.putVenue n v).terminals = s.terminals := rfl
@[simp] theorem State.putVenue_management (n : Nat) (v : Venue) : (s.putVenue n v).management = s.management := rfl
@[simp] theorem State.putVenue_settings (n : Nat) (v : Venue) : (s.putVenue n v).settings = s.settings := rfl
@[simp] theorem State.putVenue_store (n : Nat) (v : Venue) : (s.putVenue n v).store = s.store := rfl
@[simp] theorem State.putVenue_access (n : Nat) (v : Venue) : (s.putVenue n v).access = s.access := rfl
@[simp] theorem State.putVenue_passage (n : Nat) (v : Venue) : (s.putVenue n v).passage = s.passage := rfl
@[simp] theorem State.putVenue_muster (n : Nat) (v : Venue) : (s.putVenue n v).muster = s.muster := rfl
@[simp] theorem State.putVenue_clock (n : Nat) (v : Venue) : (s.putVenue n v).clock = s.clock := rfl
@[simp] theorem State.putVenue_folios (n : Nat) (v : Venue) : (s.putVenue n v).folios = s.folios := rfl
@[simp] theorem State.putVenue_tabs (n : Nat) (v : Venue) : (s.putVenue n v).tabs = s.tabs := rfl
@[simp] theorem State.putVenue_notice (n : Nat) (v : Venue) : (s.putVenue n v).notice = s.notice := rfl
@[simp] theorem State.putVenue_pending (n : Nat) (v : Venue) : (s.putVenue n v).pending = s.pending := rfl

/-! ### raise -/

@[simp] theorem raise_ports (c : Condition) : (raise c s).ports = s.ports := rfl
@[simp] theorem raise_terminals (c : Condition) : (raise c s).terminals = s.terminals := rfl
@[simp] theorem raise_management (c : Condition) : (raise c s).management = s.management := rfl
@[simp] theorem raise_settings (c : Condition) : (raise c s).settings = s.settings := rfl
@[simp] theorem raise_store (c : Condition) : (raise c s).store = s.store := rfl
@[simp] theorem raise_access (c : Condition) : (raise c s).access = s.access := rfl
@[simp] theorem raise_passage (c : Condition) : (raise c s).passage = s.passage := rfl
@[simp] theorem raise_muster (c : Condition) : (raise c s).muster = s.muster := rfl
@[simp] theorem raise_clock (c : Condition) : (raise c s).clock = s.clock := rfl
@[simp] theorem raise_folios (c : Condition) : (raise c s).folios = s.folios := rfl
@[simp] theorem raise_charge (c : Condition) : (raise c s).charge = s.charge := rfl
@[simp] theorem raise_tabs (c : Condition) : (raise c s).tabs = s.tabs := rfl
@[simp] theorem raise_pending (c : Condition) : (raise c s).pending = s.pending := rfl

/-! ### raisePortSilent -/

@[simp] theorem raisePortSilent_ports (p : Port) : (raisePortSilent p s).ports = s.ports := rfl
@[simp] theorem raisePortSilent_terminals (p : Port) : (raisePortSilent p s).terminals = s.terminals := rfl
@[simp] theorem raisePortSilent_management (p : Port) : (raisePortSilent p s).management = s.management := rfl
@[simp] theorem raisePortSilent_settings (p : Port) : (raisePortSilent p s).settings = s.settings := rfl
@[simp] theorem raisePortSilent_store (p : Port) : (raisePortSilent p s).store = s.store := rfl
@[simp] theorem raisePortSilent_access (p : Port) : (raisePortSilent p s).access = s.access := rfl
@[simp] theorem raisePortSilent_passage (p : Port) : (raisePortSilent p s).passage = s.passage := rfl
@[simp] theorem raisePortSilent_muster (p : Port) : (raisePortSilent p s).muster = s.muster := rfl
@[simp] theorem raisePortSilent_clock (p : Port) : (raisePortSilent p s).clock = s.clock := rfl
@[simp] theorem raisePortSilent_folios (p : Port) : (raisePortSilent p s).folios = s.folios := rfl
@[simp] theorem raisePortSilent_charge (p : Port) : (raisePortSilent p s).charge = s.charge := rfl
@[simp] theorem raisePortSilent_tabs (p : Port) : (raisePortSilent p s).tabs = s.tabs := rfl
@[simp] theorem raisePortSilent_pending (p : Port) : (raisePortSilent p s).pending = s.pending := rfl

/-! ### raisePortErrors -/

@[simp] theorem raisePortErrors_ports (p : Port) : (raisePortErrors p s).ports = s.ports := rfl
@[simp] theorem raisePortErrors_terminals (p : Port) : (raisePortErrors p s).terminals = s.terminals := rfl
@[simp] theorem raisePortErrors_management (p : Port) : (raisePortErrors p s).management = s.management := rfl
@[simp] theorem raisePortErrors_settings (p : Port) : (raisePortErrors p s).settings = s.settings := rfl
@[simp] theorem raisePortErrors_store (p : Port) : (raisePortErrors p s).store = s.store := rfl
@[simp] theorem raisePortErrors_access (p : Port) : (raisePortErrors p s).access = s.access := rfl
@[simp] theorem raisePortErrors_passage (p : Port) : (raisePortErrors p s).passage = s.passage := rfl
@[simp] theorem raisePortErrors_muster (p : Port) : (raisePortErrors p s).muster = s.muster := rfl
@[simp] theorem raisePortErrors_clock (p : Port) : (raisePortErrors p s).clock = s.clock := rfl
@[simp] theorem raisePortErrors_folios (p : Port) : (raisePortErrors p s).folios = s.folios := rfl
@[simp] theorem raisePortErrors_charge (p : Port) : (raisePortErrors p s).charge = s.charge := rfl
@[simp] theorem raisePortErrors_tabs (p : Port) : (raisePortErrors p s).tabs = s.tabs := rfl
@[simp] theorem raisePortErrors_pending (p : Port) : (raisePortErrors p s).pending = s.pending := rfl

/-! ### report -/

@[simp] theorem report_ports (t : CapacityTable) : (report t s).ports = s.ports := rfl
@[simp] theorem report_terminals (t : CapacityTable) : (report t s).terminals = s.terminals := rfl
@[simp] theorem report_management (t : CapacityTable) : (report t s).management = s.management := rfl
@[simp] theorem report_settings (t : CapacityTable) : (report t s).settings = s.settings := rfl
@[simp] theorem report_store (t : CapacityTable) : (report t s).store = s.store := rfl
@[simp] theorem report_access (t : CapacityTable) : (report t s).access = s.access := rfl
@[simp] theorem report_passage (t : CapacityTable) : (report t s).passage = s.passage := rfl
@[simp] theorem report_muster (t : CapacityTable) : (report t s).muster = s.muster := rfl
@[simp] theorem report_clock (t : CapacityTable) : (report t s).clock = s.clock := rfl
@[simp] theorem report_folios (t : CapacityTable) : (report t s).folios = s.folios := rfl
@[simp] theorem report_charge (t : CapacityTable) : (report t s).charge = s.charge := rfl
@[simp] theorem report_tabs (t : CapacityTable) : (report t s).tabs = s.tabs := rfl
@[simp] theorem report_pending (t : CapacityTable) : (report t s).pending = s.pending := rfl

/-! ### reportAll -/

@[simp] theorem reportAll_ports : (reportAll s).ports = s.ports := rfl
@[simp] theorem reportAll_terminals : (reportAll s).terminals = s.terminals := rfl
@[simp] theorem reportAll_management : (reportAll s).management = s.management := rfl
@[simp] theorem reportAll_settings : (reportAll s).settings = s.settings := rfl
@[simp] theorem reportAll_store : (reportAll s).store = s.store := rfl
@[simp] theorem reportAll_access : (reportAll s).access = s.access := rfl
@[simp] theorem reportAll_passage : (reportAll s).passage = s.passage := rfl
@[simp] theorem reportAll_muster : (reportAll s).muster = s.muster := rfl
@[simp] theorem reportAll_clock : (reportAll s).clock = s.clock := rfl
@[simp] theorem reportAll_folios : (reportAll s).folios = s.folios := rfl
@[simp] theorem reportAll_charge : (reportAll s).charge = s.charge := rfl
@[simp] theorem reportAll_tabs : (reportAll s).tabs = s.tabs := rfl
@[simp] theorem reportAll_pending : (reportAll s).pending = s.pending := rfl

/-! ### acknowledge -/

@[simp] theorem acknowledge_ports (set : BitVec 17) : (acknowledge set s).ports = s.ports := rfl
@[simp] theorem acknowledge_terminals (set : BitVec 17) : (acknowledge set s).terminals = s.terminals := rfl
@[simp] theorem acknowledge_management (set : BitVec 17) : (acknowledge set s).management = s.management := rfl
@[simp] theorem acknowledge_settings (set : BitVec 17) : (acknowledge set s).settings = s.settings := rfl
@[simp] theorem acknowledge_store (set : BitVec 17) : (acknowledge set s).store = s.store := rfl
@[simp] theorem acknowledge_access (set : BitVec 17) : (acknowledge set s).access = s.access := rfl
@[simp] theorem acknowledge_passage (set : BitVec 17) : (acknowledge set s).passage = s.passage := rfl
@[simp] theorem acknowledge_muster (set : BitVec 17) : (acknowledge set s).muster = s.muster := rfl
@[simp] theorem acknowledge_clock (set : BitVec 17) : (acknowledge set s).clock = s.clock := rfl
@[simp] theorem acknowledge_folios (set : BitVec 17) : (acknowledge set s).folios = s.folios := rfl
@[simp] theorem acknowledge_charge (set : BitVec 17) : (acknowledge set s).charge = s.charge := rfl
@[simp] theorem acknowledge_tabs (set : BitVec 17) : (acknowledge set s).tabs = s.tabs := rfl
@[simp] theorem acknowledge_pending (set : BitVec 17) : (acknowledge set s).pending = s.pending := rfl

/-! ### setWatch -/

@[simp] theorem setWatch_ports (w : List WatchEntry) : (setWatch w s).ports = s.ports := rfl
@[simp] theorem setWatch_terminals (w : List WatchEntry) : (setWatch w s).terminals = s.terminals := rfl
@[simp] theorem setWatch_management (w : List WatchEntry) : (setWatch w s).management = s.management := rfl
@[simp] theorem setWatch_settings (w : List WatchEntry) : (setWatch w s).settings = s.settings := rfl
@[simp] theorem setWatch_store (w : List WatchEntry) : (setWatch w s).store = s.store := rfl
@[simp] theorem setWatch_access (w : List WatchEntry) : (setWatch w s).access = s.access := rfl
@[simp] theorem setWatch_muster (w : List WatchEntry) : (setWatch w s).muster = s.muster := rfl
@[simp] theorem setWatch_clock (w : List WatchEntry) : (setWatch w s).clock = s.clock := rfl
@[simp] theorem setWatch_folios (w : List WatchEntry) : (setWatch w s).folios = s.folios := rfl
@[simp] theorem setWatch_charge (w : List WatchEntry) : (setWatch w s).charge = s.charge := rfl
@[simp] theorem setWatch_tabs (w : List WatchEntry) : (setWatch w s).tabs = s.tabs := rfl
@[simp] theorem setWatch_pending (w : List WatchEntry) : (setWatch w s).pending = s.pending := rfl

/-! ### setEnables -/

@[simp] theorem setEnables_ports (e : BitVec 17) : (setEnables e s).ports = s.ports := rfl
@[simp] theorem setEnables_terminals (e : BitVec 17) : (setEnables e s).terminals = s.terminals := rfl
@[simp] theorem setEnables_management (e : BitVec 17) : (setEnables e s).management = s.management := rfl
@[simp] theorem setEnables_store (e : BitVec 17) : (setEnables e s).store = s.store := rfl
@[simp] theorem setEnables_access (e : BitVec 17) : (setEnables e s).access = s.access := rfl
@[simp] theorem setEnables_passage (e : BitVec 17) : (setEnables e s).passage = s.passage := rfl
@[simp] theorem setEnables_muster (e : BitVec 17) : (setEnables e s).muster = s.muster := rfl
@[simp] theorem setEnables_clock (e : BitVec 17) : (setEnables e s).clock = s.clock := rfl
@[simp] theorem setEnables_folios (e : BitVec 17) : (setEnables e s).folios = s.folios := rfl
@[simp] theorem setEnables_charge (e : BitVec 17) : (setEnables e s).charge = s.charge := rfl
@[simp] theorem setEnables_tabs (e : BitVec 17) : (setEnables e s).tabs = s.tabs := rfl
@[simp] theorem setEnables_pending (e : BitVec 17) : (setEnables e s).pending = s.pending := rfl

/-! ### setLatchMode -/

@[simp] theorem setLatchMode_ports (m : LatchMode) : (setLatchMode m s).ports = s.ports := rfl
@[simp] theorem setLatchMode_terminals (m : LatchMode) : (setLatchMode m s).terminals = s.terminals := rfl
@[simp] theorem setLatchMode_management (m : LatchMode) : (setLatchMode m s).management = s.management := rfl
@[simp] theorem setLatchMode_store (m : LatchMode) : (setLatchMode m s).store = s.store := rfl
@[simp] theorem setLatchMode_access (m : LatchMode) : (setLatchMode m s).access = s.access := rfl
@[simp] theorem setLatchMode_passage (m : LatchMode) : (setLatchMode m s).passage = s.passage := rfl
@[simp] theorem setLatchMode_muster (m : LatchMode) : (setLatchMode m s).muster = s.muster := rfl
@[simp] theorem setLatchMode_clock (m : LatchMode) : (setLatchMode m s).clock = s.clock := rfl
@[simp] theorem setLatchMode_folios (m : LatchMode) : (setLatchMode m s).folios = s.folios := rfl
@[simp] theorem setLatchMode_charge (m : LatchMode) : (setLatchMode m s).charge = s.charge := rfl
@[simp] theorem setLatchMode_tabs (m : LatchMode) : (setLatchMode m s).tabs = s.tabs := rfl
@[simp] theorem setLatchMode_pending (m : LatchMode) : (setLatchMode m s).pending = s.pending := rfl

/-! ### takeFrame -/

@[simp] theorem takeFrame_terminals (p : Port) : (takeFrame p s).terminals = s.terminals := rfl
@[simp] theorem takeFrame_management (p : Port) : (takeFrame p s).management = s.management := rfl
@[simp] theorem takeFrame_settings (p : Port) : (takeFrame p s).settings = s.settings := rfl
@[simp] theorem takeFrame_store (p : Port) : (takeFrame p s).store = s.store := rfl
@[simp] theorem takeFrame_access (p : Port) : (takeFrame p s).access = s.access := rfl
@[simp] theorem takeFrame_passage (p : Port) : (takeFrame p s).passage = s.passage := rfl
@[simp] theorem takeFrame_muster (p : Port) : (takeFrame p s).muster = s.muster := rfl
@[simp] theorem takeFrame_clock (p : Port) : (takeFrame p s).clock = s.clock := rfl
@[simp] theorem takeFrame_folios (p : Port) : (takeFrame p s).folios = s.folios := rfl
@[simp] theorem takeFrame_charge (p : Port) : (takeFrame p s).charge = s.charge := rfl
@[simp] theorem takeFrame_tabs (p : Port) : (takeFrame p s).tabs = s.tabs := rfl
@[simp] theorem takeFrame_notice (p : Port) : (takeFrame p s).notice = s.notice := rfl
@[simp] theorem takeFrame_pending (p : Port) : (takeFrame p s).pending = s.pending := rfl

/-! ### endInHand -/

@[simp] theorem endInHand_terminals (p : Port) : (endInHand p s).terminals = s.terminals := rfl
@[simp] theorem endInHand_management (p : Port) : (endInHand p s).management = s.management := rfl
@[simp] theorem endInHand_settings (p : Port) : (endInHand p s).settings = s.settings := rfl
@[simp] theorem endInHand_store (p : Port) : (endInHand p s).store = s.store := rfl
@[simp] theorem endInHand_access (p : Port) : (endInHand p s).access = s.access := rfl
@[simp] theorem endInHand_passage (p : Port) : (endInHand p s).passage = s.passage := rfl
@[simp] theorem endInHand_muster (p : Port) : (endInHand p s).muster = s.muster := rfl
@[simp] theorem endInHand_clock (p : Port) : (endInHand p s).clock = s.clock := rfl
@[simp] theorem endInHand_folios (p : Port) : (endInHand p s).folios = s.folios := rfl
@[simp] theorem endInHand_charge (p : Port) : (endInHand p s).charge = s.charge := rfl
@[simp] theorem endInHand_tabs (p : Port) : (endInHand p s).tabs = s.tabs := rfl
@[simp] theorem endInHand_notice (p : Port) : (endInHand p s).notice = s.notice := rfl
@[simp] theorem endInHand_pending (p : Port) : (endInHand p s).pending = s.pending := rfl

/-! ### PortBlock.decided -/

@[simp] theorem PortBlock.decided_queue (b : PortBlock) : b.decided.queue = b.queue := rfl
@[simp] theorem PortBlock.decided_receiver (b : PortBlock) : b.decided.receiver = b.receiver := rfl
@[simp] theorem PortBlock.decided_whole (b : PortBlock) : b.decided.whole = b.whole := rfl
@[simp] theorem PortBlock.decided_errors (b : PortBlock) : b.decided.errors = b.errors := rfl
@[simp] theorem PortBlock.decided_silence (b : PortBlock) : b.decided.silence = b.silence := rfl
@[simp] theorem PortBlock.decided_silenceExpiry (b : PortBlock) : b.decided.silenceExpiry = b.silenceExpiry := rfl
@[simp] theorem PortBlock.decided_lastArrival (b : PortBlock) : b.decided.lastArrival = b.lastArrival := rfl
@[simp] theorem PortBlock.decided_inHand (b : PortBlock) : b.decided.inHand = none := rfl
@[simp] theorem PortBlock.decided_replies (b : PortBlock) :
    b.decided.replies = b.replies ++ (b.inHand.map InHand.reply).toList := rfl

/-! ### holdReply -/

@[simp] theorem holdReply_terminals (p : Port) (f : Frame) (r : Result) (b : List Byte) : (holdReply p f r b s).terminals = s.terminals := rfl
@[simp] theorem holdReply_management (p : Port) (f : Frame) (r : Result) (b : List Byte) : (holdReply p f r b s).management = s.management := rfl
@[simp] theorem holdReply_settings (p : Port) (f : Frame) (r : Result) (b : List Byte) : (holdReply p f r b s).settings = s.settings := rfl
@[simp] theorem holdReply_store (p : Port) (f : Frame) (r : Result) (b : List Byte) : (holdReply p f r b s).store = s.store := rfl
@[simp] theorem holdReply_access (p : Port) (f : Frame) (r : Result) (b : List Byte) : (holdReply p f r b s).access = s.access := rfl
@[simp] theorem holdReply_passage (p : Port) (f : Frame) (r : Result) (b : List Byte) : (holdReply p f r b s).passage = s.passage := rfl
@[simp] theorem holdReply_muster (p : Port) (f : Frame) (r : Result) (b : List Byte) : (holdReply p f r b s).muster = s.muster := rfl
@[simp] theorem holdReply_clock (p : Port) (f : Frame) (r : Result) (b : List Byte) : (holdReply p f r b s).clock = s.clock := rfl
@[simp] theorem holdReply_folios (p : Port) (f : Frame) (r : Result) (b : List Byte) : (holdReply p f r b s).folios = s.folios := rfl
@[simp] theorem holdReply_charge (p : Port) (f : Frame) (r : Result) (b : List Byte) : (holdReply p f r b s).charge = s.charge := rfl
@[simp] theorem holdReply_tabs (p : Port) (f : Frame) (r : Result) (b : List Byte) : (holdReply p f r b s).tabs = s.tabs := rfl
@[simp] theorem holdReply_notice (p : Port) (f : Frame) (r : Result) (b : List Byte) : (holdReply p f r b s).notice = s.notice := rfl
@[simp] theorem holdReply_pending (p : Port) (f : Frame) (r : Result) (b : List Byte) : (holdReply p f r b s).pending = s.pending := rfl

/-! ### restartWatchdog -/

@[simp] theorem restartWatchdog_ports : (restartWatchdog s).ports = s.ports := rfl
@[simp] theorem restartWatchdog_terminals : (restartWatchdog s).terminals = s.terminals := rfl
@[simp] theorem restartWatchdog_settings : (restartWatchdog s).settings = s.settings := rfl
@[simp] theorem restartWatchdog_store : (restartWatchdog s).store = s.store := rfl
@[simp] theorem restartWatchdog_access : (restartWatchdog s).access = s.access := rfl
@[simp] theorem restartWatchdog_passage : (restartWatchdog s).passage = s.passage := rfl
@[simp] theorem restartWatchdog_muster : (restartWatchdog s).muster = s.muster := rfl
@[simp] theorem restartWatchdog_clock : (restartWatchdog s).clock = s.clock := rfl
@[simp] theorem restartWatchdog_folios : (restartWatchdog s).folios = s.folios := rfl
@[simp] theorem restartWatchdog_charge : (restartWatchdog s).charge = s.charge := rfl
@[simp] theorem restartWatchdog_tabs : (restartWatchdog s).tabs = s.tabs := rfl
@[simp] theorem restartWatchdog_notice : (restartWatchdog s).notice = s.notice := rfl
@[simp] theorem restartWatchdog_pending : (restartWatchdog s).pending = s.pending := rfl

/-! ### discardWrite -/

@[simp] theorem discardWrite_ports (n : Nat) : (discardWrite n s).ports = s.ports := rfl
@[simp] theorem discardWrite_terminals (n : Nat) : (discardWrite n s).terminals = s.terminals := rfl
@[simp] theorem discardWrite_settings (n : Nat) : (discardWrite n s).settings = s.settings := rfl
@[simp] theorem discardWrite_store (n : Nat) : (discardWrite n s).store = s.store := rfl
@[simp] theorem discardWrite_access (n : Nat) : (discardWrite n s).access = s.access := rfl
@[simp] theorem discardWrite_passage (n : Nat) : (discardWrite n s).passage = s.passage := rfl
@[simp] theorem discardWrite_muster (n : Nat) : (discardWrite n s).muster = s.muster := rfl
@[simp] theorem discardWrite_clock (n : Nat) : (discardWrite n s).clock = s.clock := rfl
@[simp] theorem discardWrite_folios (n : Nat) : (discardWrite n s).folios = s.folios := rfl
@[simp] theorem discardWrite_charge (n : Nat) : (discardWrite n s).charge = s.charge := rfl
@[simp] theorem discardWrite_tabs (n : Nat) : (discardWrite n s).tabs = s.tabs := rfl
@[simp] theorem discardWrite_notice (n : Nat) : (discardWrite n s).notice = s.notice := rfl
@[simp] theorem discardWrite_pending (n : Nat) : (discardWrite n s).pending = s.pending := rfl

/-! ### takeWrite -/

@[simp] theorem takeWrite_ports (k : Byte) (b : List Byte) : (takeWrite k b s).ports = s.ports := rfl
@[simp] theorem takeWrite_terminals (k : Byte) (b : List Byte) : (takeWrite k b s).terminals = s.terminals := rfl
@[simp] theorem takeWrite_settings (k : Byte) (b : List Byte) : (takeWrite k b s).settings = s.settings := rfl
@[simp] theorem takeWrite_store (k : Byte) (b : List Byte) : (takeWrite k b s).store = s.store := rfl
@[simp] theorem takeWrite_access (k : Byte) (b : List Byte) : (takeWrite k b s).access = s.access := rfl
@[simp] theorem takeWrite_passage (k : Byte) (b : List Byte) : (takeWrite k b s).passage = s.passage := rfl
@[simp] theorem takeWrite_muster (k : Byte) (b : List Byte) : (takeWrite k b s).muster = s.muster := rfl
@[simp] theorem takeWrite_clock (k : Byte) (b : List Byte) : (takeWrite k b s).clock = s.clock := rfl
@[simp] theorem takeWrite_folios (k : Byte) (b : List Byte) : (takeWrite k b s).folios = s.folios := rfl
@[simp] theorem takeWrite_charge (k : Byte) (b : List Byte) : (takeWrite k b s).charge = s.charge := rfl
@[simp] theorem takeWrite_tabs (k : Byte) (b : List Byte) : (takeWrite k b s).tabs = s.tabs := rfl
@[simp] theorem takeWrite_notice (k : Byte) (b : List Byte) : (takeWrite k b s).notice = s.notice := rfl
@[simp] theorem takeWrite_pending (k : Byte) (b : List Byte) : (takeWrite k b s).pending = s.pending := rfl

/-! ### setService -/

@[simp] theorem setService_ports (v : Service) (e : Option Nat) : (setService v e s).ports = s.ports := rfl
@[simp] theorem setService_terminals (v : Service) (e : Option Nat) : (setService v e s).terminals = s.terminals := rfl
@[simp] theorem setService_settings (v : Service) (e : Option Nat) : (setService v e s).settings = s.settings := rfl
@[simp] theorem setService_store (v : Service) (e : Option Nat) : (setService v e s).store = s.store := rfl
@[simp] theorem setService_access (v : Service) (e : Option Nat) : (setService v e s).access = s.access := rfl
@[simp] theorem setService_passage (v : Service) (e : Option Nat) : (setService v e s).passage = s.passage := rfl
@[simp] theorem setService_muster (v : Service) (e : Option Nat) : (setService v e s).muster = s.muster := rfl
@[simp] theorem setService_clock (v : Service) (e : Option Nat) : (setService v e s).clock = s.clock := rfl
@[simp] theorem setService_folios (v : Service) (e : Option Nat) : (setService v e s).folios = s.folios := rfl
@[simp] theorem setService_charge (v : Service) (e : Option Nat) : (setService v e s).charge = s.charge := rfl
@[simp] theorem setService_tabs (v : Service) (e : Option Nat) : (setService v e s).tabs = s.tabs := rfl
@[simp] theorem setService_notice (v : Service) (e : Option Nat) : (setService v e s).notice = s.notice := rfl
@[simp] theorem setService_pending (v : Service) (e : Option Nat) : (setService v e s).pending = s.pending := rfl

/-! ### freeTab -/

@[simp] theorem freeTab_ports (entry : Nat) : (freeTab entry s).ports = s.ports := rfl
@[simp] theorem freeTab_terminals (entry : Nat) : (freeTab entry s).terminals = s.terminals := rfl
@[simp] theorem freeTab_management (entry : Nat) : (freeTab entry s).management = s.management := rfl
@[simp] theorem freeTab_settings (entry : Nat) : (freeTab entry s).settings = s.settings := rfl
@[simp] theorem freeTab_store (entry : Nat) : (freeTab entry s).store = s.store := rfl
@[simp] theorem freeTab_access (entry : Nat) : (freeTab entry s).access = s.access := rfl
@[simp] theorem freeTab_passage (entry : Nat) : (freeTab entry s).passage = s.passage := rfl
@[simp] theorem freeTab_muster (entry : Nat) : (freeTab entry s).muster = s.muster := rfl
@[simp] theorem freeTab_clock (entry : Nat) : (freeTab entry s).clock = s.clock := rfl
@[simp] theorem freeTab_folios (entry : Nat) : (freeTab entry s).folios = s.folios := rfl
@[simp] theorem freeTab_charge (entry : Nat) : (freeTab entry s).charge = s.charge := rfl
@[simp] theorem freeTab_notice (entry : Nat) : (freeTab entry s).notice = s.notice := rfl
@[simp] theorem freeTab_pending (entry : Nat) : (freeTab entry s).pending = s.pending := rfl

/-! ### setPhase -/

@[simp] theorem setPhase_ports (p : Phase) : (setPhase p s).ports = s.ports := rfl
@[simp] theorem setPhase_terminals (p : Phase) : (setPhase p s).terminals = s.terminals := rfl
@[simp] theorem setPhase_management (p : Phase) : (setPhase p s).management = s.management := rfl
@[simp] theorem setPhase_settings (p : Phase) : (setPhase p s).settings = s.settings := rfl
@[simp] theorem setPhase_store (p : Phase) : (setPhase p s).store = s.store := rfl
@[simp] theorem setPhase_access (p : Phase) : (setPhase p s).access = s.access := rfl
@[simp] theorem setPhase_passage (p : Phase) : (setPhase p s).passage = s.passage := rfl
@[simp] theorem setPhase_clock (p : Phase) : (setPhase p s).clock = s.clock := rfl
@[simp] theorem setPhase_folios (p : Phase) : (setPhase p s).folios = s.folios := rfl
@[simp] theorem setPhase_charge (p : Phase) : (setPhase p s).charge = s.charge := rfl
@[simp] theorem setPhase_tabs (p : Phase) : (setPhase p s).tabs = s.tabs := rfl
@[simp] theorem setPhase_notice (p : Phase) : (setPhase p s).notice = s.notice := rfl
@[simp] theorem setPhase_pending (p : Phase) : (setPhase p s).pending = s.pending := rfl

/-! ### tick -/

@[simp] theorem tick_ports : (tick s).ports = s.ports := rfl
@[simp] theorem tick_terminals : (tick s).terminals = s.terminals := rfl
@[simp] theorem tick_management : (tick s).management = s.management := rfl
@[simp] theorem tick_settings : (tick s).settings = s.settings := rfl
@[simp] theorem tick_store : (tick s).store = s.store := rfl
@[simp] theorem tick_access : (tick s).access = s.access := rfl
@[simp] theorem tick_passage : (tick s).passage = s.passage := rfl
@[simp] theorem tick_muster : (tick s).muster = s.muster := rfl
@[simp] theorem tick_folios : (tick s).folios = s.folios := rfl
@[simp] theorem tick_charge : (tick s).charge = s.charge := rfl
@[simp] theorem tick_tabs : (tick s).tabs = s.tabs := rfl
@[simp] theorem tick_notice : (tick s).notice = s.notice := rfl
@[simp] theorem tick_pending : (tick s).pending = s.pending := rfl
@[simp] theorem tick_clock : (tick s).clock = s.clock.tick := rfl

/-! ### State.replied -/

@[simp] theorem State.replied_ports (k : Byte) (b : List Byte) (c : ReplyCode) (r : List Byte) : (s.replied k b c r).ports = s.ports := rfl
@[simp] theorem State.replied_terminals (k : Byte) (b : List Byte) (c : ReplyCode) (r : List Byte) : (s.replied k b c r).terminals = s.terminals := rfl
@[simp] theorem State.replied_settings (k : Byte) (b : List Byte) (c : ReplyCode) (r : List Byte) : (s.replied k b c r).settings = s.settings := rfl
@[simp] theorem State.replied_store (k : Byte) (b : List Byte) (c : ReplyCode) (r : List Byte) : (s.replied k b c r).store = s.store := rfl
@[simp] theorem State.replied_access (k : Byte) (b : List Byte) (c : ReplyCode) (r : List Byte) : (s.replied k b c r).access = s.access := rfl
@[simp] theorem State.replied_passage (k : Byte) (b : List Byte) (c : ReplyCode) (r : List Byte) : (s.replied k b c r).passage = s.passage := rfl
@[simp] theorem State.replied_muster (k : Byte) (b : List Byte) (c : ReplyCode) (r : List Byte) : (s.replied k b c r).muster = s.muster := rfl
@[simp] theorem State.replied_clock (k : Byte) (b : List Byte) (c : ReplyCode) (r : List Byte) : (s.replied k b c r).clock = s.clock := rfl
@[simp] theorem State.replied_folios (k : Byte) (b : List Byte) (c : ReplyCode) (r : List Byte) : (s.replied k b c r).folios = s.folios := rfl
@[simp] theorem State.replied_charge (k : Byte) (b : List Byte) (c : ReplyCode) (r : List Byte) : (s.replied k b c r).charge = s.charge := rfl
@[simp] theorem State.replied_tabs (k : Byte) (b : List Byte) (c : ReplyCode) (r : List Byte) : (s.replied k b c r).tabs = s.tabs := rfl
@[simp] theorem State.replied_notice (k : Byte) (b : List Byte) (c : ReplyCode) (r : List Byte) : (s.replied k b c r).notice = s.notice := rfl
@[simp] theorem State.replied_pending (k : Byte) (b : List Byte) (c : ReplyCode) (r : List Byte) : (s.replied k b c r).pending = s.pending := rfl

/-! ### State.answered -/

@[simp] theorem State.answered_terminals (p : Port) (f : Frame) (r : Result) (b : List Byte) : (s.answered p f r b).terminals = s.terminals := rfl
@[simp] theorem State.answered_management (p : Port) (f : Frame) (r : Result) (b : List Byte) : (s.answered p f r b).management = s.management := rfl
@[simp] theorem State.answered_settings (p : Port) (f : Frame) (r : Result) (b : List Byte) : (s.answered p f r b).settings = s.settings := rfl
@[simp] theorem State.answered_store (p : Port) (f : Frame) (r : Result) (b : List Byte) : (s.answered p f r b).store = s.store := rfl
@[simp] theorem State.answered_access (p : Port) (f : Frame) (r : Result) (b : List Byte) : (s.answered p f r b).access = s.access := rfl
@[simp] theorem State.answered_passage (p : Port) (f : Frame) (r : Result) (b : List Byte) : (s.answered p f r b).passage = s.passage := rfl
@[simp] theorem State.answered_muster (p : Port) (f : Frame) (r : Result) (b : List Byte) : (s.answered p f r b).muster = s.muster := rfl
@[simp] theorem State.answered_clock (p : Port) (f : Frame) (r : Result) (b : List Byte) : (s.answered p f r b).clock = s.clock := rfl
@[simp] theorem State.answered_folios (p : Port) (f : Frame) (r : Result) (b : List Byte) : (s.answered p f r b).folios = s.folios := rfl
@[simp] theorem State.answered_charge (p : Port) (f : Frame) (r : Result) (b : List Byte) : (s.answered p f r b).charge = s.charge := rfl
@[simp] theorem State.answered_tabs (p : Port) (f : Frame) (r : Result) (b : List Byte) : (s.answered p f r b).tabs = s.tabs := rfl
@[simp] theorem State.answered_notice (p : Port) (f : Frame) (r : Result) (b : List Byte) : (s.answered p f r b).notice = s.notice := rfl
@[simp] theorem State.answered_pending (p : Port) (f : Frame) (r : Result) (b : List Byte) : (s.answered p f r b).pending = s.pending := rfl

/-! ### Reads of what was written -/

@[simp] theorem State.putRecord_store_eq (slot : Nat) (r : Record) :
    (s.putRecord slot r).store = { s.store with records := s.store.records.put slot r } := rfl

@[simp] theorem State.putFolio_folios_eq (slot : Nat) (f : Folio) : (s.putFolio slot f).folios = s.folios.put slot f := rfl

@[simp] theorem State.dropFolio_folios_eq (slot : Nat) : (s.dropFolio slot).folios = s.folios.drop slot := rfl

@[simp] theorem State.setCounts_counts (m : ByClass (ByLocation Nat)) : (s.setCounts m).passage.counts = m := rfl

@[simp] theorem State.setCounts_watch (m : ByClass (ByLocation Nat)) :
    (s.setCounts m).passage.watch = s.passage.watch := rfl

@[simp] theorem setWatch_watch (w : List WatchEntry) : (setWatch w s).passage.watch = w := rfl

@[simp] theorem setWatch_counts (w : List WatchEntry) : (setWatch w s).passage.counts = s.passage.counts := rfl

@[simp] theorem State.putRecord_record (slot : Nat) (r : Record) : (s.putRecord slot r).record slot = some r :=
  Table.find_put_same _ _ _

theorem State.putRecord_record_other (r : Record) {slot k : Nat} (h : k ≠ slot) :
    (s.putRecord slot r).record k = s.record k :=
  Table.find_put_other _ _ h

@[simp] theorem State.putFolio_folio (slot : Nat) (f : Folio) : (s.putFolio slot f).folio slot = some f :=
  Table.find_put_same _ _ _

theorem State.putFolio_folio_other (f : Folio) {slot k : Nat} (h : k ≠ slot) :
    (s.putFolio slot f).folio k = s.folio k :=
  Table.find_put_other _ _ h

@[simp] theorem State.setPort_port (p : Port) (b : PortBlock) : (s.setPort p b).port p = b := by
  simp [State.setPort, State.port]

theorem State.setPort_port_other (b : PortBlock) {p q : Port} (h : q ≠ p) : (s.setPort p b).port q = s.port q := by
  have hv : p.val ≠ q.val := fun he => h (Fin.ext he.symm)
  simp [State.setPort, State.port, Vector.getElem_set_ne, hv]

/-- A second write of a port is the one that stays. -/
@[simp] theorem State.setPort_setPort (p : Port) (b c : PortBlock) :
    (s.setPort p b).setPort p c = s.setPort p c := by
  simp [State.setPort]

end Sys2Proof.Machine
end

