-- ==== Sys2Proof/Laws/Frames.lean ====
section
/-! SUPPORT. What the composed operations of Ops leave of the state: one lemma for each field that the operation does
not touch. -/

namespace Sys2Proof.Machine

variable (s : State)

/-! ### appendRevocation -/

@[simp] theorem appendRevocation_ports (v : Revocation) : (appendRevocation v s).ports = s.ports := by
  unfold appendRevocation
  repeat' split
  all_goals simp
@[simp] theorem appendRevocation_terminals (v : Revocation) : (appendRevocation v s).terminals = s.terminals := by
  unfold appendRevocation
  repeat' split
  all_goals simp
@[simp] theorem appendRevocation_management (v : Revocation) : (appendRevocation v s).management = s.management := by
  unfold appendRevocation
  repeat' split
  all_goals simp
@[simp] theorem appendRevocation_settings (v : Revocation) : (appendRevocation v s).settings = s.settings := by
  unfold appendRevocation
  repeat' split
  all_goals simp
@[simp] theorem appendRevocation_clock (v : Revocation) : (appendRevocation v s).clock = s.clock := by
  unfold appendRevocation
  repeat' split
  all_goals simp
@[simp] theorem appendRevocation_charge (v : Revocation) : (appendRevocation v s).charge = s.charge := by
  unfold appendRevocation
  repeat' split
  all_goals simp
@[simp] theorem appendRevocation_pending (v : Revocation) : (appendRevocation v s).pending = s.pending := by
  unfold appendRevocation
  repeat' split
  all_goals simp
@[simp] theorem appendRevocation_access (v : Revocation) : (appendRevocation v s).access = s.access := by
  unfold appendRevocation
  repeat' split
  all_goals simp
@[simp] theorem appendRevocation_passage (v : Revocation) : (appendRevocation v s).passage = s.passage := by
  unfold appendRevocation
  repeat' split
  all_goals simp
@[simp] theorem appendRevocation_muster (v : Revocation) : (appendRevocation v s).muster = s.muster := by
  unfold appendRevocation
  repeat' split
  all_goals simp
@[simp] theorem appendRevocation_folios (v : Revocation) : (appendRevocation v s).folios = s.folios := by
  unfold appendRevocation
  repeat' split
  all_goals simp
@[simp] theorem appendRevocation_tabs (v : Revocation) : (appendRevocation v s).tabs = s.tabs := by
  unfold appendRevocation
  repeat' split
  all_goals simp

/-! ### leaveIndex -/

@[simp] theorem leaveIndex_ports (n : Nat) : (leaveIndex n s).ports = s.ports := by
  unfold leaveIndex
  repeat' split
  all_goals simp
@[simp] theorem leaveIndex_terminals (n : Nat) : (leaveIndex n s).terminals = s.terminals := by
  unfold leaveIndex
  repeat' split
  all_goals simp
@[simp] theorem leaveIndex_management (n : Nat) : (leaveIndex n s).management = s.management := by
  unfold leaveIndex
  repeat' split
  all_goals simp
@[simp] theorem leaveIndex_settings (n : Nat) : (leaveIndex n s).settings = s.settings := by
  unfold leaveIndex
  repeat' split
  all_goals simp
@[simp] theorem leaveIndex_clock (n : Nat) : (leaveIndex n s).clock = s.clock := by
  unfold leaveIndex
  repeat' split
  all_goals simp
@[simp] theorem leaveIndex_charge (n : Nat) : (leaveIndex n s).charge = s.charge := by
  unfold leaveIndex
  repeat' split
  all_goals simp
@[simp] theorem leaveIndex_pending (n : Nat) : (leaveIndex n s).pending = s.pending := by
  unfold leaveIndex
  repeat' split
  all_goals simp
@[simp] theorem leaveIndex_access (n : Nat) : (leaveIndex n s).access = s.access := by
  unfold leaveIndex
  repeat' split
  all_goals simp
@[simp] theorem leaveIndex_passage (n : Nat) : (leaveIndex n s).passage = s.passage := by
  unfold leaveIndex
  repeat' split
  all_goals simp
@[simp] theorem leaveIndex_muster (n : Nat) : (leaveIndex n s).muster = s.muster := by
  unfold leaveIndex
  repeat' split
  all_goals simp
@[simp] theorem leaveIndex_folios (n : Nat) : (leaveIndex n s).folios = s.folios := by
  unfold leaveIndex
  repeat' split
  all_goals simp
@[simp] theorem leaveIndex_tabs (n : Nat) : (leaveIndex n s).tabs = s.tabs := by
  unfold leaveIndex
  repeat' split
  all_goals simp

/-! ### revoke -/

@[simp] theorem revoke_ports (slot n : Nat) (y : RevocationReason) : (revoke slot n y s).ports = s.ports := by
  unfold revoke
  repeat' split
  all_goals simp
@[simp] theorem revoke_terminals (slot n : Nat) (y : RevocationReason) : (revoke slot n y s).terminals = s.terminals := by
  unfold revoke
  repeat' split
  all_goals simp
@[simp] theorem revoke_management (slot n : Nat) (y : RevocationReason) : (revoke slot n y s).management = s.management := by
  unfold revoke
  repeat' split
  all_goals simp
@[simp] theorem revoke_settings (slot n : Nat) (y : RevocationReason) : (revoke slot n y s).settings = s.settings := by
  unfold revoke
  repeat' split
  all_goals simp
@[simp] theorem revoke_clock (slot n : Nat) (y : RevocationReason) : (revoke slot n y s).clock = s.clock := by
  unfold revoke
  repeat' split
  all_goals simp
@[simp] theorem revoke_charge (slot n : Nat) (y : RevocationReason) : (revoke slot n y s).charge = s.charge := by
  unfold revoke
  repeat' split
  all_goals simp
@[simp] theorem revoke_pending (slot n : Nat) (y : RevocationReason) : (revoke slot n y s).pending = s.pending := by
  unfold revoke
  repeat' split
  all_goals simp
@[simp] theorem revoke_access (slot n : Nat) (y : RevocationReason) : (revoke slot n y s).access = s.access := by
  unfold revoke
  repeat' split
  all_goals simp
@[simp] theorem revoke_passage (slot n : Nat) (y : RevocationReason) : (revoke slot n y s).passage = s.passage := by
  unfold revoke
  repeat' split
  all_goals simp
@[simp] theorem revoke_muster (slot n : Nat) (y : RevocationReason) : (revoke slot n y s).muster = s.muster := by
  unfold revoke
  repeat' split
  all_goals simp
@[simp] theorem revoke_folios (slot n : Nat) (y : RevocationReason) : (revoke slot n y s).folios = s.folios := by
  unfold revoke
  repeat' split
  all_goals simp
@[simp] theorem revoke_tabs (slot n : Nat) (y : RevocationReason) : (revoke slot n y s).tabs = s.tabs := by
  unfold revoke
  repeat' split
  all_goals simp

/-! ### endReservation -/

@[simp] theorem endReservation_ports (slot : Nat) (r : Record) (v : Reservation) : (endReservation slot r v s).ports = s.ports := by
  simp [endReservation]
@[simp] theorem endReservation_terminals (slot : Nat) (r : Record) (v : Reservation) : (endReservation slot r v s).terminals = s.terminals := by
  simp [endReservation]
@[simp] theorem endReservation_management (slot : Nat) (r : Record) (v : Reservation) : (endReservation slot r v s).management = s.management := by
  simp [endReservation]
@[simp] theorem endReservation_settings (slot : Nat) (r : Record) (v : Reservation) : (endReservation slot r v s).settings = s.settings := by
  simp [endReservation]
@[simp] theorem endReservation_clock (slot : Nat) (r : Record) (v : Reservation) : (endReservation slot r v s).clock = s.clock := by
  simp [endReservation]
@[simp] theorem endReservation_charge (slot : Nat) (r : Record) (v : Reservation) : (endReservation slot r v s).charge = s.charge := by
  simp [endReservation]
@[simp] theorem endReservation_pending (slot : Nat) (r : Record) (v : Reservation) : (endReservation slot r v s).pending = s.pending := by
  simp [endReservation]
@[simp] theorem endReservation_access (slot : Nat) (r : Record) (v : Reservation) : (endReservation slot r v s).access = s.access := by
  simp [endReservation]
@[simp] theorem endReservation_passage (slot : Nat) (r : Record) (v : Reservation) : (endReservation slot r v s).passage = s.passage := by
  simp [endReservation]
@[simp] theorem endReservation_muster (slot : Nat) (r : Record) (v : Reservation) : (endReservation slot r v s).muster = s.muster := by
  simp [endReservation]
@[simp] theorem endReservation_folios (slot : Nat) (r : Record) (v : Reservation) : (endReservation slot r v s).folios = s.folios := by
  simp [endReservation]
@[simp] theorem endReservation_tabs (slot : Nat) (r : Record) (v : Reservation) : (endReservation slot r v s).tabs = s.tabs := by
  simp [endReservation]

/-! ### consumeMessage -/

@[simp] theorem consumeMessage_ports (slot : Nat) (r : Record) : (consumeMessage slot r s).ports = s.ports := by
  unfold consumeMessage
  repeat' split
  all_goals simp
@[simp] theorem consumeMessage_terminals (slot : Nat) (r : Record) : (consumeMessage slot r s).terminals = s.terminals := by
  unfold consumeMessage
  repeat' split
  all_goals simp
@[simp] theorem consumeMessage_management (slot : Nat) (r : Record) : (consumeMessage slot r s).management = s.management := by
  unfold consumeMessage
  repeat' split
  all_goals simp
@[simp] theorem consumeMessage_settings (slot : Nat) (r : Record) : (consumeMessage slot r s).settings = s.settings := by
  unfold consumeMessage
  repeat' split
  all_goals simp
@[simp] theorem consumeMessage_clock (slot : Nat) (r : Record) : (consumeMessage slot r s).clock = s.clock := by
  unfold consumeMessage
  repeat' split
  all_goals simp
@[simp] theorem consumeMessage_charge (slot : Nat) (r : Record) : (consumeMessage slot r s).charge = s.charge := by
  unfold consumeMessage
  repeat' split
  all_goals simp
@[simp] theorem consumeMessage_pending (slot : Nat) (r : Record) : (consumeMessage slot r s).pending = s.pending := by
  unfold consumeMessage
  repeat' split
  all_goals simp
@[simp] theorem consumeMessage_access (slot : Nat) (r : Record) : (consumeMessage slot r s).access = s.access := by
  unfold consumeMessage
  repeat' split
  all_goals simp
@[simp] theorem consumeMessage_passage (slot : Nat) (r : Record) : (consumeMessage slot r s).passage = s.passage := by
  unfold consumeMessage
  repeat' split
  all_goals simp
@[simp] theorem consumeMessage_muster (slot : Nat) (r : Record) : (consumeMessage slot r s).muster = s.muster := by
  unfold consumeMessage
  repeat' split
  all_goals simp
@[simp] theorem consumeMessage_folios (slot : Nat) (r : Record) : (consumeMessage slot r s).folios = s.folios := by
  unfold consumeMessage
  repeat' split
  all_goals simp
@[simp] theorem consumeMessage_tabs (slot : Nat) (r : Record) : (consumeMessage slot r s).tabs = s.tabs := by
  unfold consumeMessage
  repeat' split
  all_goals simp
@[simp] theorem consumeMessage_notice (slot : Nat) (r : Record) : (consumeMessage slot r s).notice = s.notice := by
  unfold consumeMessage
  repeat' split
  all_goals simp

/-! ### raiseReconciled -/

@[simp] theorem raiseReconciled_ports (a b : Bool) (m : ByClass (ByLocation Nat)) : (raiseReconciled a b m s).ports = s.ports := by
  unfold raiseReconciled
  repeat' split
  all_goals simp
@[simp] theorem raiseReconciled_terminals (a b : Bool) (m : ByClass (ByLocation Nat)) : (raiseReconciled a b m s).terminals = s.terminals := by
  unfold raiseReconciled
  repeat' split
  all_goals simp
@[simp] theorem raiseReconciled_management (a b : Bool) (m : ByClass (ByLocation Nat)) : (raiseReconciled a b m s).management = s.management := by
  unfold raiseReconciled
  repeat' split
  all_goals simp
@[simp] theorem raiseReconciled_settings (a b : Bool) (m : ByClass (ByLocation Nat)) : (raiseReconciled a b m s).settings = s.settings := by
  unfold raiseReconciled
  repeat' split
  all_goals simp
@[simp] theorem raiseReconciled_clock (a b : Bool) (m : ByClass (ByLocation Nat)) : (raiseReconciled a b m s).clock = s.clock := by
  unfold raiseReconciled
  repeat' split
  all_goals simp
@[simp] theorem raiseReconciled_charge (a b : Bool) (m : ByClass (ByLocation Nat)) : (raiseReconciled a b m s).charge = s.charge := by
  unfold raiseReconciled
  repeat' split
  all_goals simp
@[simp] theorem raiseReconciled_pending (a b : Bool) (m : ByClass (ByLocation Nat)) : (raiseReconciled a b m s).pending = s.pending := by
  unfold raiseReconciled
  repeat' split
  all_goals simp
@[simp] theorem raiseReconciled_store (a b : Bool) (m : ByClass (ByLocation Nat)) : (raiseReconciled a b m s).store = s.store := by
  unfold raiseReconciled
  repeat' split
  all_goals simp
@[simp] theorem raiseReconciled_access (a b : Bool) (m : ByClass (ByLocation Nat)) : (raiseReconciled a b m s).access = s.access := by
  unfold raiseReconciled
  repeat' split
  all_goals simp
@[simp] theorem raiseReconciled_passage (a b : Bool) (m : ByClass (ByLocation Nat)) : (raiseReconciled a b m s).passage = s.passage := by
  unfold raiseReconciled
  repeat' split
  all_goals simp
@[simp] theorem raiseReconciled_muster (a b : Bool) (m : ByClass (ByLocation Nat)) : (raiseReconciled a b m s).muster = s.muster := by
  unfold raiseReconciled
  repeat' split
  all_goals simp
@[simp] theorem raiseReconciled_folios (a b : Bool) (m : ByClass (ByLocation Nat)) : (raiseReconciled a b m s).folios = s.folios := by
  unfold raiseReconciled
  repeat' split
  all_goals simp
@[simp] theorem raiseReconciled_tabs (a b : Bool) (m : ByClass (ByLocation Nat)) : (raiseReconciled a b m s).tabs = s.tabs := by
  unfold raiseReconciled
  repeat' split
  all_goals simp

/-! ### reconcile -/

@[simp] theorem reconcile_ports (m : ByClass (ByLocation Nat)) : (reconcile m s).ports = s.ports := by
  unfold reconcile
  repeat' split
  all_goals simp
@[simp] theorem reconcile_terminals (m : ByClass (ByLocation Nat)) : (reconcile m s).terminals = s.terminals := by
  unfold reconcile
  repeat' split
  all_goals simp
@[simp] theorem reconcile_management (m : ByClass (ByLocation Nat)) : (reconcile m s).management = s.management := by
  unfold reconcile
  repeat' split
  all_goals simp
@[simp] theorem reconcile_settings (m : ByClass (ByLocation Nat)) : (reconcile m s).settings = s.settings := by
  unfold reconcile
  repeat' split
  all_goals simp
@[simp] theorem reconcile_clock (m : ByClass (ByLocation Nat)) : (reconcile m s).clock = s.clock := by
  unfold reconcile
  repeat' split
  all_goals simp
@[simp] theorem reconcile_charge (m : ByClass (ByLocation Nat)) : (reconcile m s).charge = s.charge := by
  unfold reconcile
  repeat' split
  all_goals simp
@[simp] theorem reconcile_pending (m : ByClass (ByLocation Nat)) : (reconcile m s).pending = s.pending := by
  unfold reconcile
  repeat' split
  all_goals simp
@[simp] theorem reconcile_store (m : ByClass (ByLocation Nat)) : (reconcile m s).store = s.store := by
  unfold reconcile
  repeat' split
  all_goals simp
@[simp] theorem reconcile_access (m : ByClass (ByLocation Nat)) : (reconcile m s).access = s.access := by
  unfold reconcile
  repeat' split
  all_goals simp
@[simp] theorem reconcile_passage (m : ByClass (ByLocation Nat)) : (reconcile m s).passage = s.passage := by
  unfold reconcile
  repeat' split
  all_goals simp
@[simp] theorem reconcile_muster (m : ByClass (ByLocation Nat)) : (reconcile m s).muster = s.muster := by
  unfold reconcile
  repeat' split
  all_goals simp
@[simp] theorem reconcile_folios (m : ByClass (ByLocation Nat)) : (reconcile m s).folios = s.folios := by
  unfold reconcile
  repeat' split
  all_goals simp
@[simp] theorem reconcile_tabs (m : ByClass (ByLocation Nat)) : (reconcile m s).tabs = s.tabs := by
  unfold reconcile
  repeat' split
  all_goals simp

/-! ### enterCutoff -/

@[simp] theorem enterCutoff_ports : (enterCutoff s).ports = s.ports := by
  simp [enterCutoff]
@[simp] theorem enterCutoff_terminals : (enterCutoff s).terminals = s.terminals := by
  simp [enterCutoff]
@[simp] theorem enterCutoff_management : (enterCutoff s).management = s.management := by
  simp [enterCutoff]
@[simp] theorem enterCutoff_settings : (enterCutoff s).settings = s.settings := by
  simp [enterCutoff]
@[simp] theorem enterCutoff_clock : (enterCutoff s).clock = s.clock := by
  simp [enterCutoff]
@[simp] theorem enterCutoff_charge : (enterCutoff s).charge = s.charge := by
  simp [enterCutoff]
@[simp] theorem enterCutoff_pending : (enterCutoff s).pending = s.pending := by
  simp [enterCutoff]
@[simp] theorem enterCutoff_store : (enterCutoff s).store = s.store := by
  simp [enterCutoff]
@[simp] theorem enterCutoff_access : (enterCutoff s).access = s.access := by
  simp [enterCutoff]
@[simp] theorem enterCutoff_passage : (enterCutoff s).passage = s.passage := by
  simp [enterCutoff]
@[simp] theorem enterCutoff_muster : (enterCutoff s).muster = s.muster := by
  simp [enterCutoff]
@[simp] theorem enterCutoff_folios : (enterCutoff s).folios = s.folios := by
  simp [enterCutoff]
@[simp] theorem enterCutoff_tabs : (enterCutoff s).tabs = s.tabs := by
  simp [enterCutoff]

/-! ### enterWatch -/

@[simp] theorem enterWatch_ports (slot : Nat) (h : Hit) : (enterWatch slot h s).ports = s.ports := by
  unfold enterWatch
  repeat' split
  all_goals simp
@[simp] theorem enterWatch_terminals (slot : Nat) (h : Hit) : (enterWatch slot h s).terminals = s.terminals := by
  unfold enterWatch
  repeat' split
  all_goals simp
@[simp] theorem enterWatch_management (slot : Nat) (h : Hit) : (enterWatch slot h s).management = s.management := by
  unfold enterWatch
  repeat' split
  all_goals simp
@[simp] theorem enterWatch_settings (slot : Nat) (h : Hit) : (enterWatch slot h s).settings = s.settings := by
  unfold enterWatch
  repeat' split
  all_goals simp
@[simp] theorem enterWatch_clock (slot : Nat) (h : Hit) : (enterWatch slot h s).clock = s.clock := by
  unfold enterWatch
  repeat' split
  all_goals simp
@[simp] theorem enterWatch_charge (slot : Nat) (h : Hit) : (enterWatch slot h s).charge = s.charge := by
  unfold enterWatch
  repeat' split
  all_goals simp
@[simp] theorem enterWatch_pending (slot : Nat) (h : Hit) : (enterWatch slot h s).pending = s.pending := by
  unfold enterWatch
  repeat' split
  all_goals simp
@[simp] theorem enterWatch_store (slot : Nat) (h : Hit) : (enterWatch slot h s).store = s.store := by
  unfold enterWatch
  repeat' split
  all_goals simp
@[simp] theorem enterWatch_access (slot : Nat) (h : Hit) : (enterWatch slot h s).access = s.access := by
  unfold enterWatch
  repeat' split
  all_goals simp
@[simp] theorem enterWatch_muster (slot : Nat) (h : Hit) : (enterWatch slot h s).muster = s.muster := by
  unfold enterWatch
  repeat' split
  all_goals simp
@[simp] theorem enterWatch_folios (slot : Nat) (h : Hit) : (enterWatch slot h s).folios = s.folios := by
  unfold enterWatch
  repeat' split
  all_goals simp
@[simp] theorem enterWatch_tabs (slot : Nat) (h : Hit) : (enterWatch slot h s).tabs = s.tabs := by
  unfold enterWatch
  repeat' split
  all_goals simp

/-! ### leaveMuster -/

@[simp] theorem leaveMuster_ports (slot : Nat) (r : Record) : (leaveMuster slot r s).ports = s.ports := by
  unfold leaveMuster
  repeat' split
  all_goals simp
@[simp] theorem leaveMuster_terminals (slot : Nat) (r : Record) : (leaveMuster slot r s).terminals = s.terminals := by
  unfold leaveMuster
  repeat' split
  all_goals simp
@[simp] theorem leaveMuster_management (slot : Nat) (r : Record) : (leaveMuster slot r s).management = s.management := by
  unfold leaveMuster
  repeat' split
  all_goals simp
@[simp] theorem leaveMuster_settings (slot : Nat) (r : Record) : (leaveMuster slot r s).settings = s.settings := by
  unfold leaveMuster
  repeat' split
  all_goals simp
@[simp] theorem leaveMuster_clock (slot : Nat) (r : Record) : (leaveMuster slot r s).clock = s.clock := by
  unfold leaveMuster
  repeat' split
  all_goals simp
@[simp] theorem leaveMuster_charge (slot : Nat) (r : Record) : (leaveMuster slot r s).charge = s.charge := by
  unfold leaveMuster
  repeat' split
  all_goals simp
@[simp] theorem leaveMuster_pending (slot : Nat) (r : Record) : (leaveMuster slot r s).pending = s.pending := by
  unfold leaveMuster
  repeat' split
  all_goals simp
@[simp] theorem leaveMuster_access (slot : Nat) (r : Record) : (leaveMuster slot r s).access = s.access := by
  unfold leaveMuster
  repeat' split
  all_goals simp
@[simp] theorem leaveMuster_passage (slot : Nat) (r : Record) : (leaveMuster slot r s).passage = s.passage := by
  unfold leaveMuster
  repeat' split
  all_goals simp
@[simp] theorem leaveMuster_folios (slot : Nat) (r : Record) : (leaveMuster slot r s).folios = s.folios := by
  unfold leaveMuster
  repeat' split
  all_goals simp
@[simp] theorem leaveMuster_tabs (slot : Nat) (r : Record) : (leaveMuster slot r s).tabs = s.tabs := by
  unfold leaveMuster
  repeat' split
  all_goals simp
@[simp] theorem leaveMuster_notice (slot : Nat) (r : Record) : (leaveMuster slot r s).notice = s.notice := by
  unfold leaveMuster
  repeat' split
  all_goals simp

/-! ### changeLocation -/

@[simp] theorem changeLocation_ports (slot : Nat) (r : Record) (l : Location) : (changeLocation slot r l s).ports = s.ports := by
  unfold changeLocation
  repeat' split
  all_goals simp
@[simp] theorem changeLocation_terminals (slot : Nat) (r : Record) (l : Location) : (changeLocation slot r l s).terminals = s.terminals := by
  unfold changeLocation
  repeat' split
  all_goals simp
@[simp] theorem changeLocation_management (slot : Nat) (r : Record) (l : Location) : (changeLocation slot r l s).management = s.management := by
  unfold changeLocation
  repeat' split
  all_goals simp
@[simp] theorem changeLocation_settings (slot : Nat) (r : Record) (l : Location) : (changeLocation slot r l s).settings = s.settings := by
  unfold changeLocation
  repeat' split
  all_goals simp
@[simp] theorem changeLocation_clock (slot : Nat) (r : Record) (l : Location) : (changeLocation slot r l s).clock = s.clock := by
  unfold changeLocation
  repeat' split
  all_goals simp
@[simp] theorem changeLocation_charge (slot : Nat) (r : Record) (l : Location) : (changeLocation slot r l s).charge = s.charge := by
  unfold changeLocation
  repeat' split
  all_goals simp
@[simp] theorem changeLocation_pending (slot : Nat) (r : Record) (l : Location) : (changeLocation slot r l s).pending = s.pending := by
  unfold changeLocation
  repeat' split
  all_goals simp
@[simp] theorem changeLocation_access (slot : Nat) (r : Record) (l : Location) : (changeLocation slot r l s).access = s.access := by
  unfold changeLocation
  repeat' split
  all_goals simp
@[simp] theorem changeLocation_folios (slot : Nat) (r : Record) (l : Location) : (changeLocation slot r l s).folios = s.folios := by
  unfold changeLocation
  repeat' split
  all_goals simp
@[simp] theorem changeLocation_tabs (slot : Nat) (r : Record) (l : Location) : (changeLocation slot r l s).tabs = s.tabs := by
  unfold changeLocation
  repeat' split
  all_goals simp

/-! ### setLastPassage -/

@[simp] theorem setLastPassage_ports (slot : Nat) (x : Option Passage) : (setLastPassage slot x s).ports = s.ports := by
  unfold setLastPassage
  repeat' split
  all_goals simp
@[simp] theorem setLastPassage_terminals (slot : Nat) (x : Option Passage) : (setLastPassage slot x s).terminals = s.terminals := by
  unfold setLastPassage
  repeat' split
  all_goals simp
@[simp] theorem setLastPassage_management (slot : Nat) (x : Option Passage) : (setLastPassage slot x s).management = s.management := by
  unfold setLastPassage
  repeat' split
  all_goals simp
@[simp] theorem setLastPassage_settings (slot : Nat) (x : Option Passage) : (setLastPassage slot x s).settings = s.settings := by
  unfold setLastPassage
  repeat' split
  all_goals simp
@[simp] theorem setLastPassage_clock (slot : Nat) (x : Option Passage) : (setLastPassage slot x s).clock = s.clock := by
  unfold setLastPassage
  repeat' split
  all_goals simp
@[simp] theorem setLastPassage_charge (slot : Nat) (x : Option Passage) : (setLastPassage slot x s).charge = s.charge := by
  unfold setLastPassage
  repeat' split
  all_goals simp
@[simp] theorem setLastPassage_pending (slot : Nat) (x : Option Passage) : (setLastPassage slot x s).pending = s.pending := by
  unfold setLastPassage
  repeat' split
  all_goals simp
@[simp] theorem setLastPassage_access (slot : Nat) (x : Option Passage) : (setLastPassage slot x s).access = s.access := by
  unfold setLastPassage
  repeat' split
  all_goals simp
@[simp] theorem setLastPassage_passage (slot : Nat) (x : Option Passage) : (setLastPassage slot x s).passage = s.passage := by
  unfold setLastPassage
  repeat' split
  all_goals simp
@[simp] theorem setLastPassage_muster (slot : Nat) (x : Option Passage) : (setLastPassage slot x s).muster = s.muster := by
  unfold setLastPassage
  repeat' split
  all_goals simp
@[simp] theorem setLastPassage_folios (slot : Nat) (x : Option Passage) : (setLastPassage slot x s).folios = s.folios := by
  unfold setLastPassage
  repeat' split
  all_goals simp
@[simp] theorem setLastPassage_tabs (slot : Nat) (x : Option Passage) : (setLastPassage slot x s).tabs = s.tabs := by
  unfold setLastPassage
  repeat' split
  all_goals simp
@[simp] theorem setLastPassage_notice (slot : Nat) (x : Option Passage) : (setLastPassage slot x s).notice = s.notice := by
  unfold setLastPassage
  repeat' split
  all_goals simp

/-! ### leaveCabin -/

@[simp] theorem leaveCabin_ports (slot n : Nat) : (leaveCabin slot n s).ports = s.ports := rfl
@[simp] theorem leaveCabin_terminals (slot n : Nat) : (leaveCabin slot n s).terminals = s.terminals := rfl
@[simp] theorem leaveCabin_management (slot n : Nat) : (leaveCabin slot n s).management = s.management := rfl
@[simp] theorem leaveCabin_settings (slot n : Nat) : (leaveCabin slot n s).settings = s.settings := rfl
@[simp] theorem leaveCabin_clock (slot n : Nat) : (leaveCabin slot n s).clock = s.clock := rfl
@[simp] theorem leaveCabin_charge (slot n : Nat) : (leaveCabin slot n s).charge = s.charge := rfl
@[simp] theorem leaveCabin_pending (slot n : Nat) : (leaveCabin slot n s).pending = s.pending := rfl
@[simp] theorem leaveCabin_store (slot n : Nat) : (leaveCabin slot n s).store = s.store := rfl
@[simp] theorem leaveCabin_passage (slot n : Nat) : (leaveCabin slot n s).passage = s.passage := rfl
@[simp] theorem leaveCabin_muster (slot n : Nat) : (leaveCabin slot n s).muster = s.muster := rfl
@[simp] theorem leaveCabin_folios (slot n : Nat) : (leaveCabin slot n s).folios = s.folios := rfl
@[simp] theorem leaveCabin_tabs (slot n : Nat) : (leaveCabin slot n s).tabs = s.tabs := rfl
@[simp] theorem leaveCabin_notice (slot n : Nat) : (leaveCabin slot n s).notice = s.notice := rfl

/-! ### leaveCabin? -/

@[simp] theorem leaveCabin_of_ports (slot : Nat) (n : Option Nat) : (leaveCabin? slot n s).ports = s.ports := by
  unfold leaveCabin?
  repeat' split
  all_goals simp
@[simp] theorem leaveCabin_of_terminals (slot : Nat) (n : Option Nat) : (leaveCabin? slot n s).terminals = s.terminals := by
  unfold leaveCabin?
  repeat' split
  all_goals simp
@[simp] theorem leaveCabin_of_management (slot : Nat) (n : Option Nat) : (leaveCabin? slot n s).management = s.management := by
  unfold leaveCabin?
  repeat' split
  all_goals simp
@[simp] theorem leaveCabin_of_settings (slot : Nat) (n : Option Nat) : (leaveCabin? slot n s).settings = s.settings := by
  unfold leaveCabin?
  repeat' split
  all_goals simp
@[simp] theorem leaveCabin_of_clock (slot : Nat) (n : Option Nat) : (leaveCabin? slot n s).clock = s.clock := by
  unfold leaveCabin?
  repeat' split
  all_goals simp
@[simp] theorem leaveCabin_of_charge (slot : Nat) (n : Option Nat) : (leaveCabin? slot n s).charge = s.charge := by
  unfold leaveCabin?
  repeat' split
  all_goals simp
@[simp] theorem leaveCabin_of_pending (slot : Nat) (n : Option Nat) : (leaveCabin? slot n s).pending = s.pending := by
  unfold leaveCabin?
  repeat' split
  all_goals simp
@[simp] theorem leaveCabin_of_store (slot : Nat) (n : Option Nat) : (leaveCabin? slot n s).store = s.store := by
  unfold leaveCabin?
  repeat' split
  all_goals simp
@[simp] theorem leaveCabin_of_passage (slot : Nat) (n : Option Nat) : (leaveCabin? slot n s).passage = s.passage := by
  unfold leaveCabin?
  repeat' split
  all_goals simp
@[simp] theorem leaveCabin_of_muster (slot : Nat) (n : Option Nat) : (leaveCabin? slot n s).muster = s.muster := by
  unfold leaveCabin?
  repeat' split
  all_goals simp
@[simp] theorem leaveCabin_of_folios (slot : Nat) (n : Option Nat) : (leaveCabin? slot n s).folios = s.folios := by
  unfold leaveCabin?
  repeat' split
  all_goals simp
@[simp] theorem leaveCabin_of_tabs (slot : Nat) (n : Option Nat) : (leaveCabin? slot n s).tabs = s.tabs := by
  unfold leaveCabin?
  repeat' split
  all_goals simp
@[simp] theorem leaveCabin_of_notice (slot : Nat) (n : Option Nat) : (leaveCabin? slot n s).notice = s.notice := by
  unfold leaveCabin?
  repeat' split
  all_goals simp

/-! ### storeReevaluated -/

@[simp] theorem storeReevaluated_ports (slot : Nat) (f : Folio) : (storeReevaluated slot f s).ports = s.ports := by
  unfold storeReevaluated
  repeat' split
  all_goals simp
@[simp] theorem storeReevaluated_terminals (slot : Nat) (f : Folio) : (storeReevaluated slot f s).terminals = s.terminals := by
  unfold storeReevaluated
  repeat' split
  all_goals simp
@[simp] theorem storeReevaluated_management (slot : Nat) (f : Folio) : (storeReevaluated slot f s).management = s.management := by
  unfold storeReevaluated
  repeat' split
  all_goals simp
@[simp] theorem storeReevaluated_settings (slot : Nat) (f : Folio) : (storeReevaluated slot f s).settings = s.settings := by
  unfold storeReevaluated
  repeat' split
  all_goals simp
@[simp] theorem storeReevaluated_clock (slot : Nat) (f : Folio) : (storeReevaluated slot f s).clock = s.clock := by
  unfold storeReevaluated
  repeat' split
  all_goals simp
@[simp] theorem storeReevaluated_charge (slot : Nat) (f : Folio) : (storeReevaluated slot f s).charge = s.charge := by
  unfold storeReevaluated
  repeat' split
  all_goals simp
@[simp] theorem storeReevaluated_pending (slot : Nat) (f : Folio) : (storeReevaluated slot f s).pending = s.pending := by
  unfold storeReevaluated
  repeat' split
  all_goals simp
@[simp] theorem storeReevaluated_store (slot : Nat) (f : Folio) : (storeReevaluated slot f s).store = s.store := by
  unfold storeReevaluated
  repeat' split
  all_goals simp
@[simp] theorem storeReevaluated_access (slot : Nat) (f : Folio) : (storeReevaluated slot f s).access = s.access := by
  unfold storeReevaluated
  repeat' split
  all_goals simp
@[simp] theorem storeReevaluated_passage (slot : Nat) (f : Folio) : (storeReevaluated slot f s).passage = s.passage := by
  unfold storeReevaluated
  repeat' split
  all_goals simp
@[simp] theorem storeReevaluated_muster (slot : Nat) (f : Folio) : (storeReevaluated slot f s).muster = s.muster := by
  unfold storeReevaluated
  repeat' split
  all_goals simp
@[simp] theorem storeReevaluated_tabs (slot : Nat) (f : Folio) : (storeReevaluated slot f s).tabs = s.tabs := by
  unfold storeReevaluated
  repeat' split
  all_goals simp

/-! ### limitDecline -/

@[simp] theorem limitDecline_ports (slot : Nat) (f : Folio) : (limitDecline slot f s).ports = s.ports := rfl
@[simp] theorem limitDecline_terminals (slot : Nat) (f : Folio) : (limitDecline slot f s).terminals = s.terminals := rfl
@[simp] theorem limitDecline_management (slot : Nat) (f : Folio) : (limitDecline slot f s).management = s.management := rfl
@[simp] theorem limitDecline_settings (slot : Nat) (f : Folio) : (limitDecline slot f s).settings = s.settings := rfl
@[simp] theorem limitDecline_clock (slot : Nat) (f : Folio) : (limitDecline slot f s).clock = s.clock := rfl
@[simp] theorem limitDecline_charge (slot : Nat) (f : Folio) : (limitDecline slot f s).charge = s.charge := rfl
@[simp] theorem limitDecline_pending (slot : Nat) (f : Folio) : (limitDecline slot f s).pending = s.pending := rfl
@[simp] theorem limitDecline_store (slot : Nat) (f : Folio) : (limitDecline slot f s).store = s.store := rfl
@[simp] theorem limitDecline_access (slot : Nat) (f : Folio) : (limitDecline slot f s).access = s.access := rfl
@[simp] theorem limitDecline_passage (slot : Nat) (f : Folio) : (limitDecline slot f s).passage = s.passage := rfl
@[simp] theorem limitDecline_muster (slot : Nat) (f : Folio) : (limitDecline slot f s).muster = s.muster := rfl
@[simp] theorem limitDecline_tabs (slot : Nat) (f : Folio) : (limitDecline slot f s).tabs = s.tabs := rfl

/-! ### loseMember -/

@[simp] theorem loseMember_ports (slot : Nat) : (loseMember slot s).ports = s.ports := by
  unfold loseMember
  repeat' split
  all_goals simp
@[simp] theorem loseMember_terminals (slot : Nat) : (loseMember slot s).terminals = s.terminals := by
  unfold loseMember
  repeat' split
  all_goals simp
@[simp] theorem loseMember_management (slot : Nat) : (loseMember slot s).management = s.management := by
  unfold loseMember
  repeat' split
  all_goals simp
@[simp] theorem loseMember_settings (slot : Nat) : (loseMember slot s).settings = s.settings := by
  unfold loseMember
  repeat' split
  all_goals simp
@[simp] theorem loseMember_clock (slot : Nat) : (loseMember slot s).clock = s.clock := by
  unfold loseMember
  repeat' split
  all_goals simp
@[simp] theorem loseMember_charge (slot : Nat) : (loseMember slot s).charge = s.charge := by
  unfold loseMember
  repeat' split
  all_goals simp
@[simp] theorem loseMember_pending (slot : Nat) : (loseMember slot s).pending = s.pending := by
  unfold loseMember
  repeat' split
  all_goals simp
@[simp] theorem loseMember_store (slot : Nat) : (loseMember slot s).store = s.store := by
  unfold loseMember
  repeat' split
  all_goals simp
@[simp] theorem loseMember_access (slot : Nat) : (loseMember slot s).access = s.access := by
  unfold loseMember
  repeat' split
  all_goals simp
@[simp] theorem loseMember_passage (slot : Nat) : (loseMember slot s).passage = s.passage := by
  unfold loseMember
  repeat' split
  all_goals simp
@[simp] theorem loseMember_muster (slot : Nat) : (loseMember slot s).muster = s.muster := by
  unfold loseMember
  repeat' split
  all_goals simp
@[simp] theorem loseMember_tabs (slot : Nat) : (loseMember slot s).tabs = s.tabs := by
  unfold loseMember
  repeat' split
  all_goals simp
@[simp] theorem loseMember_notice (slot : Nat) : (loseMember slot s).notice = s.notice := by
  unfold loseMember
  repeat' split
  all_goals simp

/-! ### gainMember -/

@[simp] theorem gainMember_ports (slot : Nat) : (gainMember slot s).ports = s.ports := by
  unfold gainMember
  repeat' split
  all_goals simp
@[simp] theorem gainMember_terminals (slot : Nat) : (gainMember slot s).terminals = s.terminals := by
  unfold gainMember
  repeat' split
  all_goals simp
@[simp] theorem gainMember_management (slot : Nat) : (gainMember slot s).management = s.management := by
  unfold gainMember
  repeat' split
  all_goals simp
@[simp] theorem gainMember_settings (slot : Nat) : (gainMember slot s).settings = s.settings := by
  unfold gainMember
  repeat' split
  all_goals simp
@[simp] theorem gainMember_clock (slot : Nat) : (gainMember slot s).clock = s.clock := by
  unfold gainMember
  repeat' split
  all_goals simp
@[simp] theorem gainMember_charge (slot : Nat) : (gainMember slot s).charge = s.charge := by
  unfold gainMember
  repeat' split
  all_goals simp
@[simp] theorem gainMember_pending (slot : Nat) : (gainMember slot s).pending = s.pending := by
  unfold gainMember
  repeat' split
  all_goals simp
@[simp] theorem gainMember_store (slot : Nat) : (gainMember slot s).store = s.store := by
  unfold gainMember
  repeat' split
  all_goals simp
@[simp] theorem gainMember_access (slot : Nat) : (gainMember slot s).access = s.access := by
  unfold gainMember
  repeat' split
  all_goals simp
@[simp] theorem gainMember_passage (slot : Nat) : (gainMember slot s).passage = s.passage := by
  unfold gainMember
  repeat' split
  all_goals simp
@[simp] theorem gainMember_muster (slot : Nat) : (gainMember slot s).muster = s.muster := by
  unfold gainMember
  repeat' split
  all_goals simp
@[simp] theorem gainMember_tabs (slot : Nat) : (gainMember slot s).tabs = s.tabs := by
  unfold gainMember
  repeat' split
  all_goals simp
@[simp] theorem gainMember_notice (slot : Nat) : (gainMember slot s).notice = s.notice := by
  unfold gainMember
  repeat' split
  all_goals simp

/-! ### postToRecord -/

@[simp] theorem postToRecord_ports (slot : Nat) (g : Figures) : (postToRecord slot g s).ports = s.ports := by
  unfold postToRecord
  repeat' split
  all_goals simp
@[simp] theorem postToRecord_terminals (slot : Nat) (g : Figures) : (postToRecord slot g s).terminals = s.terminals := by
  unfold postToRecord
  repeat' split
  all_goals simp
@[simp] theorem postToRecord_management (slot : Nat) (g : Figures) : (postToRecord slot g s).management = s.management := by
  unfold postToRecord
  repeat' split
  all_goals simp
@[simp] theorem postToRecord_settings (slot : Nat) (g : Figures) : (postToRecord slot g s).settings = s.settings := by
  unfold postToRecord
  repeat' split
  all_goals simp
@[simp] theorem postToRecord_clock (slot : Nat) (g : Figures) : (postToRecord slot g s).clock = s.clock := by
  unfold postToRecord
  repeat' split
  all_goals simp
@[simp] theorem postToRecord_charge (slot : Nat) (g : Figures) : (postToRecord slot g s).charge = s.charge := by
  unfold postToRecord
  repeat' split
  all_goals simp
@[simp] theorem postToRecord_pending (slot : Nat) (g : Figures) : (postToRecord slot g s).pending = s.pending := by
  unfold postToRecord
  repeat' split
  all_goals simp
@[simp] theorem postToRecord_access (slot : Nat) (g : Figures) : (postToRecord slot g s).access = s.access := by
  unfold postToRecord
  repeat' split
  all_goals simp
@[simp] theorem postToRecord_passage (slot : Nat) (g : Figures) : (postToRecord slot g s).passage = s.passage := by
  unfold postToRecord
  repeat' split
  all_goals simp
@[simp] theorem postToRecord_muster (slot : Nat) (g : Figures) : (postToRecord slot g s).muster = s.muster := by
  unfold postToRecord
  repeat' split
  all_goals simp
@[simp] theorem postToRecord_folios (slot : Nat) (g : Figures) : (postToRecord slot g s).folios = s.folios := by
  unfold postToRecord
  repeat' split
  all_goals simp
@[simp] theorem postToRecord_tabs (slot : Nat) (g : Figures) : (postToRecord slot g s).tabs = s.tabs := by
  unfold postToRecord
  repeat' split
  all_goals simp
@[simp] theorem postToRecord_notice (slot : Nat) (g : Figures) : (postToRecord slot g s).notice = s.notice := by
  unfold postToRecord
  repeat' split
  all_goals simp

/-! ### releaseTab -/

@[simp] theorem releaseTab_ports (entry : Nat) (t : Tab) : (releaseTab entry t s).ports = s.ports := by
  cases h : (freeTab entry s).folio t.folio <;> simp [releaseTab, h]
@[simp] theorem releaseTab_terminals (entry : Nat) (t : Tab) : (releaseTab entry t s).terminals = s.terminals := by
  cases h : (freeTab entry s).folio t.folio <;> simp [releaseTab, h]
@[simp] theorem releaseTab_management (entry : Nat) (t : Tab) : (releaseTab entry t s).management = s.management := by
  cases h : (freeTab entry s).folio t.folio <;> simp [releaseTab, h]
@[simp] theorem releaseTab_settings (entry : Nat) (t : Tab) : (releaseTab entry t s).settings = s.settings := by
  cases h : (freeTab entry s).folio t.folio <;> simp [releaseTab, h]
@[simp] theorem releaseTab_clock (entry : Nat) (t : Tab) : (releaseTab entry t s).clock = s.clock := by
  cases h : (freeTab entry s).folio t.folio <;> simp [releaseTab, h]
@[simp] theorem releaseTab_charge (entry : Nat) (t : Tab) : (releaseTab entry t s).charge = s.charge := by
  cases h : (freeTab entry s).folio t.folio <;> simp [releaseTab, h]
@[simp] theorem releaseTab_pending (entry : Nat) (t : Tab) : (releaseTab entry t s).pending = s.pending := by
  cases h : (freeTab entry s).folio t.folio <;> simp [releaseTab, h]
@[simp] theorem releaseTab_store (entry : Nat) (t : Tab) : (releaseTab entry t s).store = s.store := by
  cases h : (freeTab entry s).folio t.folio <;> simp [releaseTab, h]
@[simp] theorem releaseTab_access (entry : Nat) (t : Tab) : (releaseTab entry t s).access = s.access := by
  cases h : (freeTab entry s).folio t.folio <;> simp [releaseTab, h]
@[simp] theorem releaseTab_passage (entry : Nat) (t : Tab) : (releaseTab entry t s).passage = s.passage := by
  cases h : (freeTab entry s).folio t.folio <;> simp [releaseTab, h]
@[simp] theorem releaseTab_muster (entry : Nat) (t : Tab) : (releaseTab entry t s).muster = s.muster := by
  cases h : (freeTab entry s).folio t.folio <;> simp [releaseTab, h]

/-! ### reportRefusal -/

@[simp] theorem reportRefusal_ports (p : Port) (t : Nat) (r : Result) (c sl : Option Nat) : (reportRefusal p t r c sl s).ports = s.ports := by
  unfold reportRefusal
  repeat' split
  all_goals simp
@[simp] theorem reportRefusal_terminals (p : Port) (t : Nat) (r : Result) (c sl : Option Nat) : (reportRefusal p t r c sl s).terminals = s.terminals := by
  unfold reportRefusal
  repeat' split
  all_goals simp
@[simp] theorem reportRefusal_management (p : Port) (t : Nat) (r : Result) (c sl : Option Nat) : (reportRefusal p t r c sl s).management = s.management := by
  unfold reportRefusal
  repeat' split
  all_goals simp
@[simp] theorem reportRefusal_settings (p : Port) (t : Nat) (r : Result) (c sl : Option Nat) : (reportRefusal p t r c sl s).settings = s.settings := by
  unfold reportRefusal
  repeat' split
  all_goals simp
@[simp] theorem reportRefusal_clock (p : Port) (t : Nat) (r : Result) (c sl : Option Nat) : (reportRefusal p t r c sl s).clock = s.clock := by
  unfold reportRefusal
  repeat' split
  all_goals simp
@[simp] theorem reportRefusal_charge (p : Port) (t : Nat) (r : Result) (c sl : Option Nat) : (reportRefusal p t r c sl s).charge = s.charge := by
  unfold reportRefusal
  repeat' split
  all_goals simp
@[simp] theorem reportRefusal_pending (p : Port) (t : Nat) (r : Result) (c sl : Option Nat) : (reportRefusal p t r c sl s).pending = s.pending := by
  unfold reportRefusal
  repeat' split
  all_goals simp
@[simp] theorem reportRefusal_store (p : Port) (t : Nat) (r : Result) (c sl : Option Nat) : (reportRefusal p t r c sl s).store = s.store := by
  unfold reportRefusal
  repeat' split
  all_goals simp
@[simp] theorem reportRefusal_access (p : Port) (t : Nat) (r : Result) (c sl : Option Nat) : (reportRefusal p t r c sl s).access = s.access := by
  unfold reportRefusal
  repeat' split
  all_goals simp
@[simp] theorem reportRefusal_passage (p : Port) (t : Nat) (r : Result) (c sl : Option Nat) : (reportRefusal p t r c sl s).passage = s.passage := by
  unfold reportRefusal
  repeat' split
  all_goals simp
@[simp] theorem reportRefusal_muster (p : Port) (t : Nat) (r : Result) (c sl : Option Nat) : (reportRefusal p t r c sl s).muster = s.muster := by
  unfold reportRefusal
  repeat' split
  all_goals simp
@[simp] theorem reportRefusal_folios (p : Port) (t : Nat) (r : Result) (c sl : Option Nat) : (reportRefusal p t r c sl s).folios = s.folios := by
  unfold reportRefusal
  repeat' split
  all_goals simp
@[simp] theorem reportRefusal_tabs (p : Port) (t : Nat) (r : Result) (c sl : Option Nat) : (reportRefusal p t r c sl s).tabs = s.tabs := by
  unfold reportRefusal
  repeat' split
  all_goals simp

end Sys2Proof.Machine
end

