-- ==== Sys2Proof/Laws/Takes.lean ====
section
/-! SUPPORT. What the take of a request does, said once: for a management request (R180 to R182) and for a terminal
request (R165, R166, R172, R173); what a transaction's first byte names; what ordered checks
say; what the rollover test and the advance of time do; and what an event of the NOTICE line and the
report of a refusal do. -/

namespace Sys2Proof.Machine

/-! ## Ordered checks -/

@[simp] theorem firstRefusal_nil {α : Type} (c : α) : firstRefusal [] c ↔ False := Iff.rfl

@[simp] theorem firstRefusal_cons {α : Type} (p : Prop) (x c : α) (rest : List (Prop × α)) :
    firstRefusal ((p, x) :: rest) c ↔ (p ∧ c = x) ∨ (¬ p ∧ firstRefusal rest c) := Iff.rfl

/-! ## Management requests -/

/-- A request written to a port that is not IDLE is discarded (R180). -/
theorem manage_busy {s : State} {kind : Byte} {body : List Byte} {d : State → Decision} (h : ¬ s.idle) :
    manage kind body d s = discardWrite (requestFrameSize body.length) s := by
  unfold manage
  rw [if_neg]
  exact fun hc => h hc.1

/-- A taken request that the gate passes is decided and answered (R182). -/
theorem manage_taken {s : State} {kind : Byte} {body : List Byte} {d : State → Decision} (h : s.idle)
    (hb : body.length ≤ 1024) (hg : s.management.service ≠ .standalone ∨ kind ∈ standaloneKinds) :
    manage kind body d s = placeReply kind (d (takeWrite kind body s)) := by
  unfold manage
  rw [if_pos ⟨h, hb⟩]
  have : ¬ (s.management.service = .standalone ∧ kind ∉ standaloneKinds) := by tauto
  simp only [this, if_false]

/-- A taken request that the gate refuses changes nothing but the port (R182). -/
theorem manage_gated {s : State} {kind : Byte} {body : List Byte} {d : State → Decision} (h : s.idle)
    (hb : body.length ≤ 1024) (hs : s.management.service = .standalone) (hk : kind ∉ standaloneKinds) :
    manage kind body d s = placeReply kind (refuse .standalone (takeWrite kind body s)) := by
  unfold manage
  rw [if_pos ⟨h, hb⟩]
  simp only [hs, hk, not_false_eq_true, and_self, if_true]

/-- The reply placed in a state that the take left at the port, and that an effect `u` made elsewhere. -/
theorem placeReply_replied {u s : State} (kind : Byte) (body : List Byte) (code : ReplyCode) (reply : List Byte)
    (hm : u.management = s.management) (hw : u.settings.watchdogCode = s.settings.watchdogCode)
    (hc : u.clock.runTime = s.clock.runTime) :
    placeReply kind
        { code := code, body := reply, state := { u with management := (takeWrite kind body s).management } } =
      u.replied kind body code reply := by
  simp [placeReply, State.replied, takeWrite, restartWatchdog, writeShiftOut, requestFrameSize, hm, hw, hc]

/-- A request whose effect `e` neither reads nor writes the management port, answered DONE. -/
theorem manage_replied {s : State} {kind : Byte} {body reply : List Byte} {d : State → Decision} {e : State → State}
    (h : s.idle) (hb : body.length ≤ 1024)
    (hg : s.management.service ≠ .standalone ∨ kind ∈ standaloneKinds)
    (hd : d (takeWrite kind body s) = done reply (e (takeWrite kind body s)))
    (he : e (takeWrite kind body s) = { e s with management := (takeWrite kind body s).management })
    (hm : (e s).management = s.management) (hw : (e s).settings.watchdogCode = s.settings.watchdogCode)
    (hc : (e s).clock.runTime = s.clock.runTime) :
    manage kind body d s = (e s).replied kind body .done reply := by
  rw [manage_taken h hb hg, hd, he]
  exact placeReply_replied kind body .done reply hm hw hc

/-- A refused request changes nothing but the port. -/
theorem manage_refused {s : State} {kind : Byte} {body : List Byte} {d : State → Decision} {c : ReplyCode}
    (h : s.idle) (hb : body.length ≤ 1024)
    (hg : s.management.service ≠ .standalone ∨ kind ∈ standaloneKinds)
    (hd : d (takeWrite kind body s) = refuse c (takeWrite kind body s)) :
    manage kind body d s = s.replied kind body c [] := by
  rw [manage_taken h hb hg, hd]
  exact placeReply_replied (u := s) kind body c [] rfl rfl rfl

/-! ## Terminal requests -/

/-- A result of the OK class is not reported (R194). -/
theorem reportRefusal_ok {p : Port} {term : Nat} {r : Result} {c slot : Option Nat} {s : State}
    (h : r.isRefusal = false) : reportRefusal p term r c slot s = s := by
  simp [reportRefusal, h]

/-- A frame that passes the terminal check and the service-state check is decided by its unit and answered
(R165, R172, R173). -/
theorem takeRequest_admitted {s : State} {p : Port} {e : TerminalEntry} {f : Frame} {kind : Byte}
    {permitted : TerminalEntry → Bool} {size : Nat} {d : TerminalEntry → Frame → State → Verdict}
    (h : s.takes p e f) (hk : f.kind = kind) (hp : permitted e = true) (hs : f.body.length = size) :
    takeRequest p kind permitted size d s = answer p f (d e f (takeFrame p s)) := by
  obtain ⟨h2, h3, h4, h5⟩ := h
  have hold : s.oldestFrame p = some f := h2
  have ha : ∀ b, admission s e b permitted size f = none := by
    intro b
    simp [admission, h4, hp, hs, h5]
  simp only [takeRequest, hold, hk, if_true, h3, ha]

/-- The request in hand with its reply, in a state whose ports the take left, and that an effect `u` made elsewhere. -/
theorem holdReply_answered {u s : State} {p : Port} {f : Frame} (r : Result) (body : List Byte)
    (hp : u.ports = s.ports) :
    holdReply p f r body { u with ports := (takeFrame p s).ports } = u.answered p f r body := by
  have hu : u.port p = s.port p := by simp [State.port, hp]
  have h1 : State.port { u with ports := (takeFrame p s).ports } p = (takeFrame p s).port p := rfl
  have h2 : (takeFrame p s).port p =
      { (s.port p).decided with queue := (s.port p).queue.drop 1 } := by
    simp [takeFrame]
  have h3 : ∀ b : PortBlock, (takeFrame p s).ports.set p.val b = s.ports.set p.val b := by
    intro b
    simp [State.setPort, takeFrame]
  simp only [holdReply, State.answered, State.setPort, h1, h2, h3, hu, hp]

/-- A request of a terminal whose effect `e` neither reads nor writes a port, answered with a result of the OK class. -/
theorem takeRequest_answered {s : State} {p : Port} {t : TerminalEntry} {f : Frame} {kind : Byte}
    {permitted : TerminalEntry → Bool} {size : Nat} {d : TerminalEntry → Frame → State → Verdict} {v : Verdict}
    {u : State} (h : s.takes p t f) (hk : f.kind = kind) (hp : permitted t = true) (hs : f.body.length = size)
    (hd : d t f (takeFrame p s) = v) (hr : v.result.isRefusal = false)
    (hv : v.state = { u with ports := (takeFrame p s).ports }) (hu : u.ports = s.ports) :
    takeRequest p kind permitted size d s = u.answered p f v.result v.body := by
  rw [takeRequest_admitted h hk hp hs, hd, answer, reportRefusal_ok hr, hv]
  exact holdReply_answered _ _ hu

/-- A take of a kind that the oldest frame is not, or at an empty queue, ends the request in hand and takes none. -/
theorem takeRequest_other {s : State} {p : Port} {kind : Byte} {permitted : TerminalEntry → Bool} {size : Nat}
    {d : TerminalEntry → Frame → State → Verdict} (h : ∀ f, (s.port p).queue.head? = some f → f.kind ≠ kind) :
    takeRequest p kind permitted size d s = endInHand p s := by
  cases hf : (s.port p).queue.head? with
  | none => simp only [takeRequest, State.oldestFrame, hf]
  | some f => simp only [takeRequest, State.oldestFrame, hf, h f hf, if_false]

/-- With no request in hand, no reply is decided. -/
theorem PortBlock.decided_idle {b : PortBlock} (h : b.inHand = none) : b.decided = b := by
  obtain ⟨_, _, _, _, _, _, _, _, _⟩ := b
  cases h
  simp [PortBlock.decided]

/-- With no request in hand, there is none to end. -/
theorem endInHand_idle {s : State} {p : Port} (h : (s.port p).inHand = none) : endInHand p s = s := by
  rw [endInHand, PortBlock.decided_idle h]
  simp [State.setPort, State.port]

/-! ## Transactions -/

@[simp] theorem transactionOf_write : transactionOf 1#8 = .write := rfl

@[simp] theorem transactionOf_read : transactionOf 2#8 = .read := rfl

/-- Any first byte but those of a write and a read names a poll (R178). -/
theorem transactionOf_poll {first : Byte} (hw : first ≠ 0x01) (hr : first ≠ 0x02) : transactionOf first = .poll := by
  unfold transactionOf
  rw [if_neg hw, if_neg hr]

/-! ## The rollover test (R79) and the advance of time (R75) -/

/-- What the rollover test can do: a rollover to a day above the last-rolled day, with the time SET, or nothing. -/
theorem rolloverTest_cases (s : State) :
    (∃ t l, s.shipTime = some t ∧ s.clock.lastRolled = some l ∧ l < shipDay s.settings.rolloverHour t ∧
        rolloverTest s = (rollOver (shipDay s.settings.rolloverHour t) s, true)) ∨
      ((∀ t l, s.shipTime = some t → s.clock.lastRolled = some l → shipDay s.settings.rolloverHour t ≤ l) ∧
        rolloverTest s = (s, false)) := by
  cases ht : s.shipTime with
  | none => simp [rolloverTest, ht]
  | some t =>
    cases hl : s.clock.lastRolled with
    | none => simp [rolloverTest, State.dayDue, ht, hl]
    | some l =>
      simp only [rolloverTest, State.dayDue, ht, hl, decide_eq_true_eq]
      by_cases h : l < shipDay s.settings.rolloverHour t
      · exact Or.inl ⟨t, l, rfl, rfl, h, if_pos h⟩
      · refine Or.inr ⟨?_, if_neg h⟩
        rintro _ _ ⟨⟩ ⟨⟩
        omega

/-- What an advance can do: the tick alone, or, at an advance of run time, a rollover in the same step (R81). -/
theorem advance_cases (s : State) :
    (s.clock.millis < 999 ∧ advance s = tick s) ∨
      (¬ s.clock.millis < 999 ∧ advance s = (rolloverTest (tick s)).1) := by
  unfold advance
  split
  · exact Or.inl ⟨‹_›, rfl⟩
  · exact Or.inr ⟨‹_›, rfl⟩

/-! ## The NOTICE line and the report of a refusal -/

/-- What an event of the NOTICE line can do: it moves the line and the pulse owed, and changes nothing else
(R199, R200). -/
theorem changeNotices_eq (before after : State) :
    changeNotices before after =
      { after with notice :=
          { after.notice with
            line := (changeNotices before after).notice.line
            owed := (changeNotices before after).notice.owed } } := by
  simp only [changeNotices, lineEvent]
  split <;> (try split) <;> rfl

/-- An event of the NOTICE line leaves the demand as the change made it. -/
@[simp] theorem changeNotices_demand (before after : State) : (changeNotices before after).demand = after.demand := by
  rw [changeNotices_eq]
  rfl

/-- The line and the pulse owed after an event are those after another event with the same demands, in a state whose
settings, time, line and pulse owed are the same. -/
theorem changeNotices_line {before before' after after' : State} (hb : before.demand = before'.demand)
    (ha : after.demand = after'.demand) (hs : after.settings = after'.settings) (hc : after.clock = after'.clock)
    (hl : after.notice.line = after'.notice.line) (ho : after.notice.owed = after'.notice.owed) :
    (changeNotices before after).notice.line = (changeNotices before' after').notice.line ∧
      (changeNotices before after).notice.owed = (changeNotices before' after').notice.owed := by
  simp only [changeNotices, lineEvent, hb, ha, hs, hl, State.moment, hc]
  split <;> (try split) <;> simp [ho, hl]

/-- A refusal that the mask selects overwrites the last-refusal record and raises REFUSAL, and changes nothing else
(R194). -/
theorem reportRefusal_selected {p : Port} {term : Nat} {r : Result} {c slot : Option Nat} {s : State}
    (hr : r.isRefusal = true) (hs : s.selects r = true) :
    reportRefusal p term r c slot s =
      { raise .refusal s with notice :=
          { (raise .refusal s).notice with lastRefusal := some (s.refusal p term r c slot) } } := by
  let named : State := { s with notice := { s.notice with lastRefusal := some (s.refusal p term r c slot) } }
  obtain ⟨hl, ho⟩ : (raise .refusal named).notice.line = (raise .refusal s).notice.line ∧
      (raise .refusal named).notice.owed = (raise .refusal s).notice.owed :=
    changeNotices_line rfl rfl rfl rfl rfl rfl
  have hn : reportRefusal p term r c slot s = raise .refusal named := by simp [reportRefusal, hr, hs, named]
  have hp (t : State) : raise .refusal t =
      { t with notice :=
          { t.notice with
            pending := t.notice.pending ||| Condition.refusal.bit
            line := (raise .refusal t).notice.line
            owed := (raise .refusal t).notice.owed } } := changeNotices_eq _ _
  rw [hn, hp named, hl, ho, hp s]

/-- A refusal that the mask does not select changes nothing (R194). -/
theorem reportRefusal_unselected {p : Port} {term : Nat} {r : Result} {c slot : Option Nat} {s : State}
    (hs : s.selects r = false) : reportRefusal p term r c slot s = s := by
  simp [reportRefusal, hs]

end Sys2Proof.Machine
end

