-- ==== Sys2Proof/Laws/Commute.lean ====
section
/-! SUPPORT. The shared operations neither read nor write the management port or the terminal ports: each may be moved
past a change of one of them. With these, the state that a take has touched is set aside, and an effect is computed on
the state before the take. -/

namespace Sys2Proof.Machine

/-- The state with another management port. -/
def State.setManagement (s : State) (m : ManagementPort) : State := { s with management := m }

/-- The state with other terminal ports. -/
def State.setPorts (s : State) (b : Vector PortBlock 6) : State := { s with ports := b }

theorem takeWrite_eq (kind : Byte) (body : List Byte) (s : State) :
    takeWrite kind body s = s.setManagement (takeWrite kind body s).management := rfl

theorem takeFrame_eq (p : Port) (s : State) :
    takeFrame p s = s.setPorts (takeFrame p s).ports := rfl

/-! ## Reads and operations past `State.setManagement` -/

section
variable (s : State) (m0 : ManagementPort)

@[simp] theorem State.setManagement_management : (s.setManagement m0).management = m0 := rfl
@[simp] theorem State.setManagement_terminals : (s.setManagement m0).terminals = s.terminals := rfl
@[simp] theorem State.setManagement_settings : (s.setManagement m0).settings = s.settings := rfl
@[simp] theorem State.setManagement_store : (s.setManagement m0).store = s.store := rfl
@[simp] theorem State.setManagement_access : (s.setManagement m0).access = s.access := rfl
@[simp] theorem State.setManagement_passage : (s.setManagement m0).passage = s.passage := rfl
@[simp] theorem State.setManagement_muster : (s.setManagement m0).muster = s.muster := rfl
@[simp] theorem State.setManagement_clock : (s.setManagement m0).clock = s.clock := rfl
@[simp] theorem State.setManagement_folios : (s.setManagement m0).folios = s.folios := rfl
@[simp] theorem State.setManagement_charge : (s.setManagement m0).charge = s.charge := rfl
@[simp] theorem State.setManagement_tabs : (s.setManagement m0).tabs = s.tabs := rfl
@[simp] theorem State.setManagement_notice : (s.setManagement m0).notice = s.notice := rfl
@[simp] theorem State.setManagement_pending : (s.setManagement m0).pending = s.pending := rfl
@[simp] theorem State.setManagement_ports : (s.setManagement m0).ports = s.ports := rfl
@[simp] theorem State.setManagement_record (n : Nat) : (s.setManagement m0).record n = s.record n := rfl
@[simp] theorem State.setManagement_folio (n : Nat) : (s.setManagement m0).folio n = s.folio n := rfl
@[simp] theorem State.setManagement_cabin (n : Nat) : (s.setManagement m0).cabin n = s.cabin n := rfl
@[simp] theorem State.setManagement_role (n : Nat) : (s.setManagement m0).role n = s.role n := rfl
@[simp] theorem State.setManagement_venue (n : Nat) : (s.setManagement m0).venue n = s.venue n := rfl
@[simp] theorem State.setManagement_tier (n : Nat) : (s.setManagement m0).tier n = s.tier n := rfl
@[simp] theorem State.setManagement_terminal (p : Port) (n : Nat) :
    (s.setManagement m0).terminal p n = s.terminal p n := rfl
@[simp] theorem State.setManagement_tab (n : Nat) : (s.setManagement m0).tab n = s.tab n := rfl
@[simp] theorem State.setManagement_tally (n : Nat) : (s.setManagement m0).tally n = s.tally n := rfl
@[simp] theorem State.setManagement_opensTabs (n : Nat) : (s.setManagement m0).opensTabs n = s.opensTabs n := rfl
@[simp] theorem State.setManagement_isRevoked (n : Nat) : (s.setManagement m0).isRevoked n = s.isRevoked n := rfl
@[simp] theorem State.setManagement_shipTime : (s.setManagement m0).shipTime = s.shipTime := rfl
@[simp] theorem State.setManagement_moment : (s.setManagement m0).moment = s.moment := rfl
@[simp] theorem State.setManagement_demand : (s.setManagement m0).demand = s.demand := rfl
@[simp] theorem State.setManagement_pendingConditions :
    (s.setManagement m0).pendingConditions = s.pendingConditions := rfl
@[simp] theorem State.setManagement_selects (r : Result) : (s.setManagement m0).selects r = s.selects r := rfl
@[simp] theorem State.setManagement_port (p : Port) : (s.setManagement m0).port p = s.port p := rfl

@[simp] theorem State.putRecord_setManagement (slot : Nat) (r : Record) :
    State.putRecord (s.setManagement m0) slot r = (State.putRecord s slot r).setManagement m0 := rfl

@[simp] theorem State.putIndex_setManagement (n : Nat) (e : IndexEntry) :
    State.putIndex (s.setManagement m0) n e = (State.putIndex s n e).setManagement m0 := rfl

@[simp] theorem State.dropIndex_setManagement (n : Nat) :
    State.dropIndex (s.setManagement m0) n = (State.dropIndex s n).setManagement m0 := rfl

@[simp] theorem State.putFolio_setManagement (slot : Nat) (f : Folio) :
    State.putFolio (s.setManagement m0) slot f = (State.putFolio s slot f).setManagement m0 := rfl

@[simp] theorem State.dropFolio_setManagement (slot : Nat) :
    State.dropFolio (s.setManagement m0) slot = (State.dropFolio s slot).setManagement m0 := rfl

@[simp] theorem State.putCabin_setManagement (n : Nat) (c : Cabin) :
    State.putCabin (s.setManagement m0) n c = (State.putCabin s n c).setManagement m0 := rfl

@[simp] theorem State.setCounts_setManagement (m : ByClass (ByLocation Nat)) :
    State.setCounts (s.setManagement m0) m = (State.setCounts s m).setManagement m0 := rfl

@[simp] theorem raise_setManagement (c : Condition) :
    raise c (s.setManagement m0) = (raise c s).setManagement m0 := rfl

@[simp] theorem report_setManagement (t : CapacityTable) :
    report t (s.setManagement m0) = (report t s).setManagement m0 := rfl

@[simp] theorem reportAll_setManagement :
    reportAll (s.setManagement m0) = (reportAll s).setManagement m0 := by
  simp only [reportAll, report_setManagement]

@[simp] theorem setWatch_setManagement (w : List WatchEntry) :
    setWatch w (s.setManagement m0) = (setWatch w s).setManagement m0 := rfl

@[simp] theorem setEnables_setManagement (e : BitVec 17) :
    setEnables e (s.setManagement m0) = (setEnables e s).setManagement m0 := rfl

@[simp] theorem acknowledge_setManagement (c : BitVec 17) :
    acknowledge c (s.setManagement m0) = (acknowledge c s).setManagement m0 := rfl

@[simp] theorem setLatchMode_setManagement (m : LatchMode) :
    setLatchMode m (s.setManagement m0) = (setLatchMode m s).setManagement m0 := rfl

@[simp] theorem setLineMode_setManagement (m : LineMode) :
    setLineMode m (s.setManagement m0) = (setLineMode m s).setManagement m0 := by
  by_cases h : s.settings.lineMode = m
  · rw [setLineMode, setLineMode, if_pos (show (s.setManagement m0).settings.lineMode = m from h), if_pos h]
  · rw [setLineMode, setLineMode, if_neg (show ¬ ((s.setManagement m0).settings.lineMode = m) from h), if_neg h]
    rfl

@[simp] theorem reportRefusal_setManagement (p : Port) (t : Nat) (r : Result) (c sl : Option Nat) :
    reportRefusal p t r c sl (s.setManagement m0) = (reportRefusal p t r c sl s).setManagement m0 := by
  by_cases h : (r.isRefusal && s.selects r) = true
  · rw [reportRefusal, reportRefusal, if_pos (show (r.isRefusal && (s.setManagement m0).selects r) = true from h),
    if_pos h]
    rfl
  · rw [reportRefusal, reportRefusal, if_neg (show ¬ ((r.isRefusal && (s.setManagement m0).selects r) = true) from h),
    if_neg h]

@[simp] theorem appendRevocation_setManagement (v : Revocation) :
    appendRevocation v (s.setManagement m0) = (appendRevocation v s).setManagement m0 := by
  by_cases h : s.store.revoked.length < Config.revocationSize
  · rw [appendRevocation, appendRevocation,
    if_pos (show (s.setManagement m0).store.revoked.length < Config.revocationSize from h), if_pos h]
    rfl
  · rw [appendRevocation, appendRevocation,
    if_neg (show ¬ ((s.setManagement m0).store.revoked.length < Config.revocationSize) from h), if_neg h]
    rfl

@[simp] theorem leaveIndex_setManagement (n : Nat) :
    leaveIndex n (s.setManagement m0) = (leaveIndex n s).setManagement m0 := by
  by_cases h : (s.store.index.find n).isSome = true
  · rw [leaveIndex, leaveIndex, if_pos (show ((s.setManagement m0).store.index.find n).isSome = true from h),
    if_pos h, State.dropIndex_setManagement, report_setManagement]
  · rw [leaveIndex, leaveIndex, if_neg (show ¬ (((s.setManagement m0).store.index.find n).isSome = true) from h),
    if_neg h]

@[simp] theorem revoke_setManagement (slot n : Nat) (y : RevocationReason) :
    revoke slot n y (s.setManagement m0) = (revoke slot n y s).setManagement m0 := by
  cases h : s.record slot <;>
    simp only [revoke, State.setManagement_record, h, State.setManagement_clock, State.putRecord_setManagement,
      leaveIndex_setManagement, appendRevocation_setManagement]

@[simp] theorem endReservation_setManagement (slot : Nat) (r : Record) (v : Reservation) :
    endReservation slot r v (s.setManagement m0) = (endReservation slot r v s).setManagement m0 := by
  simp only [endReservation, State.putRecord_setManagement, leaveIndex_setManagement]

@[simp] theorem consumeMessage_setManagement (slot : Nat) (r : Record) :
    consumeMessage slot r (s.setManagement m0) = (consumeMessage slot r s).setManagement m0 := by
  by_cases h : r.message = 0
  · simp only [consumeMessage, h, if_true]
  · simp only [consumeMessage, h, if_false, State.putRecord_setManagement]

@[simp] theorem raiseReconciled_setManagement (a b : Bool) (m : ByClass (ByLocation Nat)) :
    raiseReconciled a b m (s.setManagement m0) = (raiseReconciled a b m s).setManagement m0 := by
  cases h1 : allAboard m && !a <;> cases h2 : allClear m && !b <;>
    simp only [raiseReconciled, h1, h2, if_true, if_false, raise_setManagement, Bool.false_eq_true]

@[simp] theorem reconcile_setManagement (m : ByClass (ByLocation Nat)) :
    reconcile m (s.setManagement m0) = (reconcile m s).setManagement m0 := by
  by_cases h : s.muster.phase = .cutoff <;>
    simp only [reconcile, State.setManagement_muster, State.setManagement_passage, h, if_true, if_false,
      raiseReconciled_setManagement]

@[simp] theorem enterCutoff_setManagement :
    enterCutoff (s.setManagement m0) = (enterCutoff s).setManagement m0 := by
  simp only [enterCutoff, State.setManagement_passage, raiseReconciled_setManagement]

@[simp] theorem enterWatch_setManagement (slot : Nat) (h : Hit) :
    enterWatch slot h (s.setManagement m0) = (enterWatch slot h s).setManagement m0 := by
  by_cases h1 : (s.passage.watch.any fun e => decide (e.slot = slot)) = true <;>
    by_cases h2 : s.passage.watch.length < Config.watchSize <;>
    simp only [enterWatch, State.setManagement_passage, h1, h2, if_true, if_false, setWatch_setManagement,
      raise_setManagement, Bool.false_eq_true]

@[simp] theorem leaveMuster_setManagement (slot : Nat) (r : Record) :
    leaveMuster slot r (s.setManagement m0) = (leaveMuster slot r s).setManagement m0 := by
  cases h : r.musterFlag
  · simp only [leaveMuster, h, Bool.false_eq_true, if_false]
  · simp only [leaveMuster, h, if_true]
    rfl

@[simp] theorem changeLocation_setManagement (slot : Nat) (r : Record) (l : Location) :
    changeLocation slot r l (s.setManagement m0) = (changeLocation slot r l s).setManagement m0 := by
  cases h3 : watchHit r.watchMode r.location l <;>
    simp only [changeLocation, State.setManagement_passage, State.setManagement_opensTabs,
      State.putRecord_setManagement, State.setCounts_setManagement, h3] <;>
    by_cases h1 : r.location = .aboard <;> by_cases h2 : s.opensTabs slot = true <;>
    simp only [h1, h2, if_true, if_false, leaveMuster_setManagement, raise_setManagement, enterWatch_setManagement,
      reconcile_setManagement, and_self, and_true,
      and_false, Bool.false_eq_true]

@[simp] theorem setLastPassage_setManagement (slot : Nat) (x : Option Passage) :
    setLastPassage slot x (s.setManagement m0) = (setLastPassage slot x s).setManagement m0 := by
  cases h : s.record slot <;> simp only [setLastPassage, State.setManagement_record, h, State.putRecord_setManagement]

@[simp] theorem leaveCabin_setManagement (slot n : Nat) :
    leaveCabin slot n (s.setManagement m0) = (leaveCabin slot n s).setManagement m0 := rfl

@[simp] theorem leaveCabin_of_setManagement (slot : Nat) (n : Option Nat) :
    leaveCabin? slot n (s.setManagement m0) = (leaveCabin? slot n s).setManagement m0 := by
  cases n <;> simp only [leaveCabin?, leaveCabin_setManagement]

@[simp] theorem storeReevaluated_setManagement (slot : Nat) (f : Folio) :
    storeReevaluated slot f (s.setManagement m0) = (storeReevaluated slot f s).setManagement m0 := by
  cases h : f.reevaluated.2 <;>
    simp only [storeReevaluated, h, State.putFolio_setManagement, raise_setManagement, if_true, if_false,
      Bool.false_eq_true]

@[simp] theorem limitDecline_setManagement (slot : Nat) (f : Folio) :
    limitDecline slot f (s.setManagement m0) = (limitDecline slot f s).setManagement m0 := rfl

@[simp] theorem loseMember_setManagement (slot : Nat) :
    loseMember slot (s.setManagement m0) = (loseMember slot s).setManagement m0 := by
  cases h : s.folio slot with
  | none => simp only [loseMember, State.setManagement_folio, h]
  | some f =>
    by_cases hc : f.state = .closed ∧ f.members - 1 = 0 <;>
      simp only [loseMember, State.setManagement_folio, h, hc, if_true, if_false, State.dropFolio_setManagement,
        State.putFolio_setManagement, and_self]

@[simp] theorem gainMember_setManagement (slot : Nat) :
    gainMember slot (s.setManagement m0) = (gainMember slot s).setManagement m0 := by
  cases h : s.folio slot <;> simp only [gainMember, State.setManagement_folio, h, State.putFolio_setManagement]

@[simp] theorem postToRecord_setManagement (slot : Nat) (g : Figures) :
    postToRecord slot g (s.setManagement m0) = (postToRecord slot g s).setManagement m0 := by
  cases h : s.record slot <;> simp only [postToRecord, State.setManagement_record, h, State.putRecord_setManagement]

@[simp] theorem rollOver_setManagement (day : Int) :
    rollOver day (s.setManagement m0) = (rollOver day s).setManagement m0 := rfl

@[simp] theorem freeTab_setManagement (entry : Nat) :
    freeTab entry (s.setManagement m0) = (freeTab entry s).setManagement m0 := rfl

@[simp] theorem releaseTab_setManagement (entry : Nat) (t : Tab) :
    releaseTab entry t (s.setManagement m0) = (releaseTab entry t s).setManagement m0 := by
  cases h : (freeTab entry s).folio t.folio <;>
    simp only [releaseTab, freeTab_setManagement, State.setManagement_folio, h, storeReevaluated_setManagement,
      report_setManagement]

end

/-! ## Reads and operations past `State.setPorts` -/

section
variable (s : State) (b0 : Vector PortBlock 6)

@[simp] theorem State.setPorts_ports : (s.setPorts b0).ports = b0 := rfl
@[simp] theorem State.setPorts_terminals : (s.setPorts b0).terminals = s.terminals := rfl
@[simp] theorem State.setPorts_settings : (s.setPorts b0).settings = s.settings := rfl
@[simp] theorem State.setPorts_store : (s.setPorts b0).store = s.store := rfl
@[simp] theorem State.setPorts_access : (s.setPorts b0).access = s.access := rfl
@[simp] theorem State.setPorts_passage : (s.setPorts b0).passage = s.passage := rfl
@[simp] theorem State.setPorts_muster : (s.setPorts b0).muster = s.muster := rfl
@[simp] theorem State.setPorts_clock : (s.setPorts b0).clock = s.clock := rfl
@[simp] theorem State.setPorts_folios : (s.setPorts b0).folios = s.folios := rfl
@[simp] theorem State.setPorts_charge : (s.setPorts b0).charge = s.charge := rfl
@[simp] theorem State.setPorts_tabs : (s.setPorts b0).tabs = s.tabs := rfl
@[simp] theorem State.setPorts_notice : (s.setPorts b0).notice = s.notice := rfl
@[simp] theorem State.setPorts_pending : (s.setPorts b0).pending = s.pending := rfl
@[simp] theorem State.setPorts_management : (s.setPorts b0).management = s.management := rfl
@[simp] theorem State.setPorts_record (n : Nat) : (s.setPorts b0).record n = s.record n := rfl
@[simp] theorem State.setPorts_folio (n : Nat) : (s.setPorts b0).folio n = s.folio n := rfl
@[simp] theorem State.setPorts_cabin (n : Nat) : (s.setPorts b0).cabin n = s.cabin n := rfl
@[simp] theorem State.setPorts_role (n : Nat) : (s.setPorts b0).role n = s.role n := rfl
@[simp] theorem State.setPorts_venue (n : Nat) : (s.setPorts b0).venue n = s.venue n := rfl
@[simp] theorem State.setPorts_tier (n : Nat) : (s.setPorts b0).tier n = s.tier n := rfl
@[simp] theorem State.setPorts_terminal (p : Port) (n : Nat) : (s.setPorts b0).terminal p n = s.terminal p n := rfl
@[simp] theorem State.setPorts_tab (n : Nat) : (s.setPorts b0).tab n = s.tab n := rfl
@[simp] theorem State.setPorts_tally (n : Nat) : (s.setPorts b0).tally n = s.tally n := rfl
@[simp] theorem State.setPorts_opensTabs (n : Nat) : (s.setPorts b0).opensTabs n = s.opensTabs n := rfl
@[simp] theorem State.setPorts_isRevoked (n : Nat) : (s.setPorts b0).isRevoked n = s.isRevoked n := rfl
@[simp] theorem State.setPorts_shipTime : (s.setPorts b0).shipTime = s.shipTime := rfl
@[simp] theorem State.setPorts_moment : (s.setPorts b0).moment = s.moment := rfl
@[simp] theorem State.setPorts_demand : (s.setPorts b0).demand = s.demand := rfl
@[simp] theorem State.setPorts_pendingConditions : (s.setPorts b0).pendingConditions = s.pendingConditions := rfl
@[simp] theorem State.setPorts_selects (r : Result) : (s.setPorts b0).selects r = s.selects r := rfl

@[simp] theorem State.putRecord_setPorts (slot : Nat) (r : Record) :
    State.putRecord (s.setPorts b0) slot r = (State.putRecord s slot r).setPorts b0 := rfl

@[simp] theorem State.putIndex_setPorts (n : Nat) (e : IndexEntry) :
    State.putIndex (s.setPorts b0) n e = (State.putIndex s n e).setPorts b0 := rfl

@[simp] theorem State.dropIndex_setPorts (n : Nat) :
    State.dropIndex (s.setPorts b0) n = (State.dropIndex s n).setPorts b0 := rfl

@[simp] theorem State.putFolio_setPorts (slot : Nat) (f : Folio) :
    State.putFolio (s.setPorts b0) slot f = (State.putFolio s slot f).setPorts b0 := rfl

@[simp] theorem State.dropFolio_setPorts (slot : Nat) :
    State.dropFolio (s.setPorts b0) slot = (State.dropFolio s slot).setPorts b0 := rfl

@[simp] theorem State.putCabin_setPorts (n : Nat) (c : Cabin) :
    State.putCabin (s.setPorts b0) n c = (State.putCabin s n c).setPorts b0 := rfl

@[simp] theorem State.setCounts_setPorts (m : ByClass (ByLocation Nat)) :
    State.setCounts (s.setPorts b0) m = (State.setCounts s m).setPorts b0 := rfl

@[simp] theorem raise_setPorts (c : Condition) :
    raise c (s.setPorts b0) = (raise c s).setPorts b0 := rfl

@[simp] theorem report_setPorts (t : CapacityTable) :
    report t (s.setPorts b0) = (report t s).setPorts b0 := rfl

@[simp] theorem reportAll_setPorts :
    reportAll (s.setPorts b0) = (reportAll s).setPorts b0 := by
  simp only [reportAll, report_setPorts]

@[simp] theorem setWatch_setPorts (w : List WatchEntry) :
    setWatch w (s.setPorts b0) = (setWatch w s).setPorts b0 := rfl

@[simp] theorem setEnables_setPorts (e : BitVec 17) :
    setEnables e (s.setPorts b0) = (setEnables e s).setPorts b0 := rfl

@[simp] theorem acknowledge_setPorts (c : BitVec 17) :
    acknowledge c (s.setPorts b0) = (acknowledge c s).setPorts b0 := rfl

@[simp] theorem setLatchMode_setPorts (m : LatchMode) :
    setLatchMode m (s.setPorts b0) = (setLatchMode m s).setPorts b0 := rfl

@[simp] theorem setLineMode_setPorts (m : LineMode) :
    setLineMode m (s.setPorts b0) = (setLineMode m s).setPorts b0 := by
  by_cases h : s.settings.lineMode = m
  · rw [setLineMode, setLineMode, if_pos (show (s.setPorts b0).settings.lineMode = m from h), if_pos h]
  · rw [setLineMode, setLineMode, if_neg (show ¬ ((s.setPorts b0).settings.lineMode = m) from h), if_neg h]
    rfl

@[simp] theorem reportRefusal_setPorts (p : Port) (t : Nat) (r : Result) (c sl : Option Nat) :
    reportRefusal p t r c sl (s.setPorts b0) = (reportRefusal p t r c sl s).setPorts b0 := by
  by_cases h : (r.isRefusal && s.selects r) = true
  · rw [reportRefusal, reportRefusal, if_pos (show (r.isRefusal && (s.setPorts b0).selects r) = true from h), if_pos h]
    rfl
  · rw [reportRefusal, reportRefusal, if_neg (show ¬ ((r.isRefusal && (s.setPorts b0).selects r) = true) from h),
    if_neg h]

@[simp] theorem appendRevocation_setPorts (v : Revocation) :
    appendRevocation v (s.setPorts b0) = (appendRevocation v s).setPorts b0 := by
  by_cases h : s.store.revoked.length < Config.revocationSize
  · rw [appendRevocation, appendRevocation,
    if_pos (show (s.setPorts b0).store.revoked.length < Config.revocationSize from h), if_pos h]
    rfl
  · rw [appendRevocation, appendRevocation,
    if_neg (show ¬ ((s.setPorts b0).store.revoked.length < Config.revocationSize) from h), if_neg h]
    rfl

@[simp] theorem leaveIndex_setPorts (n : Nat) :
    leaveIndex n (s.setPorts b0) = (leaveIndex n s).setPorts b0 := by
  by_cases h : (s.store.index.find n).isSome = true
  · rw [leaveIndex, leaveIndex, if_pos (show ((s.setPorts b0).store.index.find n).isSome = true from h), if_pos h,
    State.dropIndex_setPorts, report_setPorts]
  · rw [leaveIndex, leaveIndex, if_neg (show ¬ (((s.setPorts b0).store.index.find n).isSome = true) from h), if_neg h]

@[simp] theorem revoke_setPorts (slot n : Nat) (y : RevocationReason) :
    revoke slot n y (s.setPorts b0) = (revoke slot n y s).setPorts b0 := by
  cases h : s.record slot <;>
    simp only [revoke, State.setPorts_record, h, State.setPorts_clock, State.putRecord_setPorts, leaveIndex_setPorts,
      appendRevocation_setPorts]

@[simp] theorem endReservation_setPorts (slot : Nat) (r : Record) (v : Reservation) :
    endReservation slot r v (s.setPorts b0) = (endReservation slot r v s).setPorts b0 := by
  simp only [endReservation, State.putRecord_setPorts, leaveIndex_setPorts]

@[simp] theorem consumeMessage_setPorts (slot : Nat) (r : Record) :
    consumeMessage slot r (s.setPorts b0) = (consumeMessage slot r s).setPorts b0 := by
  by_cases h : r.message = 0
  · simp only [consumeMessage, h, if_true]
  · simp only [consumeMessage, h, if_false, State.putRecord_setPorts]

@[simp] theorem raiseReconciled_setPorts (a b : Bool) (m : ByClass (ByLocation Nat)) :
    raiseReconciled a b m (s.setPorts b0) = (raiseReconciled a b m s).setPorts b0 := by
  cases h1 : allAboard m && !a <;> cases h2 : allClear m && !b <;>
    simp only [raiseReconciled, h1, h2, if_true, if_false, raise_setPorts, Bool.false_eq_true]

@[simp] theorem reconcile_setPorts (m : ByClass (ByLocation Nat)) :
    reconcile m (s.setPorts b0) = (reconcile m s).setPorts b0 := by
  by_cases h : s.muster.phase = .cutoff <;>
    simp only [reconcile, State.setPorts_muster, State.setPorts_passage, h, if_true, if_false, raiseReconciled_setPorts]

@[simp] theorem enterCutoff_setPorts :
    enterCutoff (s.setPorts b0) = (enterCutoff s).setPorts b0 := by
  simp only [enterCutoff, State.setPorts_passage, raiseReconciled_setPorts]

@[simp] theorem enterWatch_setPorts (slot : Nat) (h : Hit) :
    enterWatch slot h (s.setPorts b0) = (enterWatch slot h s).setPorts b0 := by
  by_cases h1 : (s.passage.watch.any fun e => decide (e.slot = slot)) = true <;>
    by_cases h2 : s.passage.watch.length < Config.watchSize <;>
    simp only [enterWatch, State.setPorts_passage, h1, h2, if_true, if_false, setWatch_setPorts, raise_setPorts,
      Bool.false_eq_true]

@[simp] theorem leaveMuster_setPorts (slot : Nat) (r : Record) :
    leaveMuster slot r (s.setPorts b0) = (leaveMuster slot r s).setPorts b0 := by
  cases h : r.musterFlag
  · simp only [leaveMuster, h, Bool.false_eq_true, if_false]
  · simp only [leaveMuster, h, if_true]
    rfl

@[simp] theorem changeLocation_setPorts (slot : Nat) (r : Record) (l : Location) :
    changeLocation slot r l (s.setPorts b0) = (changeLocation slot r l s).setPorts b0 := by
  cases h3 : watchHit r.watchMode r.location l <;>
    simp only [changeLocation, State.setPorts_passage, State.setPorts_opensTabs, State.putRecord_setPorts,
      State.setCounts_setPorts, h3] <;>
    by_cases h1 : r.location = .aboard <;> by_cases h2 : s.opensTabs slot = true <;>
    simp only [h1, h2, if_true, if_false, leaveMuster_setPorts, raise_setPorts, enterWatch_setPorts,
      reconcile_setPorts, and_self, and_true,
      and_false, Bool.false_eq_true]

@[simp] theorem setLastPassage_setPorts (slot : Nat) (x : Option Passage) :
    setLastPassage slot x (s.setPorts b0) = (setLastPassage slot x s).setPorts b0 := by
  cases h : s.record slot <;> simp only [setLastPassage, State.setPorts_record, h, State.putRecord_setPorts]

@[simp] theorem leaveCabin_setPorts (slot n : Nat) :
    leaveCabin slot n (s.setPorts b0) = (leaveCabin slot n s).setPorts b0 := rfl

@[simp] theorem leaveCabin_of_setPorts (slot : Nat) (n : Option Nat) :
    leaveCabin? slot n (s.setPorts b0) = (leaveCabin? slot n s).setPorts b0 := by
  cases n <;> simp only [leaveCabin?, leaveCabin_setPorts]

@[simp] theorem storeReevaluated_setPorts (slot : Nat) (f : Folio) :
    storeReevaluated slot f (s.setPorts b0) = (storeReevaluated slot f s).setPorts b0 := by
  cases h : f.reevaluated.2 <;>
    simp only [storeReevaluated, h, State.putFolio_setPorts, raise_setPorts, if_true, if_false, Bool.false_eq_true]

@[simp] theorem limitDecline_setPorts (slot : Nat) (f : Folio) :
    limitDecline slot f (s.setPorts b0) = (limitDecline slot f s).setPorts b0 := rfl

@[simp] theorem loseMember_setPorts (slot : Nat) :
    loseMember slot (s.setPorts b0) = (loseMember slot s).setPorts b0 := by
  cases h : s.folio slot with
  | none => simp only [loseMember, State.setPorts_folio, h]
  | some f =>
    by_cases hc : f.state = .closed ∧ f.members - 1 = 0 <;>
      simp only [loseMember, State.setPorts_folio, h, hc, if_true, if_false, State.dropFolio_setPorts,
        State.putFolio_setPorts, and_self]

@[simp] theorem gainMember_setPorts (slot : Nat) :
    gainMember slot (s.setPorts b0) = (gainMember slot s).setPorts b0 := by
  cases h : s.folio slot <;> simp only [gainMember, State.setPorts_folio, h, State.putFolio_setPorts]

@[simp] theorem postToRecord_setPorts (slot : Nat) (g : Figures) :
    postToRecord slot g (s.setPorts b0) = (postToRecord slot g s).setPorts b0 := by
  cases h : s.record slot <;> simp only [postToRecord, State.setPorts_record, h, State.putRecord_setPorts]

@[simp] theorem rollOver_setPorts (day : Int) :
    rollOver day (s.setPorts b0) = (rollOver day s).setPorts b0 := rfl

@[simp] theorem freeTab_setPorts (entry : Nat) :
    freeTab entry (s.setPorts b0) = (freeTab entry s).setPorts b0 := rfl

@[simp] theorem releaseTab_setPorts (entry : Nat) (t : Tab) :
    releaseTab entry t (s.setPorts b0) = (releaseTab entry t s).setPorts b0 := by
  cases h : (freeTab entry s).folio t.folio <;>
    simp only [releaseTab, freeTab_setPorts, State.setPorts_folio, h, storeReevaluated_setPorts, report_setPorts]

end

/-! ## The reply after an effect computed on the state before the take -/

/-- A management request: the effect `u` is computed on the state before the take. -/
theorem placeReply_setManagement {u s : State} (kind : Byte) (body : List Byte) (code : ReplyCode) (reply : List Byte)
    (hm : u.management = s.management) (hw : u.settings.watchdogCode = s.settings.watchdogCode)
    (hc : u.clock.runTime = s.clock.runTime) :
    placeReply kind
        { code := code, body := reply, state := u.setManagement (takeWrite kind body s).management } =
      u.replied kind body code reply :=
  placeReply_replied kind body code reply hm hw hc

/-- A terminal request: the effect `u` is computed on the state before the take. -/
theorem holdReply_setPorts {u s : State} {p : Port} {f : Frame} (r : Result) (body : List Byte)
    (hp : u.ports = s.ports) : holdReply p f r body (u.setPorts (takeFrame p s).ports) = u.answered p f r body :=
  holdReply_answered r body hp

/-- A frame that the terminal check or the service-state check bars is refused with an empty body, and no unit decides it
(R172, R173). -/
theorem takeRequest_barred {s : State} {p : Port} {f : Frame} {kind : Byte} {permitted : TerminalEntry → Bool}
    {size : Nat} {d : TerminalEntry → Frame → State → Verdict} {x : Result}
    (h : (s.port p).queue.head? = some f) (hk : f.kind = kind)
    (ha : admission s (s.terminal p f.term) (decide (kind = 0x00)) permitted size f = some x) :
    takeRequest p kind permitted size d s = (reportRefusal p f.term x none none s).answered p f x [] := by
  simp only [takeRequest, State.oldestFrame, h, hk, if_true, ha]
  rw [takeFrame_eq, answer, bare]
  simp only
  rw [reportRefusal_setPorts, holdReply_setPorts x [] (by simp)]

end Sys2Proof.Machine
end

