-- ==== Sys2Proof/Tests/Slice0.lean ====
section
/-! SUPPORT. Tests: the checks of WellFormed, worked numbers of the manual, one step of each family of commands, and
for each statement with hypotheses a state and operands that meet them. -/

namespace Sys2Proof.Tests

open Sys2Proof Sys2Proof.Machine

/-! ## WellFormed refuses what breaks a check -/

theorem test_wellFormed_listedKind : Instr.wellFormed (.unknownKind 0x01 []) = false := by decide

theorem test_wellFormed_longBody (body : List Byte) (h : body.length = 1025) :
    Instr.wellFormed (.readRecord body) = false := by
  simp [Instr.wellFormed, Instr.kindGood, Instr.slotGood, Instr.request, Config.managementBody, h]

theorem test_wellFormed_recordSlot : Instr.wellFormed (.reservationExpiry 12288) = false := by decide

theorem test_wellFormed_tabEntry : Instr.wellFormed (.tabExpiry 1024) = false := by decide

theorem test_wellFormed_good :
    Instr.wellFormed (.unknownKind 0xEE []) = true ∧ Instr.wellFormed (.reservationExpiry 12287) = true ∧
      Instr.wellFormed (.tabExpiry 1023) = true ∧ Instr.wellFormed (.readRecord [0, 0]) = true := by decide

/-! ## A small ship -/

/-- An adult guest, ACTIVE and ABOARD, of folio 0, with credential 9. -/
def guest : Record where
  life := .active
  cls := .guestAdult
  reference := 77
  folio := 0
  role := none
  homeCabin := some 100
  secondCabin := none
  location := .aboard
  final := false
  lastPassage := none
  station := 4
  musterFlag := false
  musteredAt := none
  tier := 2
  drinks := 0
  cap := none
  spend := 0
  spendPrevious := 0
  message := 0
  shows := 0
  watchMode := .none
  credentials := [{ number := 9, kind := .card }]
  reservation := none

/-- The folio of the traced port day (11). -/
def account : Folio where
  state := .active
  cause := none
  resumeMode := .auto
  soft := 30000
  hard := 40000
  allowance := 1
  grace := 1
  balance := 10000
  holds := 0
  prepaid := 0
  openTabs := 0
  members := 1
  spend := 0
  spendPrevious := 0

/-- The part in SERVING with one record in slot 0, its folio in slot 0, its cabin, a role, a venue and a tier. -/
def ship (r : Record) (f : Folio) : State :=
  { State.reset with
    management := { ManagementPort.powerOn with service := .serving }
    store :=
      { records := [(0, r)], index := [(9, { slot := 0, status := .active })],
        revoked := [{ number := 6, slot := 5, reason := .lost, time := 10 }] }
    access :=
      { cabins := [(100, { zone := 12, occupants := [0], mode := .normal })]
        roles :=
          [(3, { zones := 0x1000, cabin := true, privacyOverride := false, lockoutOverride := false, sweep := true })]
        policies := ClassPolicy.powerOn }
    folios := [(0, f)]
    charge :=
      { venues := [(12, { category := .bar, rate := 1800, classes := 3, isOpen := true, timeoutCode := 5 })]
        tiers := [(2, { cap := 1500, count := 3 })] }
    clock := { runTime := 36000, millis := 0, status := .set, offset := some 64000, lastRolled := some 0 } }

/-- A frame of terminal 3 with a kind and a body. -/
def frame (kind : Byte) (body : List Byte) : Frame := { term := 3, tag := 7, kind := kind, body := body }

/-- Port 0 with a frame of terminal 3 at the front of its queue, and the entry of that terminal. -/
def asks (s : State) (e : TerminalEntry) (kind : Byte) (body : List Byte) : State :=
  { s with
    terminals := [(3, e)]
    ports := s.ports.set 0 { PortBlock.powerOn with queue := [frame kind body] } }

/-- The entry of an enabled terminal. -/
def terminal (k : TerminalKind) (b : Option Binding) : TerminalEntry := { kind := some k, binding := b, enabled := true }

/-- The frame asked can be taken, in SERVING. -/
theorem asks_takes (s : State) (e : TerminalEntry) (kind : Byte) (body : List Byte) (he : e.enabled = true)
    (hs : s.management.service ≠ .loading) : (asks s e kind body).takes 0 e (frame kind body) := by
  refine ⟨?_, ?_, he, hs⟩ <;> simp [asks, State.port, State.terminal, terminalKey, frame, Table.value, Table.find,
    PortBlock.powerOn]

/-- Credential 9 finds the record of the ship. -/
theorem ship_finds (r : Record) (f : Folio) (e : TerminalEntry) (kind : Byte) (body : List Byte) :
    (asks (ship r f) e kind body).finds 9 0 r := by
  refine ⟨by decide, by decide, rfl, rfl⟩

/-- The reply of the request that a command leaves in hand at port 0. -/
def replyOf (c : Instr) (s : State) : Option (Result × List Byte) :=
  match exec c s with
  | .next t => (t.port 0).inHand.map fun h => (h.reply.result, h.reply.body)
  | _ => none

/-- What a management command leaves in the reply slot. -/
def answerOf (c : Instr) (s : State) : Option (ReplyCode × List Byte) :=
  match exec c s with
  | .next t => some (t.management.reply.code, t.management.reply.body)
  | _ => none

/-- One field of the state after a command. -/
def after {α : Type} (c : Instr) (s : State) (field : State → α) : Option α :=
  match exec c s with
  | .next t => some (field t)
  | _ => none

/-! ## Worked numbers of the manual -/

/-- The published check value of the polynomial and start value of R162, over the digits 1 to 9. -/
theorem test_checkSum :
    checkSum [0x31, 0x32, 0x33, 0x34, 0x35, 0x36, 0x37, 0x38, 0x39] = 0x29B1 := by decide +kernel

/-- The port day of 11: 2,000 at 18 % gives V = 360 and D = 2,360; 6,000 gives V = 1,080. -/
theorem test_service : service 2000 1800 = 360 ∧ service 6000 1800 = 1080 ∧ service 1475 1800 = 266 := by decide

/-- A presented credential of an occupant opens the cabin door: no message, and the mode NORMAL (R45, R49). -/
theorem test_unlock :
    replyOf (.unlock 0) (asks (ship guest account) (terminal .lock (some (.cabin 100))) 0x10 (bytes 6 9)) =
      some (.ok, [0x00, 0x01, 0x00]) := by decide

/-- An unknown number is DENY_UNKNOWN and a revoked one DENY_REVOKED (R22). -/
theorem test_lookup_refused :
    replyOf (.lookup 0) (asks (ship guest account) (terminal .kiosk none) 0x40 (bytes 6 8)) = some (.denyUnknown, []) ∧
      replyOf (.lookup 0) (asks (ship guest account) (terminal .kiosk none) 0x40 (bytes 6 6)) =
        some (.denyRevoked, []) := by decide

/-- PRIVACY_ON at a NORMAL cabin (R37). -/
theorem test_lockMode :
    replyOf (.lockMode 0) (asks (ship guest account) (terminal .lock (some (.cabin 100))) 0x11 [0x01]) =
      some (.ok, [0x01]) := by decide

/-- The close of the port day's charge without package: 2,000 at 18 % posts 2,360 (11, "Traced port day"). -/
theorem test_charge :
    after (.charge 0)
      (asks (ship { guest with tier := 0 } account) (terminal .pos (some (.venue 12))) 0x20
        (bytes 6 9 ++ bytes 4 2000 ++ [0x00])) (fun t => (t.folio 0).map fun f => (f.balance, f.spend, f.grace)) =
      some (some (12360, 2360, 1)) := by decide

/-- A guest at 18,000 with 8,000 held opens tab 1 for 60 minutes (11; R146). -/
theorem test_openTab :
    replyOf (.openTab 0)
      (asks (ship guest account) (terminal .pos (some (.venue 12))) 0x21 (bytes 6 9 ++ bytes 4 8000)) =
      some (.ok, bytes 2 1 ++ bytes 4 8000 ++ bytes 2 60) := by decide

/-- At sea no pass is made (R57). -/
theorem test_gangway_atSea :
    replyOf (.gangway 0)
      (asks (ship guest account) (terminal .gangway (some (.gangway 1))) 0x30 (bytes 6 9 ++ [0x01])) =
      some (.denyPhase, []) := by decide

/-- Bytes 1 and 2 of a body spell 258, most significant first (R159). -/
theorem test_bytes : bytes 2 258 = [0x01, 0x02] ∧ number [0x01, 0x02] = 258 := by decide

/-- A terminal frame is collected, byte by byte, and arrives (R160, R161): a PING of terminal 3. -/
theorem test_receive :
    after (.receivedByte 0 0xC3 true) State.reset (fun t => (t.port 0).receiver) = some (.frame [] 0) ∧
      collectedWhole ([0x00, 0x03, 0x07, 0x00] ++ checkSumBytes [0x00, 0x03, 0x07, 0x00]) = true ∧
      frameGood ([0x00, 0x03, 0x07, 0x00] ++ checkSumBytes [0x00, 0x03, 0x07, 0x00]) = true ∧
      frameGood ([0x00, 0x40, 0x07, 0x00] ++ checkSumBytes [0x00, 0x40, 0x07, 0x00]) = false := by decide +kernel

/-- A PING in LOADING is answered (R174). -/
theorem test_ping :
    replyOf (.ping 0) (asks State.reset TerminalEntry.powerOn 0x00 []) = some (.ok, [0x00, 0x00, 0x00]) := by decide

/-- OPEN_SERVICE before a SET_TIME is TIME_NOT_SET (R184), and after one is DONE. -/
theorem test_openService :
    (answerOf (.openService []) State.reset).map Prod.fst = some .timeNotSet ∧
      (answerOf (.setTime (bytes 8 100000)) State.reset).map Prod.fst = some .done := by decide

/-- Reserved and confirmed on a FREE slot: NOT_FOUND; a body of the wrong size: BAD_REQUEST; a slot out of range: RANGE
(R2, R182). -/
theorem test_refusals :
    answerOf (.holdRecord (bytes 2 1)) (ship guest account) = some (.notFound, []) ∧
      answerOf (.holdRecord [0x00]) (ship guest account) = some (.badRequest, []) ∧
      answerOf (.holdRecord (bytes 2 12288)) (ship guest account) = some (.range, []) := by decide

/-- No row of the table gives bits (Decode). -/
theorem test_decode : decodeTableWord 8 0x10 = none := rfl

/-- A step on an empty queue idles, and a command at the front is carried out (log 1). -/
theorem test_step :
    (step State.reset = .next State.reset) ∧
      step { State.reset with pending := [.rollover] } = .next State.reset := ⟨rfl, rfl⟩

/-! ## Witnesses: states and operands that meet the hypotheses of the statements -/

/-- StepRunsTheFrontCommand: a state with no command waiting. -/
theorem witness_StepRunsTheFrontCommand : State.reset.pending = [] := rfl

/-- ResetAndPowerOn: a class other than CREW. -/
theorem witness_ResetAndPowerOn : PersonClass.visitor ≠ .crew := by decide

/-! ### The laws of the state -/

/-- The guest with a reservation of 11 in place of 9. -/
def reserved : Record :=
  { guest with reservation := some { number := 11, kind := .card, replaces := some 9, expiry := 36000 } }

/-- The account with a hold of 8,000 for one open tab. -/
def securing : Folio := { account with holds := 8000, openTabs := 1 }

/-- A CHARGE in hand, with its reply. -/
def chargeInHand : InHand :=
  { frame := { term := 3, tag := 21, kind := 0x20, body := [] },
    reply := { term := 3, tag := 21, result := .denyLimit, body := [] } }

/-- The ship with a tab open on its folio, a reservation, and a port that has heard a frame and has another in hand. -/
def laden (c : Instr) : State :=
  { ship reserved securing with
    store :=
      { records := [(0, reserved)]
        index := [(9, { slot := 0, status := .active }), (11, { slot := 0, status := .pending })]
        revoked := [{ number := 6, slot := 5, reason := .lost, time := 10 }] }
    ports := State.reset.ports.set 0
      { PortBlock.powerOn with
        queue := [frame 0x10 (bytes 6 9)]
        inHand := some chargeInHand
        receiver := .frame [0x3C] 35999999
        silence := .active
        silenceExpiry := some 36010 }
    passage :=
      { counts := { State.reset.passage.counts with
          guestAdult := { notEmbarked := 0, aboard := 1, ashore := 0, disembarked := 0 } }
        watch := [{ slot := 0, wentAshore := true, cameAboard := false }] }
    notice := { NoticeUnit.powerOn with line := .asserted }
    tabs :=
      { entries :=
          [(0, { number := 1, folio := 0, opener := 0, venue := 12, hold := 8000, opened := 33000, expiry := 36600 })]
        nextNumber := 2 }
    pending := [c] }

theorem laden_record {c : Instr} {slot : Nat} {r : Record} (h : (laden c).record slot = some r) :
    slot = 0 ∧ r = reserved := by
  simp only [State.record, laden, Table.find] at h
  split at h
  · rename_i hs
    exact ⟨hs.symm, (Option.some.inj h).symm⟩
  · exact absurd h (by simp)

theorem laden_folio {c : Instr} {slot : Nat} {f : Folio} (h : (laden c).folio slot = some f) :
    slot = 0 ∧ f = securing := by
  simp only [State.folio, laden, ship, Table.find] at h
  split at h
  · rename_i hs
    exact ⟨hs.symm, (Option.some.inj h).symm⟩
  · exact absurd h (by simp)

theorem laden_recordsGood (c : Instr) : (laden c).recordsGood := by
  refine ⟨rfl, ?_⟩
  intro slot r h
  obtain ⟨-, rfl⟩ := laden_record h
  refine ⟨by decide, by decide, by decide, by decide, by decide, by decide, ?_⟩
  intro v _ h2
  exact absurd h2 (by decide)

theorem laden_tabsGood (c : Instr) : (laden c).tabsGood := by
  refine ⟨rfl, rfl, by simp [laden, Config.lastTabNumber], by simp [laden], ?_⟩
  intro e he
  simp only [laden, List.mem_singleton] at he
  subst he
  exact ⟨by decide, by decide, _, rfl, rfl⟩

theorem witness_StepKeepsPortsAndListSizes :
    (laden (.receivedByte 0 0x00 true)).portsGood ∧ (laden (.receivedByte 0 0x00 true)).sizesGood ∧
      ∃ t, step (laden (.receivedByte 0 0x00 true)) = .next t := by
  refine ⟨?_, by unfold State.sizesGood; decide, _, rfl⟩
  intro p
  fin_cases p <;>
    refine ⟨by decide, by decide, by decide, by decide, ?_, ?_⟩ <;>
      simp [laden, State.port, State.reset, PortBlock.powerOn, partialFrame, Config.frameBody]

theorem witness_StepKeepsServiceAndPhase :
    (laden (.endMuster [])).serviceGood ∧ (laden (.endMuster [])).phaseGood ∧ (laden .runTimeAdvance).dayGood ∧
      (∃ t, step (laden (.endMuster [])) = .next t) ∧ ∃ t, step (laden .runTimeAdvance) = .next t := by
  refine ⟨?_, ?_, ⟨by decide, by decide, ?_⟩, ⟨_, rfl⟩, _, rfl⟩
  · unfold State.serviceGood
    decide
  · unfold State.phaseGood
    decide
  · intro t l ht hl
    cases ht
    cases hl
    decide

theorem witness_StepKeepsLineWithDemand :
    (laden (.readWatch [0x01])).lineGood ∧ ∃ t, step (laden (.readWatch [0x01])) = .next t := by
  refine ⟨?_, _, rfl⟩
  simp only [State.lineGood, laden, ship, State.reset, Settings.powerOn, NoticeUnit.powerOn]
  decide

theorem witness_StepKeepsCountsWithRecords :
    let s := laden (.setLocation (bytes 2 0 ++ [0x02]))
    s.countsGood ∧ s.recordsGood ∧ s.musterGood ∧ s.tabsGood ∧ s.membersGood ∧ ∃ t, step s = .next t := by
  refine ⟨⟨rfl, ?_⟩, laden_recordsGood _, ⟨rfl, rfl, ?_, ?_⟩, laden_tabsGood _, ⟨rfl, rfl, ?_, ?_⟩, _, rfl⟩
  · intro c l
    cases c <;> cases l <;> decide
  · intro c
    cases c <;> decide
  · intro n
    simp [laden, State.tally, ship, State.reset, Table.value, reserved, guest]
  · intro slot r h
    obtain ⟨-, rfl⟩ := laden_record h
    decide
  · intro slot f h
    obtain ⟨rfl, rfl⟩ := laden_folio h
    decide

theorem witness_StepKeepsRecordsGood :
    let s := laden (.confirmCredential (bytes 2 0 ++ bytes 6 11))
    s.recordsGood ∧ s.credentialsGood ∧ s.cabinsGood ∧ ∃ t, step s = .next t := by
  refine ⟨laden_recordsGood _, ⟨rfl, rfl, by decide, ?_, ?_, ?_⟩, ⟨rfl, rfl, ?_⟩, _, rfl⟩
  · intro n slot
    simp [laden, State.record, Table.find, Record.holds, reserved, guest]
    grind
  · intro n slot
    simp [laden, State.record, Table.find, reserved, guest]
    grind
  · intro slot r h
    obtain ⟨-, rfl⟩ := laden_record h
    decide
  · intro n
    by_cases h : 100 = n <;>
      simp [laden, State.cabin, ship, State.record, Table.value, Table.find, reserved, guest, Config.cabinOccupants,
        Cabin.powerOn, h]
    exact fun slot => eq_comm

theorem witness_StepKeepsFoliosWithTabs :
    (laden (.tabExpiry 0)).foliosGood ∧ (laden (.tabExpiry 0)).tabsGood ∧ ∃ t, step (laden (.tabExpiry 0)) = .next t := by
  refine ⟨⟨rfl, rfl, ?_, ?_⟩, laden_tabsGood _, _, rfl⟩
  · intro slot f h
    obtain ⟨rfl, rfl⟩ := laden_folio h
    refine ⟨?_, by decide, by decide⟩
    unfold Folio.good
    decide
  · intro entry t h
    simp only [laden, Table.find] at h
    split at h
    · cases h
      exact ⟨by decide, _, rfl, by decide⟩
    · exact absurd h (by simp)

theorem witness_StepPassesNoTimer :
    (laden .runTimeAdvance).timersGood ∧ ∃ t, step (laden .runTimeAdvance) = .next t := by
  refine ⟨⟨by decide, by decide, ?_, ?_, ?_, ?_, trivial⟩, _, rfl⟩
  · intro slot r v h hv
    obtain ⟨-, rfl⟩ := laden_record h
    cases hv
    decide
  · intro entry t h
    simp only [laden, Table.find] at h
    split at h
    · cases h
      decide
    · exact absurd h (by simp)
  · intro p e h
    fin_cases p <;>
      (simp [laden, State.port, State.reset, PortBlock.powerOn, ship] at h ⊢; try omega)
  · intro e h
    exact absurd h (by simp [laden, ship, ManagementPort.powerOn])

/-! ### The management port -/

theorem witness_WriteNotTakenIsDiscarded :
    (Instr.wellFormed (.readCounts []) = true ∧ Instr.request (.readCounts []) = some (0x31, []) ∧
        ({ ManagementPort.powerOn with state := .replyWaiting } : ManagementPort).state ≠ .idle) ∧
      ¬ (State.reset.management.state = .idle ∧ managementFrameGood [0x31] = true) := by decide

theorem witness_EveryTakenRequestIsAnswered :
    Instr.wellFormed (.holdRecord (bytes 2 12287)) = true ∧
      Instr.request (.holdRecord (bytes 2 12287)) = some (0x07, bytes 2 12287) ∧ (ship guest account).idle := by
  unfold State.idle
  decide

/-- The ship in STANDALONE. -/
def adrift : State :=
  { ship guest account with
    management := { ManagementPort.powerOn with service := .standalone, standaloneSince := some 35000 } }

theorem witness_GateRefusesBeforeTheRequestsOwnChecks :
    ((0x00 : Byte) ∉ managementKinds ∧ ([] : List Byte).length ≤ 1024 ∧ adrift.idle) ∧
      Instr.wellFormed (.holdRecord []) = true ∧ Instr.request (.holdRecord []) = some (0x07, []) ∧
      (0x07 : Byte) ∈ managementKinds ∧ (0x07 : Byte) ∉ standaloneKinds ∧ adrift.management.service = .standalone := by
  unfold State.idle
  decide

/-- The management port in a state, with the reply of power-on. -/
def portIn (st : PortState) : State := { State.reset with management := { ManagementPort.powerOn with state := st } }

theorem witness_ReadSendsReplyAndFreesPort :
    ((portIn .replyWaiting).management.state = .replyWaiting ∧
        (managementReplyBytes (portIn .replyWaiting).management.reply).length = 6 ∧ 6 ≤ 6 ∧ 5 < 6) ∧
      (portIn .idle).management.state = .idle ∧ (portIn .working).management.state = .working ∧
      ((0x00 : Byte) ≠ 0x01 ∧ (0x00 : Byte) ≠ 0x02) ∧ (0xFF : Byte) ≠ 0x01 ∧ (0xFF : Byte) ≠ 0x02 := by decide

/-- A poll sends the status byte and FFh for each byte clocked after it (R178, R179): 00h is a poll, and so is 7Fh. -/
theorem test_poll :
    after (.readReply [0x00, 0x00, 0x00]) (portIn .replyWaiting) (fun t => (t.management.shiftedOut, t.management.state)) =
        some ([0x02, 0xFF, 0xFF], .replyWaiting) ∧
      after (.readReply [0x7F]) (portIn .idle) (fun t => t.management.shiftedOut) = some [0x00] := by decide

/-! ### Guest records and credentials -/

/-- The highest record slot and the highest credential number. -/
def topSlot : Nat := 12287
def topNumber : Nat := 281474976710655

/-- The ship with its record in the highest slot and the highest number in the index. -/
def moored (r : Record) (st : CredentialStatus) : State :=
  { ship r account with
    store :=
      { records := [(topSlot, r)], index := [(topNumber, { slot := topSlot, status := st })],
        revoked := [{ number := 6, slot := 5, reason := .lost, time := 10 }] } }

/-- The reservation of the highest number. -/
def reservation (replaces : Option Nat) : Reservation :=
  { number := topNumber, kind := .band, replaces := replaces, expiry := 36000 }

theorem witness_RecordFieldRequestsComplete :
    (moored guest .active).ready ∧ topSlot < 12288 ∧ (moored guest .active).record topSlot = some guest ∧
      (255 < 256 ∧ 7 ≤ 7) ∧ (∀ v, some 1000000 = some v → v ≤ 1000000) ∧ 15 ≤ 15 ∧ guest.life = .active ∧
      (moored { guest with life := .held } .active).record topSlot = some { guest with life := .held } := by
  refine ⟨by unfold State.ready; decide, by decide, by decide, by decide, ?_, by decide, rfl, by decide⟩
  intro v h
  cases h
  exact Nat.le_refl _

/-- An issue of a crew member with every field at the top of its range. -/
def issued : IssueFields :=
  { cls := .crew, reference := 4294967295, folio := 0, location := .aboard, tier := 7, cap := some 1000000,
    station := 15, role := some 31 }

theorem witness_IssueRecordTakesLowestFreeSlot :
    (ship guest { account with members := 7, state := .grace }).ready ∧
      (ship guest { account with members := 7, state := .grace }).lowestFreeRecord 1 ∧ issued.reference < 2 ^ 32 ∧
      issued.folio < 8192 ∧ issued.tier ≤ 7 ∧ issued.station < 16 ∧ (∀ v, issued.cap = some v → v ≤ 1000000) ∧
      (issued.location = .notEmbarked ∨ issued.location = .aboard) ∧ (issued.role ≠ none ↔ issued.cls = .crew) ∧
      (∀ v, issued.role = some v → v < 32) ∧
      (ship guest { account with members := 7, state := .grace }).folio 0 =
        some { account with members := 7, state := .grace } ∧ 7 < 8 := by
  refine ⟨by unfold State.ready; decide, by unfold State.lowestFreeRecord; decide, by decide,
    by decide, by decide, by decide, ?_, by decide, by decide, ?_, by decide, by decide⟩ <;>
    · intro v h
      cases h
      decide

theorem witness_ReservationIsMadeAndEnds :
    ((ship guest account).ready ∧ (ship guest account).record 0 = some guest ∧ topNumber < 2 ^ 48 ∧
        guest.holds 9 = true ∧ (ship guest account).store.index.find topNumber = none ∧
        (∀ v ∈ (ship guest account).store.revoked, v.number ≠ topNumber) ∧ guest.reservation = none ∧
        (guest.credentials.length < 2 ∨ some 9 ≠ none) ∧ (ship guest account).store.index.length < 24576) ∧
      let r : Record := { guest with reservation := some (reservation none) }
      (moored r .pending).record topSlot = some r ∧ r.reservation = some (reservation none) ∧
        (moored r .pending).store.index.find topNumber = some { slot := topSlot, status := .pending } ∧
        (moored r .pending).ready ∧ (reservation none).expiry ≤ (moored r .pending).clock.runTime ∧
        ({ (moored r .pending).clock with runTime := 35999 } : TimeBase).runTime < (reservation none).expiry := by
  unfold State.ready
  decide

/-- The ordered checks of RESERVE_CREDENTIAL (R10). -/
def reserveChecks (s : State) (n : Nat) (replaces : Option Nat) (r : Record) : List (Prop × ReplyCode) :=
  [(s.store.index.find n ≠ none, .duplicate), (∃ v ∈ s.store.revoked, v.number = n, .revokedNumber),
    (∃ m, replaces = some m ∧ r.holds m = false, .notFound), (r.reservation ≠ none, .credFull),
    (2 ≤ r.credentials.length ∧ replaces = none, .credFull), (24576 ≤ s.store.index.length, .full)]

/-- The guest with two credentials. -/
def twoCards : Record := { guest with credentials := [{ number := 9, kind := .card }, { number := 10, kind := .band }] }

/-- The ship with an index of a number of entries. -/
def indexOf (entries : Nat) : State :=
  { ship guest account with
    store := { (ship guest account).store with
      index := List.replicate entries (9, { slot := 0, status := .active }) } }

theorem witness_ReservationIsMadeAndEnds_refused :
    (∀ r, (ship r account).ready ∧ (ship r account).record 0 = some r) ∧
      (∀ k, (indexOf k).ready ∧ (indexOf k).record 0 = some guest) ∧ topNumber < 2 ^ 48 ∧
      firstRefusal (reserveChecks (ship guest account) 9 none guest) .duplicate ∧
      firstRefusal (reserveChecks (ship guest account) 6 none guest) .revokedNumber ∧
      firstRefusal (reserveChecks (ship guest account) topNumber (some 8) guest) .notFound ∧
      firstRefusal (reserveChecks (ship reserved account) topNumber (some 9) reserved) .credFull ∧
      firstRefusal (reserveChecks (ship twoCards account) topNumber none twoCards) .credFull ∧
      ∀ k, 24576 ≤ k → firstRefusal (reserveChecks (indexOf k) topNumber none guest) .full := by
  have h : ∀ n, Table.find (List.replicate n (9, ({ slot := 0, status := .active } : IndexEntry))) topNumber = none := by
    intro n
    induction n with
    | zero => rfl
    | succ n ih => simpa [List.replicate_succ, Table.find, topNumber] using ih
  refine ⟨fun r => ⟨⟨rfl, by simp [ship]⟩, rfl⟩, fun k => ⟨⟨rfl, by simp [indexOf, ship]⟩, rfl⟩, by decide, ?_⟩
  simp [reserveChecks, indexOf, ship, h]
  simp [topNumber, Table.find, Record.holds, reserved, twoCards, guest]

theorem witness_ConfirmCredentialActivates :
    (let r : Record := { guest with reservation := some (reservation none) }
     (moored r .pending).ready ∧ topNumber < 2 ^ 48 ∧ (moored r .pending).record topSlot = some r ∧
       (reservation none).number = topNumber ∧ (reservation none).replaces = none) ∧
      let r : Record := { guest with reservation := some (reservation (some 9)) }
      (ship r account).record 0 = some r ∧ (reservation (some 9)).replaces = some 9 ∧ r.holds 9 = true ∧
        (ship r account).store.index.find 9 = some { slot := 0, status := .active } := by
  unfold State.ready
  decide

/-- A revocation list of 2,048 entries. -/
def fullList : State :=
  { ship guest account with
    store := { (ship guest account).store with
      revoked := List.replicate 2048 { number := 6, slot := 5, reason := .lost, time := 10 } } }

theorem witness_RevokeRemoveAndTheFullList :
    ((moored guest .active).ready ∧ topNumber < 2 ^ 48 ∧
        (moored guest .active).store.index.find topNumber = some { slot := topSlot, status := .active } ∧
        (moored guest .active).record topSlot = some guest) ∧
      (moored guest .pending).store.index.find topNumber = some { slot := topSlot, status := .pending } ∧
      ((moored guest .active).store.index.find 6 = none ∧ (∃ v ∈ (moored guest .active).store.revoked, v.number = 6)) ∧
      ((moored guest .active).store.index.find 1 = none ∧ ∀ v ∈ (moored guest .active).store.revoked, v.number ≠ 1) ∧
      ((moored guest .active).store.revoked.find? fun w => decide (w.number = 6)) =
        some { number := 6, slot := 5, reason := .lost, time := 10 } ∧
      (moored guest .active).store.revoked.length < 2048 ∧ fullList.store.revoked.length = 2048 := by
  unfold State.ready
  decide +kernel

theorem witness_RetireRecordFreesTheSlot :
    let r : Record := { guest with location := .disembarked, reservation := some (reservation none) }
    let f : Folio := { account with members := 1, state := .closed }
    let s := ship r f
    s.ready ∧ 0 < 12288 ∧ s.record 0 = some r ∧ (r.location = .notEmbarked ∨ r.location = .disembarked) ∧
      (∀ e ∈ s.tabs.entries, e.2.opener ≠ 0) ∧ s.folio r.folio = some f ∧ (1 < f.members ∨ f.state = .closed) ∧
      Table.wf s.store.records = true ∧ Table.wf s.store.index = true ∧ Table.wf s.folios = true ∧
      Table.wf s.access.cabins = true ∧
      (s.store.revoked.length ≤ 2048 ∧ s.store.revoked.length + r.credentials.length ≤ 2048) ∧
      (fullList.store.revoked.length ≤ 2048 ∧ 2048 < fullList.store.revoked.length + r.credentials.length) := by
  unfold State.ready
  decide +kernel

/-- The ordered checks of RETIRE_RECORD (R17). -/
def retireChecks (s : State) (slot : Nat) (r : Record) (f : Folio) : List (Prop × ReplyCode) :=
  [(r.location = .aboard ∨ r.location = .ashore, .wrongState), (∃ e ∈ s.tabs.entries, e.2.opener = slot, .tabsOpen),
    (f.members ≤ 1 ∧ f.state ≠ .closed, .folioOpen)]

theorem witness_RetireRecordFreesTheSlot_refused :
    (∀ r f tabs, let s := { ship r f with tabs := tabs }
      s.ready ∧ s.record 0 = some r ∧ (r.folio = 0 → s.folio r.folio = some f)) ∧
      (∀ l, l = Location.aboard ∨ l = .ashore →
        firstRefusal (retireChecks (laden .rollover) 0 { reserved with location := l } securing) .wrongState) ∧
      ∀ l, l = Location.notEmbarked ∨ l = .disembarked →
        firstRefusal (retireChecks (laden .rollover) 0 { reserved with location := l } securing) .tabsOpen ∧
          firstRefusal (retireChecks (ship guest account) 0 { guest with location := l } account) .folioOpen := by
  refine ⟨fun r f tabs => ⟨⟨rfl, by simp [ship]⟩, rfl, fun h => by rw [h]; rfl⟩, ?_, ?_⟩ <;>
    · rintro l (rfl | rfl) <;> simp [retireChecks, laden, ship, State.reset, account]

/-- A retirement enters the record's credential into the revocation list with reason RETIRED (R18). -/
theorem test_retire :
    after (.retireRecord (bytes 2 0)) (ship { guest with location := .notEmbarked } { account with members := 2 })
        (fun t => t.store.revoked.getLast?) =
      some (some { number := 9, slot := 0, reason := .retired, time := 36000 }) := by decide

theorem witness_RecordReadsChangeNothing :
    ((moored guest .active).idle ∧ topSlot < 12288 ∧ (moored guest .active).record topSlot = some guest) ∧
      (moored guest .active).record 0 = none ∧
      ((ship guest account).store.index.find 9 = some { slot := 0, status := .active } ∧
        (ship guest account).record 0 = some guest ∧
        (guest.credentials.find? fun c => decide (c.number = 9)) = some { number := 9, kind := .card }) ∧
      (let r : Record := { guest with reservation := some (reservation none) }
       (moored r .pending).store.index.find topNumber = some { slot := topSlot, status := .pending } ∧
         (moored r .pending).record topSlot = some r ∧ r.reservation = some (reservation none)) ∧
      ((ship guest account).store.index.find 6 = none ∧
        ((ship guest account).store.revoked.find? fun w => decide (w.number = 6)) =
          some { number := 6, slot := 5, reason := .lost, time := 10 }) ∧
      ((ship guest account).store.index.find 1 = none ∧
        ((ship guest account).store.revoked.find? fun w => decide (w.number = 1)) = none) ∧ 2047 < 2048 := by
  unfold State.idle
  decide

/-- The ship with an ACTIVE, a PENDING and a revoked number: 9, 11 and 6. -/
def crowd : State := { ship reserved account with store := (laden .rollover).store }

/-- The numbers that miss in the crowd: 0 and 8, the pending 11 and the revoked 6. -/
theorem crowd_misses (s : State) (p : Port) (f : Frame) (h : s.store = (laden .rollover).store) :
    (∀ n, n = 0 ∨ n = 8 → ∃ t, lookupMisses s p f n .denyUnknown t) ∧ (∃ t, lookupMisses s p f 11 .denyPending t) ∧
      ∃ t, lookupMisses s p f 6 .denyRevoked t := by
  refine ⟨fun n hn => ⟨_, Or.inl ⟨rfl, ?_, rfl⟩⟩, ⟨_, Or.inr (Or.inl ⟨0, rfl, by decide, ?_, rfl⟩)⟩,
    ⟨_, Or.inr (Or.inr ⟨{ number := 6, slot := 5, reason := .lost, time := 10 }, rfl, by decide, ?_, ?_, rfl⟩)⟩⟩ <;>
    rw [h]
  · rcases hn with rfl | rfl <;> decide
  · decide
  · decide
  · decide

/-- A request of the crowd can be taken, and the numbers miss. -/
theorem crowd_asks (ph : Phase) (e : TerminalEntry) (kind : Byte) (body : List Byte) (he : e.enabled = true) :
    let s := { asks crowd e kind body with muster := { State.reset.muster with phase := ph } }
    s.takes 0 e (frame kind body) ∧ s.store = (laden .rollover).store ∧ s.muster.phase = ph :=
  ⟨asks_takes { crowd with muster := { State.reset.muster with phase := ph } } e kind body he
    (by simp [crowd, ship]), rfl, rfl⟩

/-- A pending number is DENY_PENDING, and a number of a lookup at a till is found (R22, R25). -/
theorem test_lookup_pending :
    replyOf (.lookup 0) (asks crowd (terminal .kiosk none) 0x40 (bytes 6 11)) = some (.denyPending, []) ∧
      (replyOf (.lookup 0) (asks crowd (terminal .pos (some (.venue 12))) 0x40 (bytes 6 9))).map Prod.fst =
        some .ok := by decide

theorem witness_LookupReportsWhatItFinds :
    (∀ e n, e = terminal .kiosk none ∨ e = terminal .pos (some (.venue 12)) →
        (asks crowd e 0x40 (bytes 6 n)).takes 0 e (frame 0x40 (bytes 6 n)) ∧
          (asks crowd e 0x40 (bytes 6 n)).store = (laden .rollover).store) ∧
      ((asks (ship guest account) (terminal .kiosk none) 0x40 (bytes 6 9)).takes 0 (terminal .kiosk none)
        (frame 0x40 (bytes 6 9)) ∧
      (asks (ship guest account) (terminal .kiosk none) 0x40 (bytes 6 9)).finds 9 0 guest) ∧
      ((asks (ship guest account) (terminal .kiosk none) 0x40 (bytes 6 6)).takes 0 (terminal .kiosk none)
          (frame 0x40 (bytes 6 6)) ∧
        (ship guest account).store.index.find 6 = none ∧
        ((ship guest account).store.revoked.find? fun w => decide (w.number = 6)) =
          some { number := 6, slot := 5, reason := .lost, time := 10 }) ∧
      (guest.message = 0 ∧ (ship guest account).record 0 = some guest) ∧
      (∀ n, n = 2 ∨ n = 1 →
        (ship { guest with message := 5, shows := n } account).record 0 = some { guest with message := 5, shows := n } ∧
          ({ guest with message := 5, shows := n } : Record).message ≠ 0 ∧ n ≠ 0) := by
  refine ⟨?_, ⟨asks_takes _ _ _ _ rfl (by decide), ship_finds ..⟩, ⟨asks_takes _ _ _ _ rfl (by decide), by decide⟩,
    by decide, ?_⟩
  · rintro e n (rfl | rfl) <;> exact ⟨asks_takes _ _ _ _ rfl (by simp [crowd, ship]), rfl⟩
  · rintro n (rfl | rfl) <;> decide

/-! ### Cabins, roles and lock decisions -/

/-- A crew member of role 3 who occupies no cabin. -/
def steward : Record := { guest with cls := .crew, role := some 3, homeCabin := none }

/-- A lock asks of credential 9. -/
def atDoor (s : State) (b : Binding) : State := asks s (terminal .lock (some b)) 0x10 (bytes 6 9)

/-- Cabin 100 with a mode and occupants, and the attributes of role 3. -/
def doors (s : State) (mode : CabinMode) (occupants : List Nat) (role : Role) : State :=
  { s with access := { s.access with
      cabins := [(100, { zone := 12, occupants := occupants, mode := mode })], roles := [(3, role)] } }

/-- A role of zone 12 with the attributes given. -/
def roleOf12 (privacy lockout sweep : Bool) : Role :=
  { zones := 0x1000, cabin := true, privacyOverride := privacy, lockoutOverride := lockout, sweep := sweep }

/-- The ship in a phase. -/
def inPhase (p : Phase) (s : State) : State := { s with muster := { s.muster with phase := p } }

theorem witness_UnlockAtACabinLock :
    ((atDoor (ship guest account) (.cabin 100)).takes 0 (terminal .lock (some (.cabin 100))) (frame 0x10 (bytes 6 9)) ∧
      (atDoor (ship guest account) (.cabin 100)).finds 9 0 guest ∧ guest.location = .aboard ∧
      0 ∈ ((ship guest account).cabin 100).occupants ∧ ((ship guest account).cabin 100).mode ≠ .lockout ∧
      guest.life = .active) ∧
      ((atDoor (ship steward account) (.cabin 100)).finds 9 0 steward ∧ steward.location = .aboard ∧
        ∀ m privacy lockout sweep, (m, privacy, lockout, sweep) ∈
          [(CabinMode.normal, false, false, false), (.service, false, false, false), (.privacy, true, false, false),
            (.privacy, false, false, true), (.lockout, false, true, false), (.lockout, false, false, true)] →
          let s := inPhase .muster (doors (ship steward account) m [] (roleOf12 privacy lockout sweep))
          0 ∉ (s.cabin 100).occupants ∧ (s.role 3).cabin = true ∧ (s.role 3).zones.getLsbD (s.cabin 100).zone = true ∧
            (s.cabin 100).mode = m ∧ s.muster.phase = .muster ∧ (s.role 3).privacyOverride = privacy ∧
            (s.role 3).lockoutOverride = lockout ∧ (s.role 3).sweep = sweep) ∧
      (∀ l, (ship { guest with location := l } account).record 0 = some { guest with location := l }) ∧
      ((ship guest account).access.policies.get .guestAdult).ashoreCheck = true ∧
      (let s := doors (ship guest account) .normal [] (roleOf12 false false false)
       0 ∉ (s.cabin 100).occupants ∧ guest.cls ≠ .crew) ∧
      (let s := doors (ship guest account) .lockout [0] (roleOf12 false false false)
       0 ∈ (s.cabin 100).occupants ∧ (s.cabin 100).mode = .lockout) ∧
      (let s := doors (ship steward account) .normal [] { roleOf12 false false false with zones := 0 }
       0 ∉ (s.cabin 100).occupants ∧ (s.role 3).zones.getLsbD (s.cabin 100).zone = false) ∧
      (∀ m, m = CabinMode.privacy ∨ m = .lockout →
        let s := inPhase .atSea (doors (ship steward account) m [] (roleOf12 false false true))
        0 ∉ (s.cabin 100).occupants ∧ (s.role 3).zones.getLsbD (s.cabin 100).zone = true ∧ (s.cabin 100).mode = m ∧
          (s.role 3).privacyOverride = false ∧ (s.role 3).lockoutOverride = false ∧ s.muster.phase ≠ .muster) ∧
      (let r : Record := { steward with location := .ashore }
       (ship r account).record 0 = some r ∧ ((ship r account).access.policies.get r.cls).ashoreCheck = false) ∧
      (let r : Record := { steward with life := .held }
       (ship r account).record 0 = some r ∧ r.life = .held ∧ r.cls = .crew) ∧
      ∀ n, (atDoor crowd (.cabin n)).takes 0 (terminal .lock (some (.cabin n))) (frame 0x10 (bytes 6 9)) ∧
        (atDoor crowd (.cabin n)).store = (laden .rollover).store := by
  refine ⟨⟨asks_takes _ _ _ _ rfl (by decide), ship_finds .., by decide⟩,
    ⟨ship_finds .., rfl, ?_⟩, fun _ => rfl, by decide, by decide, by decide, by decide, ?_, by decide, by decide,
    fun n => ⟨asks_takes _ _ _ _ rfl (by simp [crowd, ship]), rfl⟩⟩
  rotate_left
  · rintro m (rfl | rfl) <;> decide
  intro m privacy lockout sweep h
  simp only [List.mem_cons, List.not_mem_nil, or_false, Prod.mk.injEq] at h
  rcases h with ⟨rfl, rfl, rfl, rfl⟩ | ⟨rfl, rfl, rfl, rfl⟩ | ⟨rfl, rfl, rfl, rfl⟩ | ⟨rfl, rfl, rfl, rfl⟩ |
    ⟨rfl, rfl, rfl, rfl⟩ | ⟨rfl, rfl, rfl, rfl⟩ <;> decide

theorem witness_UnlockAtAZoneLock :
    (∀ r, (atDoor (ship r account) (.zone 12)).takes 0 (terminal .lock (some (.zone 12))) (frame 0x10 (bytes 6 9)) ∧
      (atDoor (ship r account) (.zone 12)).finds 9 0 r) ∧
      (steward.life = .active ∧ steward.location = .aboard ∧ steward.role = some 3 ∧
        ((ship steward account).role 3).zones.getLsbD 12 = true) ∧
      (∀ l, ({ guest with location := l } : Record).location = l) ∧
      ((ship { guest with location := .ashore } account).access.policies.get .guestAdult).ashoreCheck = true ∧
      ((ship steward account).role 3).zones.getLsbD 63 = false ∧
      ((ship { steward with location := .ashore } account).access.policies.get .crew).ashoreCheck = false ∧
      guest.cls ≠ .crew ∧ { steward with life := .held }.life = .held ∧
      ∀ body, (asks crowd (terminal .lock (some (.zone 12))) 0x10 body).takes 0 (terminal .lock (some (.zone 12)))
        (frame 0x10 body) := by
  exact ⟨fun _ => ⟨asks_takes _ _ _ _ rfl (by simp [ship]), ship_finds ..⟩, by decide, fun _ => rfl, by decide, by decide,
    by decide, by decide, rfl, fun _ => asks_takes _ _ _ _ rfl (by simp [crowd, ship])⟩

/-- At a zone lock a guest ASHORE is DENY_ASHORE, and a guest ABOARD DENY_ZONE (R43, R48). -/
theorem test_unlock_zone :
    ∀ q ∈ [(Location.ashore, Result.denyAshore), (.aboard, .denyZone)],
      replyOf (.unlock 0) (atDoor (ship { guest with location := q.1 } account) (.zone 12)) =
        some (q.2, [0x00, 0x00]) := by decide

/-- A sweep role opens in PRIVACY in the MUSTER phase alone (R46). -/
theorem test_unlock_sweep :
    (∀ q ∈ [(Phase.muster, Result.ok), (.atSea, .denyPrivacy)],
      (replyOf (.unlock 0)
        (atDoor (inPhase q.1 (doors (ship steward account) .privacy [] (roleOf12 false false true)))
          (.cabin 100))).map Prod.fst = some q.2) := by decide

theorem witness_LockModeByModeAtTake :
    (∀ (m : CabinMode) (body : List Byte),
      let s := asks (doors (ship guest account) m [0] (roleOf12 false false false)) (terminal .lock (some (.cabin 100)))
        0x11 body
      s.takes 0 (terminal .lock (some (.cabin 100))) (frame 0x11 body) ∧ (s.cabin 100).mode = m) ∧
      ∀ setting : Byte, setting = 0x02 ∨ setting = 0xFF → setting ≠ 0x00 ∧ setting ≠ 0x01 :=
  ⟨fun _ _ => ⟨asks_takes _ _ _ _ rfl (by simp [doors, ship]), rfl⟩, by rintro _ (rfl | rfl) <;> decide⟩

/-- A setting of 02h is RANGE, and a LOCK_MODE of a zone lock WRONG_TERMINAL (R36, R172). -/
theorem test_lockMode_refused :
    replyOf (.lockMode 0) (asks (ship guest account) (terminal .lock (some (.cabin 100))) 0x11 [0x02]) =
        some (.range, []) ∧
      replyOf (.lockMode 0) (asks (ship guest account) (terminal .lock (some (.zone 12))) 0x11 [0x01]) =
        some (.wrongTerminal, []) := by decide

theorem witness_CabinRequestsAllComplete :
    ((ship guest account).ready ∧ 1 ≤ (List.replicate 32 63).length ∧ (List.replicate 32 63).length ≤ 32 ∧
        3040 + (List.replicate 32 63).length ≤ 3072 ∧ (∀ z ∈ List.replicate 32 63, z < 64) ∧
        Table.wf (ship guest account).access.cabins = true) ∧
      (let r : Record := { guest with homeCabin := none }
       (moored r .active).record topSlot = some r ∧ r.homeCabin = none ∧ r.secondCabin = none ∧ 3071 < 3072 ∧
         ((moored r .active).cabin 3071).occupants.length < 6) ∧
      (guest.homeCabin = some 100 ∧ 100 ≠ 3071 ∧ guest.secondCabin = none ∧
        ((moored guest .active).cabin 3071).occupants.length < 6) ∧
      (let r : Record := { guest with secondCabin := some 3071 }
       (r.homeCabin = some 100 ∨ r.secondCabin = some 100) ∧ r.secondCabin = some 3071) := by
  unfold State.ready
  decide

/-- The ordered checks of ASSIGN_CABIN (R31). -/
def assignChecks (s : State) (c : Nat) (r : Record) : List (Prop × ReplyCode) :=
  [(r.homeCabin = some c ∨ r.secondCabin = some c, .duplicate), (6 ≤ (s.cabin c).occupants.length, .full),
    (r.homeCabin ≠ none ∧ r.secondCabin ≠ none, .full)]

theorem witness_CabinRequestsAllComplete_refused :
    (∀ r m l, let s := doors (ship r account) m l (roleOf12 false false false)
      s.ready ∧ s.record 0 = some r) ∧
      (∀ c, c = 100 ∨ c = 3071 →
        firstRefusal (assignChecks (ship guest account) c { guest with secondCabin := some 3071 }) .duplicate) ∧
      firstRefusal
        (assignChecks (doors (ship guest account) .normal [1, 2, 3, 4, 5, 6] (roleOf12 false false false)) 100
          { guest with homeCabin := none }) .full ∧
      firstRefusal (assignChecks (ship guest account) 3071 { guest with secondCabin := some 0 }) .full := by
  refine ⟨fun r m l => ⟨⟨rfl, by simp [doors, ship]⟩, rfl⟩, ?_, ?_, ?_⟩
  · rintro c (rfl | rfl) <;> simp [assignChecks, guest]
  all_goals
    simp [assignChecks, guest, State.cabin, doors, ship, Table.value, Table.find, Cabin.powerOn]

theorem witness_RoleAndPolicyRequestsComplete :
    (moored steward .active).ready ∧ (moored steward .active).idle ∧ 31 < 32 ∧ topSlot < 12288 ∧
      (moored steward .active).record topSlot = some steward ∧ steward.cls = .crew ∧ steward.role = some 3 ∧
      (1 ≤ 16 ∧ 16 ≤ 16 ∧ 3056 + 16 ≤ 3072) := by
  unfold State.ready State.idle
  decide

/-! ### Gangway passage and counts -/

/-- A gangway reader of gangway 7 asks of credential 9. -/
def atGangway (s : State) (d : Direction) : State :=
  asks s (terminal .gangway (some (.gangway 7))) 0x30 (bytes 6 9 ++ byte (directionCode d))

/-- The last passage of a record, at gangway 7, with the blanking window of code 1 just over at run time 36,000. -/
def justOver (d : Direction) : Passage := { gangway := 7, direction := d, time := 35995 }

theorem gangway_takes (r : Record) (f : Folio) (p : Phase) (d : Direction) :
    (atGangway (inPhase p (ship r f)) d).takes 0 (terminal .gangway (some (.gangway 7)))
        (frame 0x30 (bytes 6 9 ++ byte (directionCode d))) ∧ (atGangway (inPhase p (ship r f)) d).finds 9 0 r :=
  ⟨asks_takes _ _ _ _ rfl (by simp [inPhase, ship]), by decide, by decide, rfl, rfl⟩

/-- In port, a guest passes out to ASHORE (11; R61, R63). -/
theorem test_gangway_out :
    replyOf (.gangway 0) (atGangway (inPhase .inPort (ship guest account)) .outbound) =
      some (.ok, [0x00, 0x02, 0x00]) := by decide

theorem witness_GangwayDecidesTheNinthCheck :
    (∀ r d, (r, d) ∈
        [({ guest with lastPassage := some (justOver .outbound) }, Direction.outbound), (guest, .inbound),
          ({ guest with location := .ashore }, .inbound), ({ guest with location := .ashore }, .outbound),
          ({ guest with location := .notEmbarked }, .inbound), ({ guest with location := .notEmbarked }, .outbound)] →
      let s := atGangway (inPhase .inPort (ship r account)) d
      s.takes 0 (terminal .gangway (some (.gangway 7))) (frame 0x30 (bytes 6 9 ++ byte (directionCode d))) ∧
        s.finds 9 0 r ∧ s.muster.phase = .inPort ∧ r.life = .active ∧
        (∀ l, r.lastPassage = some l → l.time + blankingWindow s.settings.blankingCode ≤ s.clock.runTime)) ∧
      ((ship guest account).access.policies.get .crew).passback = .soft ∧
      ((ship guest account).access.policies.get .guestAdult).passback = .hard := by
  refine ⟨?_, by decide⟩
  intro r d h
  refine ⟨(gangway_takes r account .inPort d).1, (gangway_takes r account .inPort d).2, rfl, ?_, ?_⟩
  · simp only [List.mem_cons, List.not_mem_nil, or_false, Prod.mk.injEq] at h
    rcases h with ⟨rfl, _⟩ | ⟨rfl, _⟩ | ⟨rfl, _⟩ | ⟨rfl, _⟩ | ⟨rfl, _⟩ | ⟨rfl, _⟩ <;> rfl
  · intro l hl
    simp only [List.mem_cons, List.not_mem_nil, or_false, Prod.mk.injEq] at h
    rcases h with ⟨rfl, rfl⟩ | ⟨rfl, rfl⟩ | ⟨rfl, rfl⟩ | ⟨rfl, rfl⟩ | ⟨rfl, rfl⟩ | ⟨rfl, rfl⟩ <;>
      first
      | (cases hl; decide)
      | exact absurd hl (by simp [guest])

theorem witness_GangwayRefusesByItsEarlierChecks :
    (∀ p d, (atGangway (inPhase p (ship guest account)) d).takes 0 (terminal .gangway (some (.gangway 7)))
        (frame 0x30 (bytes 6 9 ++ byte (directionCode d))) ∧
      (atGangway (inPhase p (ship guest account)) d).finds 9 0 guest ∧
      (atGangway (inPhase p (ship guest account)) d).muster.phase = p) ∧
      (∀ direction, direction = (0x02 : Byte) ∨ direction = 0xFF →
        direction ≠ 0x00 ∧ direction ≠ 0x01 ∧ 281474976710655 < 2 ^ 48 ∧ ∀ n,
          let body := bytes 6 n ++ [direction]
          (asks (ship guest account) (terminal .gangway (some (.gangway 7))) 0x30 body).takes 0
            (terminal .gangway (some (.gangway 7))) (frame 0x30 body)) ∧
      (guest.cls = .guestAdult ∧ guest.lastPassage = none) ∧
      (let l : Passage := { justOver .inbound with time := 35996 }
       (ship { guest with lastPassage := some l } account).record 0 = some { guest with lastPassage := some l } ∧
         36000 < l.time + blankingWindow (ship guest account).settings.blankingCode) ∧
      (ship { guest with location := .disembarked } account).record 0 = some { guest with location := .disembarked } ∧
      ((ship { guest with life := .held } account).record 0 = some { guest with life := .held } ∧
        guest.location ≠ .disembarked) ∧
      ∀ ph, ph = Phase.inPort ∨ ph = .cutoff → ∀ body,
        let s := { asks crowd (terminal .gangway (some (.gangway 7))) 0x30 body with
          muster := { State.reset.muster with phase := ph } }
        s.takes 0 (terminal .gangway (some (.gangway 7))) (frame 0x30 body) ∧ s.store = (laden .rollover).store ∧
          s.muster.phase = ph := by
  refine ⟨fun p d => ⟨(gangway_takes guest account p d).1, (gangway_takes guest account p d).2, rfl⟩, ?_, by decide,
    by decide, by decide, by decide, fun ph _ body => crowd_asks ph _ _ body rfl⟩
  rintro direction (rfl | rfl) <;>
    exact ⟨by decide, by decide, by decide, fun n => asks_takes _ _ _ _ rfl (by simp [ship])⟩

/-- A guest checked in at station 15, on a watch. -/
def checkedIn : Record := { guest with musterFlag := true, musteredAt := some 15, watchMode := .any }

/-- A watch set of a number of entries, for slots from 1 up. -/
def watching (n : Nat) : List WatchEntry :=
  (List.range n).map fun k => { slot := k + 1, wentAshore := true, cameAboard := false }

theorem witness_ChangeOfLocationAndItsWatchHits :
    ((ship checkedIn account).record 0 = some checkedIn ∧ checkedIn.location ≠ .ashore ∧
        (checkedIn.location = .aboard ∧ checkedIn.musterFlag = true) ∧
        Table.wf (ship checkedIn account).muster.tallies = true ∧ checkedIn.musteredAt = some 15 ∧
        watchHit checkedIn.watchMode checkedIn.location .ashore = some .wentAshore) ∧
      (¬ (guest.location = .aboard ∧ guest.musterFlag = true) ∧ watchHit guest.watchMode .aboard .ashore = none) ∧
      (∃ e ∈ (laden .rollover).tabs.entries, e.2.opener = 0) ∧
      (∃ e ∈ (laden .rollover).passage.watch, e.slot = 0) ∧
      ((∀ e ∈ watching 63, e.slot ≠ 0) ∧ (watching 63).length < 64) ∧
      ((∀ e ∈ watching 64, e.slot ≠ 0) ∧ 64 ≤ (watching 64).length) := by decide

/-- In CUTOFF the return of the one guest ASHORE raises ALL_ABOARD and ALL_CLEAR, and no return raises them in IN_PORT
(R70, R71). -/
theorem test_reconcile :
    (∀ q ∈ [(Phase.cutoff, true), (.inPort, false)],
      let s := inPhase q.1 (ship { guest with location := .ashore } account)
      let t := changeLocation 0 { guest with location := .ashore } .aboard
        { s with passage := { s.passage with counts := setCell s.passage.counts .guestAdult .ashore 1 } }
      t.notice.pending.getLsbD (conditionCode .allAboard) = q.2 ∧
        t.notice.pending.getLsbD (conditionCode .allClear) = q.2) := by decide

theorem witness_SetLocationAndReadWatchComplete :
    ((moored guest .active).ready ∧ topSlot < 12288 ∧ (moored guest .active).record topSlot = some guest ∧
        guest.location ≠ .ashore ∧ guest.location = .aboard) ∧
      (ship guest account).idle ∧ 1 ≤ 16 ∧ 16 ≤ 16 ∧ 1 ≤ 1 := by
  unfold State.ready State.idle
  decide

/-! ### Ship time, phases and muster -/

theorem witness_SetTimeAndRollover :
    (State.reset.ready ∧ 4294967295 < 2 ^ 32 ∧ State.reset.clock.status = .unset) ∧
      ((ship guest account).ready ∧ (ship guest account).clock.status = .set ∧
        (ship guest account).clock.offset = some 64000 ∧ (ship guest account).clock.lastRolled = some 0 ∧
        (0 : Int) < shipDay 4 100800 ∧ shipDay 4 100799 ≤ (0 : Int)) ∧
      (let s := { ship guest account with
          clock := { runTime := 36800, millis := 0, status := .set, offset := some 64000, lastRolled := some 0 } }
       s.clock.lastRolled = some 0 ∧ (0 : Int) < (s.clock.runTime + 64000 - s.settings.rolloverHour * 3600) / 86400) ∧
      ((36799 : Int) + 64000 - 4 * 3600) / 86400 ≤ 0 := by
  unfold State.ready
  decide

theorem witness_PhaseRequestsComplete :
    ∀ p : Phase, (inPhase p (ship guest account)).ready ∧ (inPhase p (ship guest account)).muster.phase = p ∧
      let s := { ship guest account with
        muster := { (ship guest account).muster with phase := .muster, savedPhase := some .cutoff } }
      s.ready ∧ s.muster.phase = .muster ∧ s.muster.savedPhase = some .cutoff := by
  unfold State.ready
  intro p
  cases p <;> decide

/-- A muster reader of station 15 asks of credential 9. -/
def atStation (s : State) : State := asks s (terminal .muster (some (.station 15))) 0x31 (bytes 6 9)

/-- A tap at another station than the record's own is OK_ELSEWHERE, and counts (R92). -/
theorem test_musterTap :
    (replyOf (.musterTap 0) (atStation (inPhase .muster (ship guest account)))).map Prod.fst = some .okElsewhere ∧
      after (.musterTap 0) (atStation (inPhase .muster (ship guest account))) (fun t => t.tally 15) = some 1 := by decide

theorem witness_MusterTapChecksIn :
    (∀ p r, (atStation (inPhase p (ship r account))).takes 0 (terminal .muster (some (.station 15)))
        (frame 0x31 (bytes 6 9)) ∧
      (atStation (inPhase p (ship r account))).finds 9 0 r ∧
      (atStation (inPhase p (ship r account))).muster.phase = p) ∧
      (guest.location = .aboard ∧ guest.musterFlag = false) ∧
      (checkedIn.location = .aboard ∧ checkedIn.musterFlag = true) ∧
      (∀ l, ({ guest with location := l } : Record).location = l) ∧
      ∀ body,
        let s := { asks crowd (terminal .muster (some (.station 15))) 0x31 body with
          muster := { State.reset.muster with phase := .muster } }
        s.takes 0 (terminal .muster (some (.station 15))) (frame 0x31 body) ∧ s.store = (laden .rollover).store ∧
          s.muster.phase = .muster :=
  ⟨fun _ _ => ⟨asks_takes _ _ _ _ rfl (by simp [inPhase, ship]), ⟨by decide, by decide, rfl, rfl⟩, rfl⟩,
    by decide, by decide, fun _ => rfl, fun body => crowd_asks .muster _ _ body rfl⟩

/-! ### Folios and credit states -/

/-- The account with a balance, and in a state. -/
def owing (b : Int) (st : FolioState) (c : Option SuspensionCause) : Folio :=
  { account with balance := b, state := st, cause := c }

theorem witness_ReevaluationByExposure :
    (account.state = .active ∧ (owing 40001 .active none).exposure > (owing 40001 .active none).hard ∧
        (owing 40000 .active none).exposure ≤ (owing 40000 .active none).hard) ∧
      ((owing 30000 .grace none).exposure ≤ (owing 30000 .grace none).soft) ∧
      (((owing 30001 .grace none).soft : Int) < (owing 30001 .grace none).exposure ∧
        (owing 40000 .grace none).exposure ≤ (owing 40000 .grace none).hard ∧
        ((owing 40001 .grace none).hard : Int) < (owing 40001 .grace none).exposure) ∧
      (let f := owing 30000 .suspended (some .limit)
       f.state = .suspended ∧ f.cause = some .limit ∧ f.resumeMode = .auto ∧ f.exposure ≤ f.soft) ∧
      (let f := owing 30001 .suspended (some .ceiling)
       f.state = .suspended ∧ (f.soft : Int) < f.exposure) ∧
      (owing 0 .suspended (some .host)).cause = some .host ∧ (owing 0 .closed none).state = .closed ∧
      (owing 40001 .active none).reevaluated.2 = true ∧ account.reevaluated.2 = false ∧
      ((ship guest account).ready ∧ (ship guest account).folio 0 = some account ∧
        ∃ t, exec (.suspendFolio (bytes 2 0)) (ship guest account) = .next t) := by
  refine ⟨by decide, by decide, by decide, by decide, by decide, by decide, by decide, by decide, by decide, ?_, rfl,
    _, rfl⟩
  unfold State.ready
  decide

/-- The ship with its folio in the highest slot. -/
def topFolio (f : Folio) : State := { ship guest f with folios := [(8191, f)] }

theorem witness_FolioStateRequestsComplete :
    ((ship guest account).ready ∧ (ship guest account).lowestFreeFolio 1 ∧ 100000000 ≤ 100000000 ∧ 255 < 256) ∧
      (∀ f, (topFolio f).ready ∧ (topFolio f).folio 8191 = some f) ∧
      (let f := owing 0 .active none
       f.state ≠ .closed ∧ f.openTabs = 0 ∧ f.balance = 0 ∧ f.members ≠ 0 ∧ { f with members := 0 }.members = 0) ∧
      (owing 0 .closed none).state = .closed ∧
      ((owing 0 .suspended (some .limit)).state = .suspended ∧
        (owing 0 .suspended (some .limit)).cause ≠ some .host) ∧
      ((owing 30000 .suspended none).exposure ≤ (owing 30000 .suspended none).soft) ∧
      (((owing 30001 .suspended none).soft : Int) < (owing 30001 .suspended none).exposure ∧
        (owing 40000 .suspended none).exposure ≤ (owing 40000 .suspended none).hard) ∧
      ((owing 40001 .suspended none).hard : Int) < (owing 40001 .suspended none).exposure := by
  refine ⟨?_, fun f => ⟨⟨rfl, by simp [topFolio, ship]⟩, rfl⟩, by decide, by decide, by decide, by decide, by decide,
    by decide⟩
  unfold State.ready State.lowestFreeFolio
  decide

/-- The ordered checks of CLOSE_FOLIO (R111). -/
def closeChecks (f : Folio) : List (Prop × ReplyCode) :=
  [(f.state = .closed, .wrongState), (0 < f.openTabs, .tabsOpen), (f.balance ≠ 0, .stillOver)]

theorem witness_FolioStateRequestsComplete_refused :
    (∀ f, (topFolio f).ready ∧ (topFolio f).folio 8191 = some f) ∧
      firstRefusal (closeChecks (owing 0 .closed none)) .wrongState ∧
      firstRefusal (closeChecks { owing 1 .active none with openTabs := 1 }) .tabsOpen ∧
      (∀ b : Int, b = 1 ∨ b = -1 → firstRefusal (closeChecks (owing b .active none)) .stillOver) := by
  refine ⟨fun f => ⟨⟨rfl, by simp [topFolio, ship]⟩, rfl⟩, ?_, ?_, ?_⟩
  · simp [closeChecks, owing]
  · simp [closeChecks, owing]
  · rintro b (rfl | rfl) <;> simp [closeChecks, owing, account]

theorem witness_FolioPostingsComplete :
    (∀ f, (topFolio f).ready ∧ 8191 < 8192 ∧ (topFolio f).folio 8191 = some f) ∧
      account.state ≠ .closed ∧ 1 ≤ 2000000000 ∧
      -1000000000 ≤ (owing 1000000000 .suspended (some .ceiling)).balance - 2000000000 ∧
      (owing 999999999 .suspended (some .ceiling)).balance - 2000000000 < -1000000000 ∧
      (owing (-1000000000) .active none).balance + 2000000000 ≤ 1000000000 ∧
      1000000000 < (owing (-999999999) .active none).balance + 2000000000 ∧ 10000000 ≤ 10000000 := by
  refine ⟨fun f => ⟨⟨rfl, by simp [topFolio, ship]⟩, by decide, rfl⟩, ?_⟩
  decide

/-- Two folios, the second to be joined. -/
def twoFolios (old new : Folio) : State := { ship guest old with folios := [(0, old), (8191, new)] }

theorem witness_LinkRecordMovesTheMembership :
    let f : Folio := { account with members := 7, state := .grace }
    (∀ old, (twoFolios old f).ready ∧ (twoFolios old f).record 0 = some guest ∧
      (twoFolios old f).folio guest.folio = some old ∧ (twoFolios old f).folio 8191 = some f ∧
      (∀ e ∈ (twoFolios old f).tabs.entries, e.2.opener ≠ 0) ∧ Table.wf (twoFolios old f).folios = true) ∧
      guest.folio ≠ 8191 ∧ (f.state = .active ∨ f.state = .grace) ∧ f.members < 8 ∧ account.state ≠ .closed ∧
      ((owing 0 .closed none).state = .closed ∧ (owing 0 .closed none).members ≤ 1) := by
  refine ⟨fun old => ⟨⟨rfl, by simp [twoFolios, ship]⟩, rfl, rfl, rfl, ?_, rfl⟩, by decide⟩
  intro e he
  exact absurd he (by simp [twoFolios, ship, State.reset])

/-- The ordered checks of LINK_RECORD (R102). -/
def linkChecks (s : State) (slot target : Nat) (r : Record) (f : Folio) : List (Prop × ReplyCode) :=
  [(r.folio = target, .duplicate), (∃ e ∈ s.tabs.entries, e.2.opener = slot, .tabsOpen),
    (f.state ≠ .active ∧ f.state ≠ .grace, .wrongState), (8 ≤ f.members, .full)]

theorem witness_LinkRecordMovesTheMembership_refused :
    (∀ f tabs, let s := { twoFolios account f with tabs := tabs }
      s.ready ∧ s.record 0 = some guest ∧ s.folio 8191 = some f ∧ s.folio 0 = some account) ∧
      firstRefusal (linkChecks (laden .rollover) 0 0 guest account) .duplicate ∧
      firstRefusal (linkChecks (laden .rollover) 0 8191 guest (owing 0 .closed none)) .tabsOpen ∧
      (∀ st, st = FolioState.suspended ∨ st = .closed →
        firstRefusal (linkChecks (ship guest account) 0 8191 guest { account with state := st, members := 8 })
          .wrongState) ∧
      ∀ st, st = FolioState.active ∨ st = .grace →
        firstRefusal (linkChecks (ship guest account) 0 8191 guest { account with state := st, members := 8 }) .full := by
  refine ⟨fun f tabs => ⟨⟨rfl, by simp [twoFolios, ship]⟩, rfl, rfl, rfl⟩, ?_, ?_, ?_, ?_⟩
  · simp [linkChecks, guest]
  · simp [linkChecks, laden, guest]
  all_goals
    rintro st (rfl | rfl) <;> simp [linkChecks, ship, State.reset, guest]

/-! ### Venues, charges and tabs -/

/-- A till of venue 12. -/
def till : TerminalEntry := terminal .pos (some (.venue 12))

/-- The purchase of a record with a folio passes the shared checks. -/
theorem till_ready (r : Record) (f : Folio) (kind : Byte) (body : List Byte) (hr : r.life = .active)
    (hl : r.location = .aboard) (hc : r.cls = .guestAdult) (hf : r.folio = 0) (hs : f.state = .active ∨ f.state = .grace) :
    purchaseReady (asks (ship r f) till kind body) 0 till (frame kind body) 9 0 12 r f := by
  refine ⟨asks_takes _ _ _ _ rfl (by simp [ship]), rfl, rfl, ship_finds .., ?_, rfl, hr, hl, ?_, ?_, hs⟩
  · simp [asks, ship, State.reset]
  · have h : ((asks (ship r f) till kind body).venue 12).classes = 3 := rfl
    rw [h, hc]
    decide
  · rw [hf]
    rfl

/-- A guest of tier 0 with a cap and the spend of the day. -/
def spender (q : Option Nat) (y : Nat) : Record := { guest with tier := 0, cap := q, spend := y }

/-- The charges of the witnesses: the guest, the folio and the amount, with the figures they give at venue 12. -/
def chargeOf (r : Record) (f : Folio) (amount : Nat) (flags : ItemFlags) : Figures :=
  figures amount flags r ((ship r f).tier r.tier) ((ship r f).venue 12) f.prepaid

/-- The body of a CHARGE without flags. -/
def purchase (amount : Nat) : List Byte := chargeRequest 9 amount ⟨false, false⟩

theorem witness_ChargePostsOrDeclines :
    (∀ r f amount, r.life = .active → r.location = .aboard → r.cls = .guestAdult → r.folio = 0 →
        (f.state = .active ∨ f.state = .grace) →
        purchaseReady (asks (ship r f) till 0x20 (purchase amount)) 0 till (frame 0x20 (purchase amount)) 9 0 12 r f ∧
          (asks (ship r f) till 0x20 (purchase amount)).tier r.tier = (ship r f).tier r.tier) ∧
      (1 ≤ 2000000 ∧ 2000000 ≤ 2000000 ∧ guest.cls ≠ .guestMinor) ∧
      overCap (spender (some 3000) 641) (chargeOf (spender (some 3000) 641) account 2000 ⟨false, false⟩).d = true ∧
      (overCap (spender (some 3000) 640) (chargeOf (spender (some 3000) 640) account 2000 ⟨false, false⟩).d = false ∧
        0 < (chargeOf (spender (some 3000) 640) account 2000 ⟨false, false⟩).d ∧
        account.exposure + (chargeOf (spender (some 3000) 640) account 2000 ⟨false, false⟩).e ≤ account.soft) ∧
      (overCap guest (chargeOf guest account 2 ⟨false, true⟩).d = false ∧ (chargeOf guest account 2 ⟨false, true⟩).d = 0) ∧
      (let f := owing 27641 .active none
       0 < (chargeOf (spender none 0) f 2000 ⟨false, false⟩).e ∧
         (f.soft : Int) < f.exposure + (chargeOf (spender none 0) f 2000 ⟨false, false⟩).e ∧
         f.exposure + (chargeOf (spender none 0) f 2000 ⟨false, false⟩).e ≤ f.hard ∧ 0 < f.grace) ∧
      (let f : Folio := { owing 27641 .grace none with grace := 0 }
       (f.soft : Int) < f.exposure + (chargeOf (spender none 0) f 2000 ⟨false, false⟩).e ∧ f.grace = 0) ∧
      (effectiveLimits (ship guest account) account .bar = (account.soft, account.hard)) := by
  refine ⟨fun r f amount h1 h2 h3 h4 h5 => ⟨till_ready r f _ _ h1 h2 h3 h4 h5, rfl⟩, ?_⟩
  decide

theorem witness_ChargeFiguresAndEffectiveLimits :
    (let t : Tier := { cap := 1500, count := 3 }
     let v : Venue := { category := .bar, rate := 1800, classes := 3, isOpen := true, timeoutCode := 5 }
     guest.tier ≠ 0 ∧ { guest with drinks := 2 }.drinks < t.count ∧ v.category = .bar ∧
       t.count ≤ { guest with drinks := 3 }.drinks) ∧
      guest.cap = none ∧ (spender (some 3000) 640).cap = some 3000 ∧
      (ship guest account).management.service ≠ .standalone ∧
      (adrift.management.service = .standalone ∧ adrift.settings.policies.get .bar = .cap) := by decide

theorem witness_ServiceRoundsHalfUp : 1 * 4999 < 5000 := by decide

theorem witness_VenueAndTierRequestsComplete :
    (ship guest account).ready ∧ 127 < 128 ∧ 65535 < 65536 ∧ 15 ≤ 15 ∧ 1 ≤ 7 ∧ 7 ≤ 7 ∧ 4294967295 < 2 ^ 32 ∧
      255 < 256 := by
  unfold State.ready
  decide

/-- The ship with venue 12 open or closed. -/
def trading (isOpen : Bool) (r : Record) (f : Folio) : State :=
  { ship r f with charge :=
      { venues := [(12, { category := .bar, rate := 1800, classes := 3, isOpen := isOpen, timeoutCode := 5 })]
        tiers := [] } }

/-- The records and folios that the checks after the lookup refuse, with the item flag and the result of each. -/
def refusedPurchases : List (Record × Folio × Bool × Result) :=
  [({ guest with life := .held }, account, false, .denyHeld),
    ({ guest with location := .notEmbarked }, account, false, .denyNotEmbarked),
    ({ guest with location := .ashore }, account, false, .denyAshore),
    ({ guest with location := .disembarked }, account, false, .denyDeparted),
    ({ guest with cls := .visitor }, account, false, .denyClass),
    ({ guest with cls := .guestMinor }, account, true, .denyClass),
    (guest, { account with state := .suspended, cause := some .host }, false, .denySuspended),
    (guest, { account with state := .closed }, false, .denyFolioClosed)]

theorem witness_PurchaseRefusedByItsChecks :
    (∀ (s : State) kind body, s.management.service = .serving →
        (asks s till kind body).takes 0 till (frame kind body)) ∧
      (refusedBeforeLookup (inPhase .muster (trading true guest account)) 12 False .denyPhase ∧
        refusedBeforeLookup (trading true guest account) 12 (1 ≤ 0) .range ∧
        refusedBeforeLookup (trading true guest account) 12 ((0x04 : Byte).toNat < 4) .range ∧
        refusedBeforeLookup (trading true guest account) 12 (100 ≤ 99) .range ∧
        refusedBeforeLookup (trading false guest account) 12 (100 ≤ 100) .denyVenueClosed) ∧
      (∀ q ∈ refusedPurchases,
        (asks (trading true q.1 q.2.1) till 0x20 (purchase 1)).finds 9 0 q.1 ∧
          refusedAfterLookup (trading true q.1 q.2.1) 12 q.1 (q.2.2.1 = true) q.2.2.2) ∧
      ∀ kind body,
        let s := { asks crowd till kind body with muster := { State.reset.muster with phase := .inPort } }
        s.takes 0 till (frame kind body) ∧ s.store = (laden .rollover).store ∧ s.muster.phase ≠ .muster ∧
          (s.venue 12).isOpen = true := by
  refine ⟨fun s kind body hs => asks_takes s till kind body rfl (by simp [hs]), ?_, ?_, ?_⟩
  · simp only [refusedBeforeLookup]
    decide
  · intro q hq
    refine ⟨⟨by decide, by decide, rfl, rfl⟩, ?_⟩
    simp only [refusedPurchases, List.mem_cons, List.not_mem_nil, or_false] at hq
    rcases hq with rfl | rfl | rfl | rfl | rfl | rfl | rfl | rfl
    · exact Or.inl ⟨rfl, rfl⟩
    · exact Or.inr (Or.inl ⟨rfl, Or.inl ⟨rfl, rfl⟩⟩)
    · exact Or.inr (Or.inl ⟨rfl, Or.inr (Or.inl ⟨rfl, rfl⟩)⟩)
    · exact Or.inr (Or.inl ⟨rfl, Or.inr (Or.inr ⟨rfl, rfl⟩)⟩)
    · exact Or.inr (Or.inr ⟨rfl, rfl, Or.inl ⟨by decide, rfl⟩⟩)
    · exact Or.inr (Or.inr ⟨rfl, rfl, Or.inl ⟨by decide, rfl⟩⟩)
    · exact Or.inr (Or.inr ⟨rfl, rfl, Or.inr ⟨by decide, _, rfl, Or.inr ⟨rfl, rfl⟩⟩⟩)
    · exact Or.inr (Or.inr ⟨rfl, rfl, Or.inr ⟨by decide, _, rfl, Or.inl ⟨rfl, rfl⟩⟩⟩)
  · intro kind body
    obtain ⟨h1, h2, -⟩ := crowd_asks .inPort till kind body rfl
    exact ⟨h1, h2, by simp, rfl⟩

/-- A minor's ALCOHOL item is DENY_CLASS, and a SUSPENDED folio DENY_SUSPENDED, for a charge and a tab alike
(R128, R129, R144). -/
theorem test_purchase_refused :
    (replyOf (.charge 0)
        (asks (ship { guest with cls := .guestMinor } account) till 0x20 (chargeRequest 9 100 ⟨true, false⟩))).map
          Prod.fst = some .denyClass ∧
      replyOf (.openTab 0)
        (asks (ship guest { account with state := .suspended, cause := some .host }) till 0x21
          (bytes 6 9 ++ bytes 4 100)) = some (.denySuspended, []) := by decide

/-- The body of an OPEN_TAB. -/
def holdFor (hold : Nat) : List Byte := bytes 6 9 ++ bytes 4 hold

/-- A tab of a number in an entry. -/
def tabOf (number : Nat) : Tab :=
  { number := number, folio := 0, opener := 0, venue := 12, hold := 8000, opened := 33000, expiry := 36000 }

/-- The tab table full, with the numbers 1 to 1,024. -/
def fullTabs : Table Tab := (List.range 1024).map fun k => (k, tabOf (k + 1))

theorem witness_OpenTabHoldsOrRefuses :
    (∀ f hold, (f.state = .active ∨ f.state = .grace) →
        purchaseReady (asks (ship guest f) till 0x21 (holdFor hold)) 0 till (frame 0x21 (holdFor hold)) 9 0 12 guest f) ∧
      (100 ≤ 500000 ∧ 500000 ≤ 500000) ∧
      ((ship guest account).lowestFreeTab 0 ∧ { account with openTabs := 3 }.openTabs < 4 ∧
        account.exposure + 20000 ≤ account.soft ∧ (account.soft : Int) < account.exposure + 20001) ∧
      4 ≤ { account with openTabs := 4 }.openTabs ∧ ∀ k < 1024, Table.find fullTabs k ≠ none := by
  refine ⟨fun f hold h => till_ready guest f _ _ rfl rfl rfl rfl h, by decide, ?_, by decide, ?_⟩
  · unfold State.lowestFreeTab
    decide
  · have h : ∀ (l : List Nat) (k : Nat), k ∈ l → Table.find (l.map fun k => (k, tabOf (k + 1))) k ≠ none := by
      intro l k
      induction l with
      | nil => simp
      | cons a l ih =>
        intro hk
        simp only [List.map_cons, Table.find]
        split
        · simp
        · rename_i hne
          exact ih ((List.mem_cons.mp hk).resolve_left fun e => hne e.symm)
    intro k hk
    exact h _ k (List.mem_range.mpr hk)

/-- The ship with a list of open tabs and a counter. -/
def withTabs (entries : Table Tab) (next : Nat) : State :=
  { ship guest { account with holds := 8000, openTabs := 1 } with tabs := { entries := entries, nextNumber := next } }

theorem witness_TabNumberIsTheFirstFree :
    (let s := withTabs [(0, tabOf 65535)] 65535
     s.tabs.entries.length ≤ 1024 ∧ 1 ≤ s.tabs.nextNumber ∧ s.tabs.nextNumber ≤ 65535 ∧
       assignedNumber s < s.tabs.nextNumber) ∧
      (let s := withTabs [(0, tabOf 65535)] 65534
       (∀ e ∈ s.tabs.entries, e.2.number ≠ s.tabs.nextNumber) ∧ s.tabs.nextNumber ≤ assignedNumber s) := by decide

theorem witness_TabLifetimeByCode :
    (∀ code ∈ [0, 15], (let v : Venue := { category := .bar, rate := 0, classes := 0, isOpen := true, timeoutCode := code }
        ({ ship guest account with charge := { venues := [(12, v)], tiers := [] } }.venue 12).timeoutCode = code)) ∧
      (0, 10) ∈ [(0, 10), (15, 720)] ∧ (∃ t, exec (.loadVenue []) (ship guest account) = .next t) ∧
      ∃ t, exec (.setTime (bytes 8 1)) (ship guest account) = .next t :=
  ⟨by decide, by decide, ⟨_, rfl⟩, ⟨_, rfl⟩⟩

theorem witness_TabEndsWithItsHoldReleased :
    (let s := withTabs [(1023, tabOf 65535)] 1
     s.tab 65535 = some (1023, tabOf 65535) ∧ s.tabs.entries.find 1023 = some (tabOf 65535) ∧
       s.folio 0 = some { account with holds := 8000, openTabs := 1 } ∧ s.management.service ≠ .standalone ∧
       s.management.state = .idle ∧ (tabOf 65535).expiry ≤ s.clock.runTime ∧ 35999 < (tabOf 65535).expiry) ∧
      (∀ kind body, (asks (withTabs [(1023, tabOf 65535)] 1) till kind body).takes 0 till (frame kind body)) ∧ 13 ≠ 12 ∧
      (0 < 4 ∧ 3 < 4 ∧ 2000000 ≤ 2000000 ∧ 2000000 < 2000001 ∧ 4 ≤ 4 ∧ 4 ≤ 255) ∧
      (withTabs [(1023, tabOf 65535)] 1).tab 0 = none ∧ (withTabs [(1023, tabOf 65535)] 1).tab 65534 = none := by
  exact ⟨by decide, fun _ _ => asks_takes _ _ _ _ rfl (by simp [withTabs, ship]), by decide⟩

/-- A close of more than 20,000.00 or with the flags 04h is RANGE, and a tab number not open is DENY_TAB_UNKNOWN (R147,
R152). -/
theorem test_closeTab_refused :
    (∀ q ∈ [(1, 2000001, 0, Result.range), (1, 0, 4, .range), (2, 2000000, 3, .denyTabUnknown)],
      replyOf (.closeTab 0)
        (asks (withTabs [(1023, tabOf 1)] 2) till 0x22 (bytes 2 q.1 ++ bytes 4 q.2.1 ++ byte q.2.2.1)) =
          some (q.2.2.2, [])) ∧
      replyOf (.voidTab 0) (asks (withTabs [(1023, tabOf 1)] 2) till 0x23 (bytes 2 2)) =
        some (.denyTabUnknown, []) := by decide

/-- The body of a CLOSE_TAB without flags. -/
def closing (number amount : Nat) : List Byte := bytes 2 number ++ bytes 4 amount ++ byte 0

/-- A close of tab 1 by a guest with a folio. -/
def atClose (r : Record) (f : Folio) (amount : Nat) : State :=
  asks { ship r f with tabs := { entries := [(0, tabOf 1)], nextNumber := 2 } } till 0x22 (closing 1 amount)

/-- The folio with a tab of 8,000 on it. -/
def tabbed (b : Int) (st : FolioState) (c : Option SuspensionCause) : Folio :=
  { owing b st c with holds := 8000, openTabs := 1 }

/-- The close of the port day: at B = 12,360 with the hold of 8,000, a close of 6,000 leaves B = 19,440 and no hold
(11, "Traced port day"). -/
theorem test_closeTab :
    after (.closeTab 0) (atClose { guest with tier := 0 } (tabbed 12360 .active none) 6000)
      (fun t => (t.folio 0).map fun f => (f.balance, f.holds, f.openTabs)) = some (some (19440, 0, 0)) := by decide

theorem witness_CloseTabPostsOrDeclines :
    (∀ r f amount, (atClose r f amount).takes 0 till (frame 0x22 (closing 1 amount)) ∧
        (atClose r f amount).tab 1 = some (0, tabOf 1) ∧ (atClose r f amount).record (tabOf 1).opener = some r ∧
        (atClose r f amount).folio (tabOf 1).folio = some f) ∧
      (1 ≤ 65535 ∧ 1 ≤ 2000000 ∧ guest.cls ≠ .guestMinor ∧ { guest with cls := .guestMinor }.cls = .guestMinor) ∧
      overCap (spender (some 3000) 641) (chargeOf (spender (some 3000) 641) account 2000 ⟨false, false⟩).d = true ∧
      (overCap guest (chargeOf guest account 2 ⟨false, true⟩).d = false ∧ (chargeOf guest account 2 ⟨false, true⟩).d = 0) ∧
      (let f := tabbed 27640 .active none
       let e := (chargeOf (spender none 0) f 2000 ⟨false, false⟩).e
       0 < e ∧ f.exposure - (tabOf 1).hold + e ≤ f.soft) ∧
      (let f := tabbed 27641 .active none
       let e := (chargeOf (spender none 0) f 2000 ⟨false, false⟩).e
       (f.soft : Int) < f.exposure - (tabOf 1).hold + e ∧ f.exposure - (tabOf 1).hold + e ≤ f.hard ∧ 0 < f.grace) ∧
      (let f := tabbed 27641 .suspended (some .host)
       let e := (chargeOf (spender none 0) f 2000 ⟨false, false⟩).e
       (f.soft : Int) < f.exposure - (tabOf 1).hold + e ∧ f.state = .suspended) ∧
      (let f := tabbed 37641 .grace none
       let e := (chargeOf (spender none 0) f 2000 ⟨false, false⟩).e
       (f.hard : Int) < f.exposure - (tabOf 1).hold + e ∧ f.state = .grace) := by
  refine ⟨fun r f amount => ⟨asks_takes _ _ _ _ rfl (by simp [ship]), rfl, rfl, rfl⟩, ?_⟩
  decide

/-! ### Ports -/

/-- Port 5 in a state. -/
def onPort (b : PortBlock) : State := { State.reset with ports := State.reset.ports.set 5 b }

/-- The receiver of port 5 with the bytes it has of a frame, the last at moment 0. -/
def partly (got : List Byte) : State := onPort { PortBlock.powerOn with receiver := .frame got 0 }

theorem witness_ReceiverCollectsOrDiscards :
    (((onPort PortBlock.powerOn).port 5).whole = none ∧ ((onPort PortBlock.powerOn).port 5).receiver = .hunt) ∧
      (((partly []).port 5).receiver = .frame [] 0 ∧ (partly []).moment ≤ 0 + 2 ∧ 60 < (0x3D : Byte).toNat) ∧
      ((0x3C : Byte).toNat ≤ 60 ∧ collectedWhole ([] ++ [(0x3C : Byte)]) = false) ∧
      (((partly [0x00, 0x03, 0x07, 0x00, 0x12]).port 5).receiver = .frame [0x00, 0x03, 0x07, 0x00, 0x12] 0 ∧
        collectedWhole ([0x00, 0x03, 0x07, 0x00, 0x12] ++ [(0x34 : Byte)]) = true) ∧
      (let s := { partly [0x00] with clock := { State.reset.clock with millis := 3 } }
       (s.port 5).receiver = .frame [0x00] 0 ∧ 0 + 2 < s.moment) ∧
      ((onPort { PortBlock.powerOn with errors := 255 }).port 5).errors ≠ 15 ∧
      ((onPort { PortBlock.powerOn with errors := 15 }).port 5).errors = 15 := by decide

/-- The bytes after SYNC that are summed: a PING of a terminal. -/
def pingBytes (term : Nat) : List Byte := bytes 1 0 ++ bytes 1 term ++ [0x07, 0x00] ++ []

theorem witness_FrameArrivalAndPortSilence :
    (63 < 64 ∧ 63 < 256 ∧ (checkSumBytes (pingBytes 63)).length = 2 ∧ ([] : List Byte).length ≤ 60 ∧
        (onPort { PortBlock.powerOn with whole := some (pingBytes 63 ++ checkSumBytes (pingBytes 63)) }).port 5 =
          { PortBlock.powerOn with whole := some (pingBytes 63 ++ checkSumBytes (pingBytes 63)) } ∧
        (List.replicate 7 (frame 0x00 [])).length < 8) ∧
      8 ≤ (List.replicate 8 (frame 0x00 [])).length ∧ 64 ≤ 64 ∧ ([0x00, 0x00] : List Byte) ≠ checkSumBytes (pingBytes 63) ∧
      ((onPort PortBlock.powerOn).port 5).whole = none ∧
      (let s := onPort { PortBlock.powerOn with silence := .active, silenceExpiry := some 0 }
       (s.port 5).silence = .active ∧ (s.port 5).silenceExpiry = some 0 ∧ 0 ≤ s.clock.runTime) ∧
      (let s := onPort { PortBlock.powerOn with silence := .active, silenceExpiry := some 1 }
       (s.port 5).silenceExpiry = some 1 ∧ s.clock.runTime < 1) := by decide +kernel

/-- A port with a CHARGE in hand and 8 frames in its queue, at which a CHARGE of terminal 3 has come in whole. -/
def busy (tag : Nat) : State :=
  let checked := bytes 1 0 ++ [0x03, BitVec.ofNat 8 tag, 0x20]
  { State.reset with
    ports := State.reset.ports.set 2
      { PortBlock.powerOn with
        queue := List.replicate 8 (frame 0x20 []), inHand := some chargeInHand,
        whole := some (checked ++ checkSumBytes checked) } }

/-- The burst of 08: the PORT_FULL of f10 is decided at its arrival, ahead of the reply to f1, which is in hand; a PING
command, which the oldest frame is not, decides that reply and takes nothing (R165, R166). -/
theorem test_burst :
    after (.frameArrival 2) (busy 24) (fun t => ((t.port 2).replies.map fun r => (r.tag, r.result), (t.port 2).inHand)) =
        some ([(24, .portFull)], some chargeInHand) ∧
      after (.frameArrival 2) (busy 24) (fun t => after (.ping 2) t fun u =>
        ((u.port 2).replies.map TerminalReply.tag, (u.port 2).inHand, (u.port 2).queue.length)) =
        some (some ([24, 21], none, 8)) := by decide +kernel

/-- The codes of the terminal requests but PING, each with the entries that its terminal may have (R171). -/
def askers : List (Byte × TerminalEntry) :=
  [(0x10, terminal .lock (some (.cabin 3071))), (0x10, terminal .lock (some (.zone 63))),
    (0x11, terminal .lock (some (.cabin 0))), (0x20, till), (0x21, till), (0x22, till), (0x23, till),
    (0x30, terminal .gangway (some (.gangway 7))), (0x31, terminal .muster (some (.station 15))), (0x40, till),
    (0x40, terminal .kiosk none)]

theorem witness_PortAnswersBeforeAnyUnit :
    (∀ e kind body, ((asks State.reset e kind body).port 0).queue.head? = some (frame kind body) ∧
        (asks State.reset e kind body).terminal 0 3 = e) ∧
      State.reset.management.service = .loading ∧
      ((0x24 : Byte) ∉ terminalKinds ∧ (0x40 : Byte) ∈ terminalKinds) ∧
      (((busy 24).port 2).inHand = some chargeInHand ∧ ((busy 24).port 2).queue.head? = some (frame 0x20 []) ∧
        (onPort PortBlock.powerOn |>.port 5).queue = []) ∧
      (TerminalEntry.powerOn.enabled = false ∧ (terminalRequests 0 TerminalEntry.powerOn).length = 9) ∧
      (∀ q ∈ terminalRequests 0 { TerminalEntry.powerOn with enabled := true }, ¬ q.permitted) ∧
      (∃ q ∈ terminalRequests 0 (terminal .lock (some (.zone 12))), q.kind = 0x11 ∧ ¬ q.permitted) ∧
      ∀ a ∈ askers, a.2.enabled = true ∧ a.2.boundAsKind ∧
        ∃ q ∈ terminalRequests 0 a.2, q.kind = a.1 ∧ q.permitted ∧ q.size ≠ 0 := by
  refine ⟨fun e kind body => ⟨rfl, rfl⟩, rfl, by decide, by decide, by decide, ?_, ?_, ?_⟩
  · simp [terminalRequests, TerminalEntry.powerOn]
  · simp [terminalRequests, terminal]
  · intro a ha
    simp only [askers, List.mem_cons, List.not_mem_nil, or_false] at ha
    rcases ha with rfl | rfl | rfl | rfl | rfl | rfl | rfl | rfl | rfl | rfl | rfl <;>
      simp [terminalRequests, terminal, till, TerminalEntry.boundAsKind]

theorem witness_TerminalAndPortRequestsComplete :
    (ship guest account).ready ∧ (ship guest account).idle ∧ 63 < 64 ∧ 3071 < 3072 ∧ 63 < 64 ∧ 127 < 128 ∧ 7 < 8 ∧
      15 < 16 ∧ ((asks (ship guest account) till 0x00 []).terminal 0 3).kind ≠ none ∧
      ((ship guest account).terminal 5 63).kind = none := by
  unfold State.ready State.idle
  decide

/-! ### Service states and settings -/

theorem witness_ServiceStateChanges :
    (let s := { State.reset with clock := (ship guest account).clock }
     s.idle ∧ s.management.service = .loading ∧ s.clock.status = .set) ∧
      (State.reset.idle ∧ State.reset.management.service = .loading ∧ State.reset.clock.status = .unset) ∧
      ((ship guest account).idle ∧ (ship guest account).management.service = .serving) ∧
      (adrift.idle ∧ adrift.management.service = .standalone ∧ adrift.management.standaloneSince = some 35000) ∧
      (let s := { ship guest account with
          management := { ManagementPort.powerOn with service := .serving, watchdog := some 36000 } }
       s.management.service = .serving ∧ s.management.watchdog = some 36000 ∧ 36000 ≤ s.clock.runTime ∧ 35999 < 36000) ∧
      adrift.management.service ≠ .serving := by
  unfold State.idle
  decide

theorem witness_SetSettingSetsEachSetting :
    (ship guest account).ready ∧ 3 ≤ 3 ∧ 23 ≤ 23 ∧ 100000 ≤ 100000 ∧ 255 ≤ 255 ∧ (50 ≤ 95 ∧ 95 ≤ 95 ∧ 95 % 5 = 0) ∧
      refusalCodes &&& ~~~refusalCodes = 0 ∧ State.reset.ready ∧ State.reset.clock.status = .unset ∧
      ((ship guest account).clock.status = .set ∧ (ship guest account).clock.offset = some 64000 ∧
        (ship guest account).clock.lastRolled = some 0) ∧
      (ship guest account).settings.lineMode = .level ∧
      { (ship guest account).settings with lineMode := .pulse }.lineMode = .pulse := by
  unfold State.ready
  decide

theorem witness_ServiceResetKeepsTheTables :
    ((ship guest account).idle ∧ (ship guest account).management.service ≠ .standalone) ∧
      (adrift.idle ∧ adrift.management.service = .standalone) ∧ ∃ t, exec (.serviceReset []) adrift = .next t := by
  refine ⟨?_, ?_, _, rfl⟩ <;>
    · unfold State.idle
      decide

theorem witness_ScanAndTableReadsChangeNothing :
    (ship guest account).idle ∧ 12287 < 12288 ∧ 8191 < 8192 ∧ State.reset.idle ∧ State.reset.clock.status = .unset ∧
      ((ship guest account).clock.status = .set ∧ (ship guest account).clock.offset = some 64000 ∧
        (ship guest account).clock.lastRolled = some 0) ∧
      (topFolio account).folio 8191 = some account ∧ (ship guest account).folio 8191 = none ∧
      (1 ≤ 16 ∧ 16 ≤ 16 ∧ 112 + 16 ≤ 128) ∧
      (withTabs [(1023, tabOf 65535)] 1).tab 65535 = some (1023, tabOf 65535) ∧
      (ship guest account).tab 65535 = none ∧ 1023 < 1024 ∧ 63 < 64 := by
  unfold State.idle
  decide

/-! ### Notices and the advance of time -/

/-- The line in a state, by a line mode and a holdoff. -/
def lineIn (l : Line) (m : LineMode) (holdoff : Nat) : State :=
  { State.reset with
    notice := { NoticeUnit.powerOn with line := l }
    settings := { Settings.powerOn with lineMode := m, holdoff := holdoff } }

theorem witness_NoticeLineMovements :
    (Condition.dayRollover ≠ .watchHit ∧ Condition.dayRollover ≠ .capacity ∧
        State.reset.pendingConditions.getLsbD (conditionCode .dayRollover) = false ∧
        State.reset.settings.enables.getLsbD (conditionCode .dayRollover) = true ∧
        State.reset.settings.lineMode = .level ∧ State.reset.notice.line = .negated ∧ State.reset.demand = 0) ∧
      (lineIn (.pulse 5) .pulse 0).settings.lineMode = .pulse ∧ (lineIn (.pulse 5) .pulse 0).notice.line ≠ .negated ∧
      (let s := lineIn (.pulse 0) .pulse 0
       s.notice.line = .pulse 0 ∧ 0 ≤ s.moment ∧ s.settings.holdoff = 0) ∧
      (let s := lineIn (.pulse 1) .pulse 255
       s.notice.line = .pulse 1 ∧ s.moment < 1 ∧ 0 < s.settings.holdoff) ∧
      (let s := lineIn (.holdoff 0) .level 1
       s.notice.line = .holdoff 0 ∧ 0 ≤ s.moment ∧ s.settings.lineMode = .level) ∧
      (let s := lineIn (.holdoff 1) .pulse 1
       s.notice.line = .holdoff 1 ∧ s.moment < 1 ∧ s.settings.lineMode = .pulse) := by decide

/-- The acknowledgement that ends the demand takes the line to NEGATED, or with a holdoff of 1 to HOLDOFF for 10 ms; and
enabling a pending condition asserts it (R193, R199). -/
theorem test_demandEnds :
    (∀ q ∈ [(0, Line.negated), (1, .holdoff 10)],
      (acknowledge (BitVec.allOnes 17) (raise .dayRollover (lineIn .negated .level q.1))).notice.line = q.2) ∧
      (let s := raise .dayRollover (setEnables 0 (lineIn .negated .level 0))
       s.notice.line = .negated ∧ (setEnables (BitVec.allOnes 17) s).notice.line = .asserted) := by decide

theorem witness_NoticesReadClearedAndReported :
    (State.reset.idle ∧ State.reset.settings.ackMode = .explicit ∧
        { State.reset.settings with ackMode := .readClears }.ackMode = .readClears) ∧
      ¬ (CapacityTable.records.size * State.reset.settings.threshold / 100 ≤ State.reset.occupancy .records) ∧
      CapacityTable.revocations.size * fullList.settings.threshold / 100 ≤ fullList.occupancy .revocations ∧
      CapacityTable.tabs ≠ .records ∧
      (let s := { State.reset with settings := { Settings.powerOn with refusalMask := refusalCodes } }
       s.settings.refusalMask.getLsbD Result.denyUnknown.code.toNat = true) ∧
      State.reset.settings.refusalMask.getLsbD Result.denyUnknown.code.toNat = false := by
  unfold State.idle
  decide +kernel

/-- A refusal that the mask selects is kept and raises REFUSAL, and one that it does not select is not (R194). -/
theorem test_reportRefusal :
    (let s := { State.reset with settings := { Settings.powerOn with refusalMask := (1 : BitVec 88) <<< 0x10 } }
     let t := reportRefusal 5 63 .denyUnknown (some 8) none s
     t.notice.pending.getLsbD (conditionCode .refusal) = true ∧ t.notice.lastRefusal.isSome = true) ∧
      reportRefusal 5 63 .denyUnknown (some 8) none State.reset = State.reset := by
  refine ⟨?_, reportRefusal_unselected (by decide +kernel)⟩
  simp only
  rw [reportRefusal_selected rfl (by decide +kernel)]
  decide

/-- The last millisecond before the boundary of ship day 1: at run time 36,800 ship time is 100,800 (R78). -/
def lastMoment : State :=
  { ship { guest with spend := 500, drinks := 2 } account with
    clock := { runTime := 36799, millis := 999, status := .set, offset := some 64000, lastRolled := some 0 } }

/-- The rollover is made at the advance of run time that reaches the boundary (R79, R81), and a SET_TIME back to day 0
taken after it makes none and leaves the last-rolled day as it has moved (R80). -/
theorem test_rollover_atTheAdvance :
    after .runTimeAdvance lastMoment
        (fun t => (t.clock.lastRolled, (t.record 0).map fun r => (r.spend, r.spendPrevious, r.drinks))) =
      some (some 1, some (0, 500, 0)) ∧
      after .runTimeAdvance lastMoment
        (fun t => after (.setTime (bytes 8 90000)) t fun u => (u.clock.lastRolled, (u.record 0).map Record.spendPrevious)) =
      some (some (some 1, some 500)) ∧
      after .runTimeAdvance { lastMoment with clock := { lastMoment.clock with millis := 998 } }
        (fun t => t.clock.lastRolled) = some (some 0) := by decide +kernel

theorem witness_TimeAdvancesByOneMillisecond :
    (∀ c : TimeBase, nothingDue { State.reset with clock := c }) ∧ State.reset.clock.millis < 999 ∧
      (lastMoment.clock.millis = 999 ∧ 4294967294 < 4294967295 ∧ State.reset.clock.status = .unset) ∧
      (lastMoment.clock.status = .set ∧ lastMoment.clock.offset = some 64000 ∧ lastMoment.clock.lastRolled = some 0 ∧
        (0 : Int) < (36799 + 1 + 64000 - 4 * 3600) / 86400 ∧ ((36798 + 1 + 64000 - 4 * 3600) / 86400 : Int) ≤ 0) := by
  refine ⟨?_, by decide, by decide, by decide⟩
  intro c
  refine ⟨?_, ?_, ?_, ?_, ?_⟩
  · intro p
    fin_cases p <;>
      exact ⟨rfl, rfl, fun e he => absurd he (by simp [State.port, State.reset, PortBlock.powerOn])⟩
  · intro slot r v hr
    exact absurd hr (by simp [State.record, State.reset])
  · intro entry t ht
    exact absurd ht (by simp [State.reset])
  · intro e he
    exact absurd he (by simp [State.reset, ManagementPort.powerOn])
  · intro e he
    rcases he with he | he <;> exact absurd he (by simp [State.reset, NoticeUnit.powerOn])

end Sys2Proof.Tests
end

section
/-! What a revocation, the end of a reservation and a retirement leave in the record store, the cabins and the watch set
(R5, R13, R18, R34, R68): one equation for each field. -/

namespace Sys2Proof.Table

variable {α : Type}

/-- A key that the table does not list has nothing to drop. -/
theorem drop_eq_self {t : Table α} {k : Nat} (h : find t k = none) : drop t k = t := by
  induction t with
  | nil => rfl
  | cons e t ih =>
    obtain ⟨j, w⟩ := e
    rw [find_cons] at h
    split at h
    · cases h
    · rename_i hj
      rw [drop, if_neg hj, ih h]

theorem length_put_le (t : Table α) (k : Nat) (v : α) : (put t k v).length ≤ t.length + 1 := by
  induction t with
  | nil => simp [put]
  | cons e t ih =>
    obtain ⟨j, w⟩ := e
    simp only [put]
    split
    · simp
    · split
      · simp
      · simpa using ih

theorem length_drop_le (t : Table α) (k : Nat) : (drop t k).length ≤ t.length := by
  induction t with
  | nil => simp [drop]
  | cons e t ih =>
    obtain ⟨j, w⟩ := e
    simp only [drop]
    split
    · simp
    · simpa using ih

/-- A write at a key that is listed lengthens nothing, in the canonical form. -/
theorem length_put_of_find {t : Table α} {k : Nat} (v : α) (hw : wf t = true) (h : find t k ≠ none) :
    (put t k v).length = t.length := by
  induction t with
  | nil => exact absurd rfl h
  | cons e t ih =>
    obtain ⟨j, w⟩ := e
    simp only [put]
    rw [find_cons] at h
    split
    · rename_i hkj
      rw [if_neg (by omega)] at h
      exact absurd (find_below fun e he => lt_trans hkj (wf_above hw e he)) h
    · split
      · simp
      · rename_i h1 h2
        rw [if_neg fun hj => h2 hj.symm] at h
        simpa using ih (wf_tail hw) h

theorem find_drop {t : Table α} (k i : Nat) (h : wf t = true) :
    find (drop t k) i = if i = k then none else find t i := by
  split
  · rename_i hi
    exact hi ▸ find_drop_same i h
  · exact find_drop_other t ‹_›

theorem find_put (t : Table α) (k i : Nat) (v : α) : find (put t k v) i = if i = k then some v else find t i := by
  split
  · rename_i hi
    exact hi ▸ find_put_same t i v
  · exact find_put_other t v ‹_›

/-- A table lists what it finds. -/
theorem mem_of_find {t : Table α} {k : Nat} {v : α} (h : find t k = some v) : (k, v) ∈ t := by
  induction t with
  | nil => cases h
  | cons e t ih =>
    obtain ⟨j, w⟩ := e
    rw [find_cons] at h
    split at h
    · rename_i hj
      cases h
      exact hj ▸ List.mem_cons_self
    · exact List.mem_cons_of_mem _ (ih h)

theorem mem_keys_of_find {t : Table α} {k : Nat} {v : α} (h : find t k = some v) : k ∈ keys t :=
  List.mem_map.mpr ⟨(k, v), mem_of_find h, rfl⟩

end Sys2Proof.Table

namespace Sys2Proof.Machine

/-! ### Revocations and reservations -/

@[simp] theorem State.putIndex_store_eq (s : State) (n : Nat) (e : IndexEntry) :
    (s.putIndex n e).store = { s.store with index := s.store.index.put n e } := rfl

@[simp] theorem State.dropIndex_store_eq (s : State) (n : Nat) :
    (s.dropIndex n).store = { s.store with index := s.store.index.drop n } := rfl

/-- The revocation list with a new entry: a full list drops its oldest (R5). -/
def pushRevocation (l : List Revocation) (v : Revocation) : List Revocation :=
  if l.length < Config.revocationSize then l ++ [v] else l.drop 1 ++ [v]

theorem appendRevocation_store (v : Revocation) (s : State) :
    (appendRevocation v s).store = { s.store with revoked := pushRevocation s.store.revoked v } := by
  unfold appendRevocation pushRevocation
  split <;> rfl

theorem leaveIndex_store (n : Nat) (s : State) :
    (leaveIndex n s).store = { s.store with index := s.store.index.drop n } := by
  unfold leaveIndex
  split
  · rfl
  · rename_i h
    rw [Table.drop_eq_self (by simpa using h)]

theorem revoke_store {s : State} {slot : Nat} {r : Record} (n : Nat) (reason : RevocationReason)
    (h : s.record slot = some r) :
    (revoke slot n reason s).store =
      { records :=
          s.store.records.put slot { r with credentials := r.credentials.filter fun c => decide (c.number ≠ n) }
        index := s.store.index.drop n
        revoked :=
          pushRevocation s.store.revoked { number := n, slot := slot, reason := reason, time := s.clock.runTime } } := by
  simp only [revoke, h, appendRevocation_store, leaveIndex_store, State.putRecord_store_eq]

theorem revoke_store_free {s : State} {slot : Nat} (n : Nat) (reason : RevocationReason) (h : s.record slot = none) :
    (revoke slot n reason s).store =
      { s.store with
        index := s.store.index.drop n
        revoked :=
          pushRevocation s.store.revoked { number := n, slot := slot, reason := reason, time := s.clock.runTime } } := by
  simp only [revoke, h, appendRevocation_store, leaveIndex_store]

theorem revoke_revoked (slot n : Nat) (reason : RevocationReason) (s : State) :
    (revoke slot n reason s).store.revoked =
      pushRevocation s.store.revoked { number := n, slot := slot, reason := reason, time := s.clock.runTime } := by
  cases h : s.record slot with
  | none => rw [revoke_store_free n reason h]
  | some r => rw [revoke_store n reason h]

theorem revoke_index (slot n : Nat) (reason : RevocationReason) (s : State) :
    (revoke slot n reason s).store.index = s.store.index.drop n := by
  cases h : s.record slot with
  | none => rw [revoke_store_free n reason h]
  | some r => rw [revoke_store n reason h]

theorem revoke_record {s : State} {slot n : Nat} {r : Record} (reason : RevocationReason) (h : s.record slot = some r) :
    (revoke slot n reason s).record slot =
      some { r with credentials := r.credentials.filter fun c => decide (c.number ≠ n) } := by
  rw [State.record, revoke_store n reason h]
  exact Table.find_put_same _ _ _

theorem revoke_record_other {slot k : Nat} (n : Nat) (reason : RevocationReason) (s : State) (hk : k ≠ slot) :
    (revoke slot n reason s).record k = s.record k := by
  cases h : s.record slot with
  | none => rw [State.record, revoke_store_free n reason h, State.record]
  | some r =>
    rw [State.record, revoke_store n reason h]
    exact Table.find_put_other _ _ hk

theorem revoke_wf {slot n : Nat} {reason : RevocationReason} {s : State} (h : Table.wf s.store.records = true) :
    Table.wf (revoke slot n reason s).store.records = true := by
  cases hr : s.record slot with
  | none => rwa [revoke_store_free n reason hr]
  | some r =>
    rw [revoke_store n reason hr]
    exact Table.wf_put _ _ h

theorem endReservation_store (slot : Nat) (r : Record) (v : Reservation) (s : State) :
    (endReservation slot r v s).store =
      { s.store with
        records := s.store.records.put slot { r with reservation := none }
        index := s.store.index.drop v.number } := by
  simp only [endReservation, leaveIndex_store, State.putRecord_store_eq]

/-! ### The credentials of a retired record -/

/-- The credentials of a list revoked, oldest first, with reason RETIRED (R18). -/
def revokeAll (slot : Nat) (l : List Credential) (s : State) : State :=
  l.foldl (fun t c => revoke slot c.number .retired t) s

@[simp] theorem revokeAll_nil (slot : Nat) (s : State) : revokeAll slot [] s = s := rfl

@[simp] theorem revokeAll_cons (slot : Nat) (c : Credential) (l : List Credential) (s : State) :
    revokeAll slot (c :: l) s = revokeAll slot l (revoke slot c.number .retired s) := rfl

/-- What a revocation leaves as it was, the revocation of a list leaves as it was. -/
theorem revokeAll_frame {β : Type} {get : State → β} {slot : Nat}
    (h : ∀ n s, get (revoke slot n .retired s) = get s) (l : List Credential) (s : State) :
    get (revokeAll slot l s) = get s := by
  induction l generalizing s with
  | nil => rfl
  | cons c l ih => rw [revokeAll_cons, ih, h]

theorem revokeAll_record {slot : Nat} {r : Record} (l : List Credential) {s : State} (h : s.record slot = some r) :
    (revokeAll slot l s).record slot =
      some { r with credentials := r.credentials.filter fun c => decide (∀ d ∈ l, c.number ≠ d.number) } := by
  induction l generalizing s r with
  | nil => simpa using h
  | cons d l ih =>
    rw [revokeAll_cons, ih (revoke_record .retired h)]
    simp only [List.filter_filter, List.forall_mem_cons, Option.some.injEq, Record.mk.injEq, and_true, true_and]
    refine List.filter_congr fun c _ => ?_
    simp [Bool.and_comm]

/-- A record is left without a credential by the revocation of its list. -/
theorem revokeAll_own {slot : Nat} {r : Record} {s : State} (h : s.record slot = some r) :
    (revokeAll slot r.credentials s).record slot = some { r with credentials := [] } := by
  rw [revokeAll_record r.credentials h]
  simp only [Option.some.injEq, Record.mk.injEq, and_true, true_and]
  refine List.filter_eq_nil_iff.mpr fun c hc hd => ?_
  exact of_decide_eq_true hd c hc rfl

theorem retireCredentials_eq {slot : Nat} {r : Record} {s : State} (h : s.record slot = some r) :
    retireCredentials slot r s =
      match r.reservation with
      | some v => endReservation slot { r with credentials := [] } v (revokeAll slot r.credentials s)
      | none => revokeAll slot r.credentials s := by
  have h1 : List.foldl (fun t c => revoke slot c.number .retired t) s r.credentials = revokeAll slot r.credentials s :=
    rfl
  simp only [retireCredentials, h1, revokeAll_own h]
  cases r.reservation <;> rfl

/-- What a revocation and the end of a reservation leave as it was, the first steps of a retirement leave as it was. -/
theorem retireCredentials_frame {β : Type} {get : State → β} {slot : Nat}
    (hr : ∀ n s, get (revoke slot n .retired s) = get s) (he : ∀ r v s, get (endReservation slot r v s) = get s)
    (r : Record) (s : State) : get (retireCredentials slot r s) = get s := by
  have h1 : get (revokeAll slot r.credentials s) = get s := revokeAll_frame hr _ s
  unfold retireCredentials
  dsimp only
  split
  · exact (he _ _ _).trans h1
  · exact h1

theorem retireCredentials_record {slot : Nat} {r : Record} {s : State} (h : s.record slot = some r) :
    (retireCredentials slot r s).record slot = some { r with credentials := [], reservation := none } := by
  rw [retireCredentials_eq h]
  cases hv : r.reservation with
  | none =>
    obtain ⟨⟩ := r
    cases hv
    exact revokeAll_own h
  | some v =>
    simp only [State.record, endReservation_store]
    exact Table.find_put_same _ _ _

theorem retireCredentials_record_other {slot k : Nat} (r : Record) (s : State) (hk : k ≠ slot) :
    (retireCredentials slot r s).record k = s.record k :=
  retireCredentials_frame (get := fun t => t.record k) (fun n t => revoke_record_other n .retired t hk)
    (fun r' v t => by
      simp only [State.record, endReservation_store]
      exact Table.find_put_other _ _ hk) r s

/-- The first steps of a retirement keep what a revocation and the end of a reservation keep. -/
theorem retireCredentials_keeps {P : State → Prop} {slot : Nat} (hr : ∀ n s, P s → P (revoke slot n .retired s))
    (he : ∀ r v s, s.record slot = some r → P s → P (endReservation slot r v s)) (r : Record) {s : State} (hs : P s) :
    P (retireCredentials slot r s) := by
  have h1 : P (revokeAll slot r.credentials s) := by
    have key : ∀ (l : List Credential) (t : State), P t → P (revokeAll slot l t) := by
      intro l
      induction l with
      | nil => exact fun t ht => ht
      | cons c l ih => exact fun t ht => ih _ (hr c.number t ht)
    exact key _ _ hs
  unfold retireCredentials
  dsimp only
  split
  · exact he _ _ _ ‹_› h1
  · exact h1

/-! ### Retirement -/

/-- The steps of a retirement after the credentials and the reservation: the cabins, the watch entry, the count, the
folio and the slot (R18). -/
def vacateSlot (slot : Nat) (r : Record) (s : State) : State :=
  let s2 := leaveCabin? slot r.secondCabin (leaveCabin? slot r.homeCabin s)
  let s3 := leaveWatch slot s2
  let before := s3.passage.counts
  freeRecord slot (loseMember r.folio (reconcile before (s3.setCounts (subCell before r.cls r.location))))

theorem retire_eq (slot : Nat) (r : Record) (s : State) :
    retire slot r s = vacateSlot slot r (retireCredentials slot r s) := rfl

theorem leaveWatch_watch (slot : Nat) (s : State) :
    (leaveWatch slot s).passage.watch = s.passage.watch.filter fun e => decide (e.slot ≠ slot) := by
  unfold leaveWatch
  split
  · rfl
  · rename_i h
    refine (List.filter_eq_self.mpr fun e he => ?_).symm
    simp only [List.any_eq_true, decide_eq_true_eq, not_exists, not_and] at h
    simpa using h e he

/-- The entry of the watch set that leaves is one event of the notices, and nothing else moves (R68). -/
theorem leaveWatch_cases (slot : Nat) (s : State) :
    leaveWatch slot s = setWatch (s.passage.watch.filter fun e => decide (e.slot ≠ slot)) s ∨ leaveWatch slot s = s := by
  unfold leaveWatch
  split
  · exact .inl rfl
  · exact .inr rfl

section
variable (slot : Nat) (r : Record) (s : State)

@[simp] theorem leaveWatch_ports : (leaveWatch slot s).ports = s.ports := by
  rcases leaveWatch_cases slot s with h | h <;> rw [h]; rfl
@[simp] theorem leaveWatch_terminals : (leaveWatch slot s).terminals = s.terminals := by
  rcases leaveWatch_cases slot s with h | h <;> rw [h]; rfl
@[simp] theorem leaveWatch_management : (leaveWatch slot s).management = s.management := by
  rcases leaveWatch_cases slot s with h | h <;> rw [h]; rfl
@[simp] theorem leaveWatch_settings : (leaveWatch slot s).settings = s.settings := by
  rcases leaveWatch_cases slot s with h | h <;> rw [h]; rfl
@[simp] theorem leaveWatch_store : (leaveWatch slot s).store = s.store := by
  rcases leaveWatch_cases slot s with h | h <;> rw [h]; rfl
@[simp] theorem leaveWatch_access : (leaveWatch slot s).access = s.access := by
  rcases leaveWatch_cases slot s with h | h <;> rw [h]; rfl
@[simp] theorem leaveWatch_counts : (leaveWatch slot s).passage.counts = s.passage.counts := by
  rcases leaveWatch_cases slot s with h | h <;> rw [h]; rfl
@[simp] theorem leaveWatch_muster : (leaveWatch slot s).muster = s.muster := by
  rcases leaveWatch_cases slot s with h | h <;> rw [h]; rfl
@[simp] theorem leaveWatch_clock : (leaveWatch slot s).clock = s.clock := by
  rcases leaveWatch_cases slot s with h | h <;> rw [h]; rfl
@[simp] theorem leaveWatch_folios : (leaveWatch slot s).folios = s.folios := by
  rcases leaveWatch_cases slot s with h | h <;> rw [h]; rfl
@[simp] theorem leaveWatch_charge : (leaveWatch slot s).charge = s.charge := by
  rcases leaveWatch_cases slot s with h | h <;> rw [h]; rfl
@[simp] theorem leaveWatch_tabs : (leaveWatch slot s).tabs = s.tabs := by
  rcases leaveWatch_cases slot s with h | h <;> rw [h]; rfl
@[simp] theorem leaveWatch_pending : (leaveWatch slot s).pending = s.pending := by
  rcases leaveWatch_cases slot s with h | h <;> rw [h]; rfl

@[simp] theorem vacateSlot_ports : (vacateSlot slot r s).ports = s.ports := by simp [vacateSlot, freeRecord]
@[simp] theorem vacateSlot_terminals : (vacateSlot slot r s).terminals = s.terminals := by simp [vacateSlot, freeRecord]
@[simp] theorem vacateSlot_management : (vacateSlot slot r s).management = s.management := by
  simp [vacateSlot, freeRecord]
@[simp] theorem vacateSlot_settings : (vacateSlot slot r s).settings = s.settings := by simp [vacateSlot, freeRecord]
@[simp] theorem vacateSlot_store :
    (vacateSlot slot r s).store = { s.store with records := s.store.records.drop slot } := by
  simp [vacateSlot, freeRecord]
@[simp] theorem vacateSlot_access :
    (vacateSlot slot r s).access = (leaveCabin? slot r.secondCabin (leaveCabin? slot r.homeCabin s)).access := by
  simp [vacateSlot, freeRecord]
@[simp] theorem vacateSlot_watch :
    (vacateSlot slot r s).passage.watch = s.passage.watch.filter fun e => decide (e.slot ≠ slot) := by
  simp [vacateSlot, freeRecord, leaveWatch_watch]
@[simp] theorem vacateSlot_counts :
    (vacateSlot slot r s).passage.counts = subCell s.passage.counts r.cls r.location := by
  simp [vacateSlot, freeRecord]
@[simp] theorem vacateSlot_muster : (vacateSlot slot r s).muster = s.muster := by simp [vacateSlot, freeRecord]
@[simp] theorem vacateSlot_clock : (vacateSlot slot r s).clock = s.clock := by simp [vacateSlot, freeRecord]
@[simp] theorem vacateSlot_charge : (vacateSlot slot r s).charge = s.charge := by simp [vacateSlot, freeRecord]
@[simp] theorem vacateSlot_tabs : (vacateSlot slot r s).tabs = s.tabs := by simp [vacateSlot, freeRecord]

@[simp] theorem retireCredentials_ports : (retireCredentials slot r s).ports = s.ports :=
  retireCredentials_frame (get := State.ports) (fun _ _ => by simp) (fun _ _ _ => by simp) r s
@[simp] theorem retireCredentials_terminals : (retireCredentials slot r s).terminals = s.terminals :=
  retireCredentials_frame (get := State.terminals) (fun _ _ => by simp) (fun _ _ _ => by simp) r s
@[simp] theorem retireCredentials_management : (retireCredentials slot r s).management = s.management :=
  retireCredentials_frame (get := State.management) (fun _ _ => by simp) (fun _ _ _ => by simp) r s
@[simp] theorem retireCredentials_settings : (retireCredentials slot r s).settings = s.settings :=
  retireCredentials_frame (get := State.settings) (fun _ _ => by simp) (fun _ _ _ => by simp) r s
@[simp] theorem retireCredentials_access : (retireCredentials slot r s).access = s.access :=
  retireCredentials_frame (get := State.access) (fun _ _ => by simp) (fun _ _ _ => by simp) r s
@[simp] theorem retireCredentials_passage : (retireCredentials slot r s).passage = s.passage :=
  retireCredentials_frame (get := State.passage) (fun _ _ => by simp) (fun _ _ _ => by simp) r s
@[simp] theorem retireCredentials_muster : (retireCredentials slot r s).muster = s.muster :=
  retireCredentials_frame (get := State.muster) (fun _ _ => by simp) (fun _ _ _ => by simp) r s
@[simp] theorem retireCredentials_clock : (retireCredentials slot r s).clock = s.clock :=
  retireCredentials_frame (get := State.clock) (fun _ _ => by simp) (fun _ _ _ => by simp) r s
@[simp] theorem retireCredentials_folios : (retireCredentials slot r s).folios = s.folios :=
  retireCredentials_frame (get := State.folios) (fun _ _ => by simp) (fun _ _ _ => by simp) r s
@[simp] theorem retireCredentials_charge : (retireCredentials slot r s).charge = s.charge :=
  retireCredentials_frame (get := State.charge) (fun _ _ => by simp) (fun _ _ _ => by simp) r s
@[simp] theorem retireCredentials_tabs : (retireCredentials slot r s).tabs = s.tabs :=
  retireCredentials_frame (get := State.tabs) (fun _ _ => by simp) (fun _ _ _ => by simp) r s

@[simp] theorem retire_management : (retire slot r s).management = s.management := by simp [retire_eq]
@[simp] theorem retire_clock : (retire slot r s).clock = s.clock := by simp [retire_eq]

end

theorem retireCredentials_wf {s : State} {slot : Nat} (r : Record) (hw : Table.wf s.store.records = true) :
    Table.wf (retireCredentials slot r s).store.records = true :=
  retireCredentials_keeps (P := fun t => Table.wf t.store.records = true) (fun _ _ h => revoke_wf h)
    (fun _ _ _ _ h => by
      simp only [endReservation_store]
      exact Table.wf_put _ _ h) r hw

/-- A retired record's slot is FREE, and every other slot is as it was (R1, R18). -/
theorem retire_record {s : State} {slot : Nat} {r : Record} (hw : Table.wf s.store.records = true)
    (k : Nat) : (retire slot r s).record k = if k = slot then none else s.record k := by
  have h1 : (retire slot r s).record k = (Table.drop (retireCredentials slot r s).store.records slot).find k := by
    simp [retire_eq, State.record]
  rw [h1, Table.find_drop slot k (retireCredentials_wf r hw)]
  split
  · rfl
  · exact retireCredentials_record_other r s ‹_›

theorem retire_wf {s : State} {slot : Nat} {r : Record} (hw : Table.wf s.store.records = true) :
    Table.wf (retire slot r s).store.records = true := by
  simpa [retire_eq] using Table.wf_drop slot (retireCredentials_wf r hw)

end Sys2Proof.Machine
end

section
/-! What a command can do, said once: a deed is one thing that the part does to what the laws of the ports, the records,
the cabins, the lists and the timers read. Each command is a chain of deeds, so that a law which every deed keeps is
kept by every step; the advance of time alone stands beside them. -/

namespace Sys2Proof.Machine

/-! ### The end of a pulse or holdoff -/

/-- The end of a pulse or a holdoff, where the line is in one, is not before a moment. -/
def Line.endsFrom (now : Nat) : Line → Prop
  | .pulse ends => now ≤ ends
  | .holdoff ends => now ≤ ends
  | _ => True

theorem State.lineAhead_iff (s : State) : s.lineAhead ↔ s.notice.line.endsFrom s.moment := by
  unfold State.lineAhead
  cases s.notice.line <;> rfl

theorem restLine_endsFrom (set : Settings) (now : Nat) : (restLine set now).endsFrom now := by
  unfold restLine
  split <;> simp [Line.endsFrom]

theorem lineEvent_endsFrom {set : Settings} {now : Nat} {was is : BitVec 17} {n : NoticeUnit}
    (h : n.line.endsFrom now) : (lineEvent set now was is n).line.endsFrom now := by
  unfold lineEvent
  split
  case h_1 =>
    split
    · trivial
    · exact h
  case h_2 =>
    split
    · exact restLine_endsFrom set now
    · exact h
  case h_3 => exact h
  case h_4 =>
    split
    · exact Nat.le_add_right _ _
    · exact h
  case h_5 => exact h
  case h_6 => split <;> exact h

theorem lineModeChange_endsFrom {m : LineMode} {set : Settings} {now : Nat} {demand : Bool} {n : NoticeUnit}
    (h : n.line.endsFrom now) : (lineModeChange m set now demand n).line.endsFrom now := by
  unfold lineModeChange
  split
  case h_1 e hl => exact hl ▸ h
  case h_2 => cases demand <;> simp [Line.endsFrom]
  case h_3 => exact restLine_endsFrom _ _
  case h_4 => exact h

theorem afterHoldoff_endsFrom (s : State) : (afterHoldoff s).endsFrom s.moment := by
  unfold afterHoldoff
  split <;> split <;> simp [Line.endsFrom]

/-! ### Changes aside from the laws -/

/-- A change of nothing that the laws of the ports, the records, the cabins, the lists and the timers read: it is in the
counts, the muster unit, the folios, the settings, the notices or the calendar. -/
structure Aside (s t : State) : Prop where
  ports : t.ports = s.ports
  store : t.store = s.store
  cabins : t.access.cabins = s.access.cabins
  watch : t.passage.watch = s.passage.watch
  entries : t.tabs.entries = s.tabs.entries
  runTime : t.clock.runTime = s.clock.runTime
  millis : t.clock.millis = s.clock.millis
  service : t.management.service = s.management.service
  watchdog : t.management.watchdog = s.management.watchdog
  line : s.lineAhead → t.lineAhead

namespace Aside

variable {s t u : State}

theorem refl (s : State) : Aside s s := ⟨rfl, rfl, rfl, rfl, rfl, rfl, rfl, rfl, rfl, id⟩

theorem trans (h : Aside s t) (k : Aside t u) : Aside s u where
  ports := k.ports.trans h.ports
  store := k.store.trans h.store
  cabins := k.cabins.trans h.cabins
  watch := k.watch.trans h.watch
  entries := k.entries.trans h.entries
  runTime := k.runTime.trans h.runTime
  millis := k.millis.trans h.millis
  service := k.service.trans h.service
  watchdog := k.watchdog.trans h.watchdog
  line := k.line ∘ h.line

theorem record (h : Aside s t) (slot : Nat) : t.record slot = s.record slot := by simp [State.record, h.store]

theorem port (h : Aside s t) (p : Port) : t.port p = s.port p := by simp [State.port, h.ports]

/-- An event of the NOTICE line after a change aside is a change aside. -/
theorem notices (h : Aside s t) (before : State) : Aside s (changeNotices before t) where
  ports := h.ports
  store := h.store
  cabins := h.cabins
  watch := h.watch
  entries := h.entries
  runTime := h.runTime
  millis := h.millis
  service := h.service
  watchdog := h.watchdog
  line hs := by
    have ht := (State.lineAhead_iff t).mp (h.line hs)
    exact (State.lineAhead_iff _).mpr (lineEvent_endsFrom ht)

/-- A change of the notice unit whose line has not been passed is a change aside. -/
theorem ofNotice (n : NoticeUnit) (h : s.lineAhead → n.line.endsFrom s.moment) : Aside s { s with notice := n } :=
  ⟨rfl, rfl, rfl, rfl, rfl, rfl, rfl, rfl, rfl, fun hs => (State.lineAhead_iff _).mpr (h hs)⟩

theorem ite {c : Prop} [Decidable c] (ht : c → Aside s t) (hu : ¬ c → Aside s u) : Aside s (if c then t else u) := by
  split
  · exact ht ‹_›
  · exact hu ‹_›

theorem raise (c : Condition) (s : State) : Aside s (raise c s) := by
  refine notices ?_ s
  exact ⟨rfl, rfl, rfl, rfl, rfl, rfl, rfl, rfl, rfl, id⟩

theorem raisePortSilent (p : Port) (s : State) : Aside s (raisePortSilent p s) := by
  refine notices ?_ s
  exact ⟨rfl, rfl, rfl, rfl, rfl, rfl, rfl, rfl, rfl, id⟩

theorem raisePortErrors (p : Port) (s : State) : Aside s (raisePortErrors p s) := by
  refine notices ?_ s
  exact ⟨rfl, rfl, rfl, rfl, rfl, rfl, rfl, rfl, rfl, id⟩

theorem report (c : CapacityTable) (s : State) : Aside s (report c s) := by
  refine notices ?_ s
  exact ⟨rfl, rfl, rfl, rfl, rfl, rfl, rfl, rfl, rfl, id⟩

theorem reportAll (s : State) : Aside s (reportAll s) :=
  (((report .records s).trans (report .credentials _)).trans (report .revocations _)).trans (report .tabs _)

theorem acknowledge (set : BitVec 17) (s : State) : Aside s (acknowledge set s) := by
  refine notices ?_ s
  exact ⟨rfl, rfl, rfl, rfl, rfl, rfl, rfl, rfl, rfl, id⟩

/-- The mask and the credentials of the last refusal move no line. -/
theorem lastRefusal (v : Option Refused) (s : State) :
    Aside s { s with notice := { s.notice with lastRefusal := v } } :=
  ofNotice _ (State.lineAhead_iff s).mp

theorem reportRefusal (p : Port) (term : Nat) (r : Result) (c slot : Option Nat) (s : State) :
    Aside s (reportRefusal p term r c slot s) := by
  exact ite (fun _ => (lastRefusal _ s).trans (raise _ _)) fun _ => refl s

theorem endPulse (s : State) : Aside s (endPulse s) := by
  unfold Machine.endPulse
  split
  · split
    · exact ofNotice _ fun _ => restLine_endsFrom _ _
    · exact refl s
  · exact refl s

theorem endHoldoff (s : State) : Aside s (endHoldoff s) := by
  unfold Machine.endHoldoff
  split
  · split
    · exact ofNotice _ fun _ => afterHoldoff_endsFrom s
    · exact refl s
  · exact refl s

/-- A change of the settings moves no line by itself. -/
theorem settings (v : Settings) (s : State) : Aside s { s with settings := v } :=
  ⟨rfl, rfl, rfl, rfl, rfl, rfl, rfl, rfl, rfl, id⟩

theorem setEnables (e : BitVec 17) (s : State) : Aside s (setEnables e s) := (settings _ s).notices s

theorem setLatchMode (m : LatchMode) (s : State) : Aside s (setLatchMode m s) := by
  refine notices ?_ s
  exact ⟨rfl, rfl, rfl, rfl, rfl, rfl, rfl, rfl, rfl, id⟩

theorem setLineMode (m : LineMode) (s : State) : Aside s (setLineMode m s) := by
  unfold Machine.setLineMode
  split
  · exact refl s
  · exact (ofNotice _ fun hs => lineModeChange_endsFrom ((State.lineAhead_iff s).mp hs)).trans (settings _ _)

theorem setCounts (m : ByClass (ByLocation Nat)) (s : State) : Aside s (s.setCounts m) :=
  ⟨rfl, rfl, rfl, rfl, rfl, rfl, rfl, rfl, rfl, id⟩

theorem muster (m : MusterUnit) (s : State) : Aside s { s with muster := m } :=
  ⟨rfl, rfl, rfl, rfl, rfl, rfl, rfl, rfl, rfl, id⟩

theorem folios (t : Table Folio) (s : State) : Aside s { s with folios := t } :=
  ⟨rfl, rfl, rfl, rfl, rfl, rfl, rfl, rfl, rfl, id⟩

theorem charge (c : ChargeUnit) (s : State) : Aside s { s with charge := c } :=
  ⟨rfl, rfl, rfl, rfl, rfl, rfl, rfl, rfl, rfl, id⟩

theorem terminals (t : Table TerminalEntry) (s : State) : Aside s { s with terminals := t } :=
  ⟨rfl, rfl, rfl, rfl, rfl, rfl, rfl, rfl, rfl, id⟩

theorem pending (q : List Instr) (s : State) : Aside s { s with pending := q } :=
  ⟨rfl, rfl, rfl, rfl, rfl, rfl, rfl, rfl, rfl, id⟩

/-- The roles and the class policies are aside from the cabins. -/
theorem access (a : AccessUnit) (h : a.cabins = s.access.cabins) : Aside s { s with access := a } :=
  ⟨rfl, rfl, h, rfl, rfl, rfl, rfl, rfl, rfl, id⟩

/-- The calendar is aside from the run time. -/
theorem calendar (c : TimeBase) (hr : c.runTime = s.clock.runTime) (hm : c.millis = s.clock.millis) :
    Aside s { s with clock := c } where
  ports := rfl
  store := rfl
  cabins := rfl
  watch := rfl
  entries := rfl
  runTime := hr
  millis := hm
  service := rfl
  watchdog := rfl
  line hs := by
    have hmo : State.moment { s with clock := c } = s.moment := by simp [State.moment, hr, hm]
    rw [State.lineAhead_iff, hmo]
    exact (State.lineAhead_iff s).mp hs

theorem raiseReconciled (a b : Bool) (m : ByClass (ByLocation Nat)) (s : State) :
    Aside s (raiseReconciled a b m s) := by
  have h1 : Aside s (if allAboard m && !a then Machine.raise .allAboard s else s) :=
    ite (fun _ => raise _ s) fun _ => refl s
  exact ite (fun _ => h1.trans (raise _ _)) fun _ => h1

theorem reconcile (m : ByClass (ByLocation Nat)) (s : State) : Aside s (reconcile m s) :=
  ite (fun _ => raiseReconciled _ _ _ s) fun _ => refl s

theorem enterCutoff (s : State) : Aside s (enterCutoff s) := raiseReconciled _ _ _ s

theorem storeReevaluated (slot : Nat) (f : Folio) (s : State) : Aside s (storeReevaluated slot f s) := by
  have h1 : Aside s (s.putFolio slot f.reevaluated.1) := folios _ s
  exact ite (fun _ => h1.trans (raise _ _)) fun _ => h1

theorem limitDecline (slot : Nat) (f : Folio) (s : State) : Aside s (limitDecline slot f s) :=
  (folios _ s : Aside s (s.putFolio slot (f.suspendedFor .limit))).trans (raise _ _)

theorem loseMember (slot : Nat) (s : State) : Aside s (loseMember slot s) := by
  unfold Machine.loseMember
  split
  · split
    · exact folios _ s
    · exact folios _ s
  · exact refl s

theorem gainMember (slot : Nat) (s : State) : Aside s (gainMember slot s) := by
  unfold Machine.gainMember
  split
  · exact folios _ s
  · exact refl s

end Aside

/-! ### Deeds -/

/-- A record rewritten with its cabins, its credentials and its reservation kept, and its other fields together as they
were (R4, R19, R29, R89). -/
structure Record.Keeps (r r' : Record) : Prop where
  homeCabin : r'.homeCabin = r.homeCabin
  secondCabin : r'.secondCabin = r.secondCabin
  credentials : r'.credentials = r.credentials
  reservation : r'.reservation = r.reservation
  good : r.good → r'.good

/-- One thing that a terminal port does (R160 to R168, R175, R176). -/
inductive PortDeed : State → State → Prop
  | takeFrame (p : Port) (s : State) : PortDeed s (takeFrame p s)
  | endInHand (p : Port) (s : State) : PortDeed s (endInHand p s)
  | holdReply (p : Port) (f : Frame) (r : Result) (body : List Byte) (s : State) : PortDeed s (holdReply p f r body s)
  | settle (p : Port) (s : State) : PortDeed s (settle p s)
  | endGap (p : Port) (s : State) : PortDeed s (endGap p s)
  | huntByte (p : Port) (b : Byte) (s : State) : PortDeed s (huntByte p b s)
  | frameByte (p : Port) (collected : List Byte) (last : Nat) (b : Byte) (stopGood : Bool) (s : State)
      (h : (s.port p).receiver = .frame collected last) : PortDeed s (frameByte p collected b stopGood s)
  | expireSilence (p : Port) (s : State) : PortDeed s (expireSilence p s)
  | portReset (p : Port) (s : State) : PortDeed s (s.setPort p ((s.port p).reset s.clock.runTime))
  | clearErrors (p : Port) (s : State) : PortDeed s (s.setPort p { s.port p with errors := 0 })

/-- One thing that is done to the record store or to the cabins (R5 to R21, R29 to R35). -/
inductive TableDeed : State → State → Prop
  | editRecord (s : State) (slot : Nat) (r r' : Record) (h : s.record slot = some r) (hk : r.Keeps r') :
      TableDeed s (s.putRecord slot r')
  | mapRecords (s : State) (f : Record → Record) (hk : ∀ r : Record, r.Keeps (f r)) :
      TableDeed s { s with store := { s.store with records := s.store.records.mapValues f } }
  | issue (s : State) (slot : Nat) (q : IssueFields) (hf : s.record slot = none) (hr : q.role ≠ none ↔ q.cls = .crew) :
      TableDeed s (s.putRecord slot (issuedRecord q))
  | reserve (q : ReserveFields) (r : Record) (s : State) (h : s.record q.slot = some r)
      (hr : reserveRefusal q r s = none) : TableDeed s (reserved q r s)
  | confirm (slot : Nat) (r : Record) (v : Reservation) (s : State) (h : s.record slot = some r)
      (hv : r.reservation = some v) (hn : replacedNow r v = none) : TableDeed s (confirmInto slot v s)
  | endReservation (slot : Nat) (r : Record) (v : Reservation) (s : State) (h : s.record slot = some r)
      (hv : r.reservation = some v) : TableDeed s (endReservation slot r v s)
  | revoke (slot n : Nat) (reason : RevocationReason) (s : State)
      (h : s.store.index.find n = some { slot := slot, status := .active } ∨
        ∃ r, s.record slot = some r ∧ r.holds n = true) : TableDeed s (revoke slot n reason s)
  | removeRevoked (n : Nat) (s : State) :
      TableDeed s
        { s with store := { s.store with revoked := s.store.revoked.filter fun w => decide (w.number ≠ n) } }
  | retire (slot : Nat) (r : Record) (s : State) (h : s.record slot = some r) : TableDeed s (retire slot r s)
  | assign (slot n : Nat) (r : Record) (s : State) (h : s.record slot = some r) (hr : assignRefusal r n s = none) :
      TableDeed s
        ((s.putRecord slot (r.assigned n)).putCabin n
          { s.cabin n with occupants := (s.cabin n).occupants ++ [slot] })
  | vacate (slot n : Nat) (r : Record) (s : State) (h : s.record slot = some r) (hn : r.names n = true) :
      TableDeed s (leaveCabin slot n (s.putRecord slot (r.vacated n)))
  | editCabin (n : Nat) (c : Cabin) (s : State) (h : c.occupants = (s.cabin n).occupants) : TableDeed s (s.putCabin n c)

/-- One thing that the part does to its state. -/
inductive Deed : State → State → Prop
  | aside {s t : State} (h : Aside s t) : Deed s t
  | port {s t : State} (h : PortDeed s t) : Deed s t
  | table {s t : State} (h : TableDeed s t) : Deed s t
  /-- A transaction of the management port that moves neither the service state nor the watchdog (R179 to R182). -/
  | transact (s : State) (m : ManagementPort) (hs : m.service = s.management.service)
      (hw : m.watchdog = s.management.watchdog) : Deed s { s with management := m }
  | restartWatchdog (s : State) : Deed s (restartWatchdog s)
  | serve (s : State) : Deed s (setService .serving none s)
  | expireWatchdog (s : State) : Deed s (expireWatchdog s)
  | emptyReporting (s : State) : Deed s (emptyReporting s)
  | thinWatch (w : List WatchEntry) (s : State)
      (h : (w.map WatchEntry.slot).Sublist (s.passage.watch.map WatchEntry.slot)) : Deed s (setWatch w s)
  | joinWatch (e : WatchEntry) (s : State) (h : ∀ d ∈ s.passage.watch, d.slot ≠ e.slot)
      (hl : s.passage.watch.length < Config.watchSize) : Deed s (setWatch (s.passage.watch ++ [e]) s)
  | openTab (entry : Nat) (t : Tab) (next : Nat) (s : State) (h : s.clock.runTime ≤ t.expiry) :
      Deed s { s with tabs := { entries := s.tabs.entries.put entry t, nextNumber := next } }
  | freeTab (entry : Nat) (s : State) : Deed s (freeTab entry s)
  | powerOn (s : State) : Deed s { State.reset with pending := s.pending }

/-- A chain of deeds, one after the other. -/
def Deeds : State → State → Prop := Relation.ReflTransGen Deed

namespace Deeds

variable {s t u : State}

theorem refl : Deeds s s := Relation.ReflTransGen.refl

theorem one (h : Deed s t) : Deeds s t := Relation.ReflTransGen.single h

theorem trans (h : Deeds s t) (k : Deeds t u) : Deeds s u := Relation.ReflTransGen.trans h k

theorem tail (h : Deeds s t) (k : Deed t u) : Deeds s u := h.trans (one k)

theorem aside (h : Aside s t) : Deeds s t := one (.aside h)

theorem port (h : PortDeed s t) : Deeds s t := one (.port h)

theorem table (h : TableDeed s t) : Deeds s t := one (.table h)

theorem thenPort (h : Deeds s t) (k : PortDeed t u) : Deeds s u := h.tail (.port k)

theorem thenTable (h : Deeds s t) (k : TableDeed t u) : Deeds s u := h.tail (.table k)

theorem thenAside (h : Deeds s t) (k : Aside t u) : Deeds s u := h.trans (aside k)

/-- What every deed keeps, a chain of deeds keeps. -/
theorem keeps {P : State → Prop} (hd : ∀ s t, Deed s t → P s → P t) (h : Deeds s t) (hs : P s) : P t := by
  induction h with
  | refl => exact hs
  | tail _ hk ih => exact hd _ _ hk ih

end Deeds

end Sys2Proof.Machine
end

section
/-! The deeds of each command. A request of the host is a transaction, the deeds of its decision and a transaction; a
request of a terminal is the take of its frame, the deeds of its judgement, a report and the reply in hand. -/

namespace Sys2Proof.Table

variable {α : Type}

/-- A second write at a key is the one that stays. -/
@[simp] theorem put_put (t : Table α) (k : Nat) (v w : α) : put (put t k v) k w = put t k w := by
  induction t with
  | nil => simp [put]
  | cons e t ih =>
    obtain ⟨j, x⟩ := e
    simp only [put]
    split
    · simp [put]
    · split
      · simp [put]
      · rename_i h1 h2
        simp [put, h1, h2, ih]

end Sys2Proof.Table

namespace Sys2Proof.Machine

/-! ### Requests of the host -/

section
variable {α : Type} {s : State}

theorem checked_deeds {p : Parsed α} {run : α → Decision} (h : ∀ a, p = .good a → Deeds s (run a).state) :
    Deeds s (checked p s run).state := by
  cases p with
  | good a => exact h a rfl
  | badRequest => exact .refl
  | range => exact .refl

theorem withRecord_deeds {slot : Nat} {run : Record → Decision}
    (h : ∀ r, s.record slot = some r → Deeds s (run r).state) : Deeds s (withRecord slot s run).state := by
  unfold withRecord
  split
  · exact h _ ‹_›
  · exact .refl

theorem withFolio_deeds {slot : Nat} {run : Folio → Decision}
    (h : ∀ f, s.folio slot = some f → Deeds s (run f).state) : Deeds s (withFolio slot s run).state := by
  unfold withFolio
  split
  · exact h _ ‹_›
  · exact .refl

/-- A check that refuses, and what the request does when the check passes. -/
theorem refuseIf_deeds {c : Prop} [Decidable c] {code : ReplyCode} {d : Decision} (h : ¬ c → Deeds s d.state) :
    Deeds s (if c then refuse code s else d).state := by
  split
  · exact .refl
  · exact h ‹_›

end

theorem takeWrite_deeds (kind : Byte) (body : List Byte) (s : State) : Deeds s (takeWrite kind body s) :=
  (Deeds.one
    (.transact s
      { s.management with
        state := .working
        rejected := false
        request := some { kind := kind, body := body }
        shiftedOut := writeShiftOut s.management (requestFrameSize body.length) } rfl rfl)).tail
    (.restartWatchdog _)

theorem discardWrite_deeds (n : Nat) (s : State) : Deeds s (discardWrite n s) := .one (.transact s _ rfl rfl)

theorem placeReply_deeds {s : State} {d : Decision} (kind : Byte) (h : Deeds s d.state) : Deeds s (placeReply kind d) :=
  h.tail (.transact d.state _ rfl rfl)

theorem manage_deeds {d : State → Decision} (kind : Byte) (body : List Byte) (h : ∀ s, Deeds s (d s).state)
    (s : State) : Deeds s (manage kind body d s) := by
  unfold manage
  split
  · refine placeReply_deeds kind ((takeWrite_deeds kind body s).trans ?_)
    split
    · exact .refl
    · exact h _
  · exact discardWrite_deeds _ s

/-- A request that reads, or a check that refuses it, does nothing else. -/
theorem readOnly_deeds {α : Type} {p : Parsed α} {s : State} {run : α → List Byte} :
    Deeds s (checked p s fun a => done (run a) s).state :=
  checked_deeds fun _ _ => .refl

/-! ### Edits of a record -/

theorem Record.Keeps.rfl' (r : Record) : r.Keeps r := ⟨rfl, rfl, rfl, rfl, id⟩

/-- The number of a reservation and the numbers of the list are read from the two fields alone. -/
theorem Record.holds_congr {r r' : Record} (h : r'.credentials = r.credentials) (n : Nat) : r'.holds n = r.holds n := by
  simp [Record.holds, h]

/-- The fields of a record that goodness reads, kept (R4, R19, R29, R89). -/
theorem Record.keeps_of_eq {r r' : Record} (hf : r'.musterFlag = r.musterFlag) (ha : r'.musteredAt = r.musteredAt)
    (hl : r'.location = r.location) (hr : r.cls = .crew ∧ r'.role ≠ none ∨ r'.role = r.role) (hc : r'.cls = r.cls)
    (hh : r'.homeCabin = r.homeCabin) (h2 : r'.secondCabin = r.secondCabin)
    (hm : (r.message ≠ 0 ↔ r.shows ≠ 0) → (r'.message ≠ 0 ↔ r'.shows ≠ 0)) (hk : r'.credentials = r.credentials)
    (hv : r'.reservation = r.reservation) : r.Keeps r' where
  homeCabin := hh
  secondCabin := h2
  credentials := hk
  reservation := hv
  good hg := by
    obtain ⟨g1, g2, g3, g4, g5, g6, g7⟩ := hg
    refine ⟨by rw [hf, ha]; exact g1, by rw [hf, hl]; exact g2, ?_, by rw [hh, h2]; exact g4, hm g5,
      by rw [hk]; exact g6, ?_⟩
    · rcases hr with ⟨hcrew, hrole⟩ | hrole
      · simp [hc, hcrew, hrole]
      · rw [hrole, hc]
        exact g3
    · intro v hres hlen
      obtain ⟨n, hn, hold⟩ := g7 v (hv ▸ hres) (hk ▸ hlen)
      exact ⟨n, hn, by rw [Record.holds_congr hk]; exact hold⟩

theorem Record.shown_keeps (r : Record) : r.Keeps r.shown := by
  unfold Record.shown
  split
  · exact .rfl' r
  · refine Record.keeps_of_eq rfl rfl rfl (.inr rfl) rfl rfl rfl (fun _ => ?_) rfl rfl
    by_cases h : r.shows - 1 = 0
    · simp [h]
    · have hz : r.shows ≠ 0 := fun hz => h (by omega)
      simp [*]

theorem Record.nextDay_keeps (r : Record) : r.Keeps r.nextDay :=
  Record.keeps_of_eq rfl rfl rfl (.inr rfl) rfl rfl rfl id rfl rfl

/-- A record out of the muster keeps its other fields together (R89). -/
theorem Record.unmustered_keeps (r : Record) : r.Keeps r.unmustered where
  homeCabin := rfl
  secondCabin := rfl
  credentials := rfl
  reservation := rfl
  good hg := by
    obtain ⟨-, -, g3, g4, g5, g6, g7⟩ := hg
    exact ⟨by simp [Record.unmustered], by simp [Record.unmustered], g3, g4, g5, g6, g7⟩

theorem Record.checkedIn_keeps {r : Record} (station : Nat) (h : r.location = .aboard) :
    r.Keeps (r.checkedIn station) where
  homeCabin := rfl
  secondCabin := rfl
  credentials := rfl
  reservation := rfl
  good hg := by
    obtain ⟨-, -, g3, g4, g5, g6, g7⟩ := hg
    exact ⟨by simp [Record.checkedIn], fun _ => h, g3, g4, g5, g6, g7⟩

/-- A record as a change of location leaves it: away from ABOARD it leaves the muster (R55, R94). -/
def Record.relocated (r : Record) (new : Location) : Record :=
  if r.location = .aboard ∧ r.musterFlag = true then
    { r with location := new, musterFlag := false, musteredAt := none }
  else { r with location := new }

theorem Record.relocated_keeps (r : Record) (new : Location) : r.Keeps (r.relocated new) := by
  unfold Record.relocated
  split
  · refine ⟨rfl, rfl, rfl, rfl, fun hg => ?_⟩
    obtain ⟨-, -, g3, g4, g5, g6, g7⟩ := hg
    exact ⟨by simp, by simp, g3, g4, g5, g6, g7⟩
  · rename_i hoff
    refine ⟨rfl, rfl, rfl, rfl, fun hg => ?_⟩
    obtain ⟨g1, g2, g3, g4, g5, g6, g7⟩ := hg
    exact ⟨g1, fun hf => absurd ⟨g2 hf, hf⟩ hoff, g3, g4, g5, g6, g7⟩

/-- A request that rewrites one record of a slot, its other fields together as they were. -/
theorem editRequest_deeds {α : Type} {p : Parsed α} {s : State} {slot : α → Nat} {reply : α → Record → List Byte}
    {edit : α → Record → Record} (hk : ∀ (a : α) (r : Record), r.Keeps (edit a r)) :
    Deeds s
      (checked p s fun a => withRecord (slot a) s fun r => done (reply a r) (s.putRecord (slot a) (edit a r))).state :=
  checked_deeds fun a _ => withRecord_deeds fun r h => .table (.editRecord s (slot a) r _ h (hk a r))

theorem consumeMessage_deeds {s : State} {slot : Nat} {r : Record} (h : s.record slot = some r) :
    Deeds s (consumeMessage slot r s) := by
  unfold consumeMessage
  split
  · exact .refl
  · exact .table (.editRecord s slot r _ h r.shown_keeps)

/-- The record after a showing, where it was read before (R24). -/
theorem consumeMessage_record {s : State} {slot : Nat} {r : Record} (h : s.record slot = some r) :
    (consumeMessage slot r s).record slot = some r.shown := by
  by_cases hm : r.message = 0
  · simp [consumeMessage, Record.shown, hm, h]
  · simp [consumeMessage, hm]

theorem setLastPassage_deeds (slot : Nat) (p : Option Passage) (s : State) : Deeds s (setLastPassage slot p s) := by
  unfold setLastPassage
  split
  · rename_i r hr
    exact .table (.editRecord s slot r _ hr (Record.keeps_of_eq rfl rfl rfl (.inr rfl) rfl rfl rfl id rfl rfl))
  · exact .refl

theorem postToRecord_deeds (slot : Nat) (g : Figures) (s : State) : Deeds s (postToRecord slot g s) := by
  unfold postToRecord
  split
  · rename_i r hr
    exact .table (.editRecord s slot r _ hr (Record.keeps_of_eq rfl rfl rfl (.inr rfl) rfl rfl rfl id rfl rfl))
  · exact .refl

/-! ### Changes of location -/

@[simp] theorem WatchEntry.flagged_slot (e : WatchEntry) (h : Hit) : (e.flagged h).slot = e.slot := by cases h <;> rfl

theorem enterWatch_deeds (slot : Nat) (h : Hit) (s : State) : Deeds s (enterWatch slot h s) := by
  unfold enterWatch
  split
  · have he : ∀ e : WatchEntry, (if e.slot = slot then e.flagged h else e).slot = e.slot := by
      intro e
      split <;> simp
    refine .one (.thinWatch _ s ?_)
    simp [Function.comp_def, he]
  · rename_i hin
    split
    · refine .one (.joinWatch _ s (fun d hd hs => hin ?_) ‹_›)
      rw [WatchEntry.flagged_slot] at hs
      simpa using ⟨d, hd, hs⟩
    · exact .aside (.raise _ s)

/-- The first two effects of a change of location rewrite the record once (R55, R94). -/
theorem relocated_aside (slot : Nat) (r : Record) (new : Location) (m : ByClass (ByLocation Nat)) (s : State) :
    let moved : Record := { r with location := new }
    let s1 := (s.putRecord slot moved).setCounts m
    Aside (s.putRecord slot (r.relocated new)) (if r.location = .aboard then leaveMuster slot moved s1 else s1) := by
  intro moved s1
  by_cases hl : r.location = .aboard <;> by_cases hf : r.musterFlag = true <;>
    simp only [hl, hf, if_true, if_false, leaveMuster, Record.relocated, moved, s1, and_self, and_true, and_false,
      Bool.false_eq_true]
  · exact ⟨rfl, by simp [State.setCounts], rfl, rfl, rfl, rfl, rfl, rfl, rfl, id⟩
  all_goals exact ⟨rfl, rfl, rfl, rfl, rfl, rfl, rfl, rfl, rfl, id⟩

theorem changeLocation_deeds {s : State} {slot : Nat} {r : Record} (new : Location) (h : s.record slot = some r) :
    Deeds s (changeLocation slot r new s) := by
  have h2 := (Deeds.table (.editRecord s slot r _ h (r.relocated_keeps new))).thenAside
    (relocated_aside slot r new (addCell (subCell s.passage.counts r.cls r.location) r.cls new) s)
  have h3 := h2.thenAside (.ite (c := r.location = .aboard ∧ s.opensTabs slot)
    (fun _ => .raise .tabAshore _) fun _ => .refl _)
  unfold changeLocation
  cases watchHit r.watchMode r.location new with
  | none => exact h3.thenAside (.reconcile _ _)
  | some w => exact (h3.trans (enterWatch_deeds slot w _)).thenAside (.reconcile _ _)

/-! ### The record store -/

theorem readIssue_role {body : List Byte} {q : IssueFields} (h : readIssue body = .good q) :
    q.role ≠ none ↔ q.cls = .crew := by
  unfold readIssue at h
  dsimp only at h
  split at h
  case h_2 => cases h
  case h_1 c reference folio l tier cap station r _ =>
    split at h
    · cases h
    · rename_i hx
      split at h
      case h_2 => cases h
      case h_1 cls location cp role hc hl hq hr =>
        split at h
        · cases h
          simp only [hc, Option.some.injEq] at hx
          cases r with
          | absent =>
            cases hr
            simpa using hx
          | here v =>
            obtain ⟨-, rfl⟩ : _ ∧ some v = role := by simpa [Chunk.optionalNumber] using hr
            simpa using hx
          | stray => cases hr
        · cases h

theorem decideIssue_deeds (body : List Byte) (s : State) : Deeds s (decideIssue body s).state :=
  checked_deeds fun q hq => withFolio_deeds fun f _ => refuseIf_deeds fun _ => refuseIf_deeds fun _ => by
    split
    · exact .refl
    · rename_i slot hfree
      obtain ⟨-, -, hf, -⟩ := Table.lowestFree_spec hfree
      exact ((((Deeds.table (.issue s slot q hf (readIssue_role hq))).thenAside (.gainMember _ _)).thenAside
        (.setCounts _ _)).thenAside (.reconcile _ _)).thenAside (.report _ _)

theorem decideReserve_deeds (body : List Byte) (s : State) : Deeds s (decideReserve body s).state :=
  checked_deeds fun q _ => withRecord_deeds fun r h => by
    split
    · exact .refl
    · exact (Deeds.table (.reserve q r s h ‹_›)).thenAside (.report _ _)

/-- What replacedNow finds is a number that the list holds (R12). -/
theorem replacedNow_holds {r : Record} {v : Reservation} {n : Nat} (h : replacedNow r v = some n) :
    v.replaces = some n ∧ r.holds n = true := by
  unfold replacedNow at h
  split at h
  · split at h
    · cases h
      exact ⟨‹_›, ‹_›⟩
    · cases h
  · cases h

theorem decideConfirm_deeds (body : List Byte) (s : State) : Deeds s (decideConfirm body s).state :=
  checked_deeds fun q _ => withRecord_deeds fun r h => by
    split
    · exact .refl
    · rename_i v hv
      refine refuseIf_deeds fun _ => ?_
      split
      · rename_i n hn
        obtain ⟨hrep, hold⟩ := replacedNow_holds hn
        refine (Deeds.table (.revoke q.1 n .replaced s (.inr ⟨r, h, hold⟩))).thenTable
          (.confirm q.1 _ v _ (revoke_record _ h) hv ?_)
        simp [replacedNow, hrep, Record.holds]
      · exact .table (.confirm q.1 r v s h hv ‹_›)

theorem decideCancel_deeds (body : List Byte) (s : State) : Deeds s (decideCancel body s).state :=
  checked_deeds fun q _ => withRecord_deeds fun r h => by
    split
    · exact .refl
    · exact refuseIf_deeds fun _ => .table (.endReservation q.1 r _ s h ‹_›)

theorem expireReservation_deeds (slot : Nat) (s : State) : Deeds s (expireReservation slot s) := by
  unfold expireReservation
  split
  · split
    · split
      · exact (Deeds.table (.endReservation slot _ _ s ‹_› ‹_›)).thenAside (.raise _ _)
      · exact .refl
    · exact .refl
  · exact .refl

theorem decideRevoke_deeds (body : List Byte) (s : State) : Deeds s (decideRevoke body s).state :=
  checked_deeds fun q _ => by
    split
    · exact .table (.revoke _ q.1 q.2 s (.inl ‹_›))
    · exact .refl
    · split <;> exact .refl

theorem decideRemoveRevoked_deeds (body : List Byte) (s : State) : Deeds s (decideRemoveRevoked body s).state :=
  checked_deeds fun n _ => by
    split
    · exact (Deeds.table (.removeRevoked n s)).thenAside (.report _ _)
    · exact .refl

theorem decideHold_deeds (body : List Byte) (s : State) : Deeds s (decideHold body s).state :=
  checked_deeds fun slot _ => withRecord_deeds fun r h => refuseIf_deeds fun _ =>
    .table (.editRecord s slot r _ h (Record.keeps_of_eq rfl rfl rfl (.inr rfl) rfl rfl rfl id rfl rfl))

theorem decideRelease_deeds (body : List Byte) (s : State) : Deeds s (decideRelease body s).state :=
  checked_deeds fun slot _ => withRecord_deeds fun r h => refuseIf_deeds fun _ =>
    .table (.editRecord s slot r _ h (Record.keeps_of_eq rfl rfl rfl (.inr rfl) rfl rfl rfl id rfl rfl))

theorem decideRetire_deeds (body : List Byte) (s : State) : Deeds s (decideRetire body s).state :=
  checked_deeds fun slot _ => withRecord_deeds fun r h => by
    split
    · exact .refl
    · exact .table (.retire slot r s h)

theorem decideSetMessage_deeds (body : List Byte) (s : State) : Deeds s (decideSetMessage body s).state :=
  editRequest_deeds fun q r => Record.keeps_of_eq rfl rfl rfl (.inr rfl) rfl rfl rfl (fun _ => by
    by_cases h : q.2.1 = 0 ∨ q.2.2 = 0
    · simp [h]
    · obtain ⟨h1, h2⟩ := not_or.mp h
      simp [h1, h2]) rfl rfl

theorem decideSetWatch_deeds (body : List Byte) (s : State) : Deeds s (decideSetWatch body s).state :=
  editRequest_deeds fun _ _ => Record.keeps_of_eq rfl rfl rfl (.inr rfl) rfl rfl rfl id rfl rfl

theorem decideSetFinal_deeds (body : List Byte) (s : State) : Deeds s (decideSetFinal body s).state :=
  editRequest_deeds fun _ _ => Record.keeps_of_eq rfl rfl rfl (.inr rfl) rfl rfl rfl id rfl rfl

theorem decideSetTier_deeds (body : List Byte) (s : State) : Deeds s (decideSetTier body s).state :=
  editRequest_deeds fun _ _ => Record.keeps_of_eq rfl rfl rfl (.inr rfl) rfl rfl rfl id rfl rfl

theorem decideSetCap_deeds (body : List Byte) (s : State) : Deeds s (decideSetCap body s).state :=
  editRequest_deeds fun _ _ => Record.keeps_of_eq rfl rfl rfl (.inr rfl) rfl rfl rfl id rfl rfl

theorem decideSetStation_deeds (body : List Byte) (s : State) : Deeds s (decideSetStation body s).state :=
  editRequest_deeds fun _ _ => Record.keeps_of_eq rfl rfl rfl (.inr rfl) rfl rfl rfl id rfl rfl

theorem decideReadRecord_deeds (body : List Byte) (s : State) : Deeds s (decideReadRecord body s).state :=
  checked_deeds fun slot _ => by cases s.record slot <;> exact .refl

/-! ### Cabins and roles -/

theorem loadZones_deeds (n : Nat) (zs : List Nat) (s : State) : Deeds s (loadZones n zs s) := by
  induction zs generalizing n s with
  | nil => exact .refl
  | cons z zs ih => exact (Deeds.table (.editCabin n { s.cabin n with zone := z } s rfl)).trans (ih _ _)

theorem decideSetCabinZones_deeds (body : List Byte) (s : State) : Deeds s (decideSetCabinZones body s).state :=
  checked_deeds fun q _ => loadZones_deeds q.1 q.2 s

theorem decideAssignCabin_deeds (body : List Byte) (s : State) : Deeds s (decideAssignCabin body s).state :=
  checked_deeds fun q _ => withRecord_deeds fun r h => by
    split
    · exact .refl
    · exact .table (.assign q.1 q.2 r s h ‹_›)

theorem decideVacateCabin_deeds (body : List Byte) (s : State) : Deeds s (decideVacateCabin body s).state :=
  checked_deeds fun q _ => withRecord_deeds fun r h => refuseIf_deeds fun hn =>
    .table (.vacate q.1 q.2 r s h (by simpa using hn))

theorem decideSetCabinMode_deeds (body : List Byte) (s : State) : Deeds s (decideSetCabinMode body s).state :=
  checked_deeds fun q _ => .table (.editCabin q.1 _ s rfl)

theorem decideSetRole_deeds (body : List Byte) (s : State) : Deeds s (decideSetRole body s).state :=
  checked_deeds fun q _ => withRecord_deeds fun r h => refuseIf_deeds fun hc =>
    .table (.editRecord s q.1 r _ h
      (Record.keeps_of_eq rfl rfl rfl (.inl ⟨by simpa using hc, by simp⟩) rfl rfl rfl id rfl rfl))

theorem decideLoadRole_deeds (body : List Byte) (s : State) : Deeds s (decideLoadRole body s).state :=
  checked_deeds fun _ _ => .aside (.access _ rfl)

theorem decideSetClassPolicy_deeds (body : List Byte) (s : State) : Deeds s (decideSetClassPolicy body s).state :=
  checked_deeds fun _ _ => .aside (.access _ rfl)

/-! ### Locations, time, phases and muster -/

theorem decideSetLocation_deeds (body : List Byte) (s : State) : Deeds s (decideSetLocation body s).state :=
  checked_deeds fun q _ => withRecord_deeds fun r h => by
    split
    · exact .refl
    · exact (changeLocation_deeds q.2 h).trans (setLastPassage_deeds _ _ _)

theorem decideReadWatch_deeds (body : List Byte) (s : State) : Deeds s (decideReadWatch body s).state :=
  checked_deeds fun c _ => .one (.thinWatch _ s ((List.drop_sublist c _).map _))

theorem rollOver_deeds (day : Int) (s : State) : Deeds s (rollOver day s) :=
  (((Deeds.aside (.calendar { s.clock with lastRolled := some day } rfl rfl)).thenAside (.raise _ _)).thenTable
    (.mapRecords _ _ Record.nextDay_keeps)).thenAside (.folios _ _)

theorem rolloverTest_deeds (s : State) : Deeds s (rolloverTest s).1 := by
  rcases rolloverTest_cases s with ⟨t, l, -, -, -, h⟩ | ⟨-, h⟩
  · rw [h]
    exact rollOver_deeds _ s
  · rw [h]
    exact .refl

theorem decideSetTime_deeds (body : List Byte) (s : State) : Deeds s (decideSetTime body s).state :=
  checked_deeds fun t _ => by
    have h1 : Deeds s (setShipTime t s) := .aside (.calendar _ rfl rfl)
    cases hs : s.clock.status with
    | unset =>
      simp only [done]
      exact h1.thenAside (.calendar _ rfl rfl)
    | set =>
      simp only [done]
      exact h1.trans (rolloverTest_deeds _)

theorem enterMuster_deeds (s : State) : Deeds s (enterMuster s) :=
  (Deeds.table (.mapRecords s _ Record.unmustered_keeps)).thenAside (.muster _ _)

theorem sail_aside (s : State) : Aside s (sail s) := by
  have h1 : Aside s (if allAboard s.passage.counts then s else raise .ashoreAtSailing s) :=
    .ite (fun _ => .refl s) fun _ => .raise _ s
  exact h1.trans (.muster _ _)

theorem phaseChange_deeds (p : Phase) (s : State) : Deeds s (phaseChange p s).state := by
  have hp (q : Phase) : Aside s (setPhase q s) := .muster _ s
  unfold phaseChange
  split
  case h_1 | h_2 | h_4 => exact .aside (hp _)
  case h_3 => exact .aside ((hp _).trans (.enterCutoff _))
  case h_5 => exact .aside (sail_aside s)
  case h_6 | h_7 | h_8 => exact enterMuster_deeds s
  case h_9 => exact .refl

theorem decideSetPhase_deeds (body : List Byte) (s : State) : Deeds s (decideSetPhase body s).state :=
  checked_deeds fun p _ => phaseChange_deeds p s

theorem decideEndMuster_deeds (body : List Byte) (s : State) : Deeds s (decideEndMuster body s).state :=
  checked_deeds fun _ _ => refuseIf_deeds fun _ => by
    have h1 (p : Phase) : Aside s { s with muster := { s.muster with phase := p, savedPhase := none } } := .muster _ s
    exact .aside (.ite (fun _ => (h1 _).trans (.enterCutoff _)) fun _ => h1 _)

/-! ### Folios, venues and tabs -/

theorem decideLink_deeds (body : List Byte) (s : State) : Deeds s (decideLink body s).state :=
  checked_deeds fun q _ => withRecord_deeds fun r h => withFolio_deeds fun f _ => by
    split
    · exact .refl
    · have h1 : TableDeed s (s.putRecord q.1 { r with folio := q.2 }) :=
        .editRecord s q.1 r _ h (Record.keeps_of_eq rfl rfl rfl (.inr rfl) rfl rfl rfl id rfl rfl)
      exact ((Deeds.table h1).thenAside (.gainMember _ _)).thenAside (.loseMember _ _)

theorem decideOpenFolio_deeds (body : List Byte) (s : State) : Deeds s (decideOpenFolio body s).state :=
  checked_deeds fun _ _ => by
    split
    · exact .refl
    · exact .aside (.folios _ s)

theorem decideCloseFolio_deeds (body : List Byte) (s : State) : Deeds s (decideCloseFolio body s).state :=
  checked_deeds fun _ _ => withFolio_deeds fun f _ => by
    split
    · exact .refl
    · split <;> exact .aside (.folios _ s)

theorem decideReopenFolio_deeds (body : List Byte) (s : State) : Deeds s (decideReopenFolio body s).state :=
  checked_deeds fun _ _ => withFolio_deeds fun _ _ => refuseIf_deeds fun _ => .aside (.folios _ s)

theorem decideSuspendFolio_deeds (body : List Byte) (s : State) : Deeds s (decideSuspendFolio body s).state :=
  checked_deeds fun _ _ => withFolio_deeds fun _ _ => refuseIf_deeds fun _ => .aside (.folios _ s)

theorem decideResumeFolio_deeds (body : List Byte) (s : State) : Deeds s (decideResumeFolio body s).state :=
  checked_deeds fun _ _ => withFolio_deeds fun _ _ => refuseIf_deeds fun _ => by
    split
    · exact .aside (.folios _ s)
    · split
      · exact .aside (.folios _ s)
      · exact .refl

theorem decideSetLimits_deeds (body : List Byte) (s : State) : Deeds s (decideSetLimits body s).state :=
  checked_deeds fun _ _ => withFolio_deeds fun _ _ => refuseIf_deeds fun _ => .aside (.storeReevaluated _ _ s)

theorem hostPosting_deeds (slot : Nat) (f posted : Folio) (b : Bool) (s : State) :
    Deeds s (hostPosting slot f posted b s).state :=
  refuseIf_deeds fun _ => refuseIf_deeds fun _ => .aside (.storeReevaluated _ _ s)

theorem decidePayment_deeds (body : List Byte) (s : State) : Deeds s (decidePayment body s).state :=
  checked_deeds fun _ _ => withFolio_deeds fun _ _ => hostPosting_deeds _ _ _ _ s

theorem decideRefund_deeds (body : List Byte) (s : State) : Deeds s (decideRefund body s).state :=
  checked_deeds fun _ _ => withFolio_deeds fun _ _ => hostPosting_deeds _ _ _ _ s

theorem decideAdjustment_deeds (body : List Byte) (s : State) : Deeds s (decideAdjustment body s).state :=
  checked_deeds fun _ _ => withFolio_deeds fun _ _ => hostPosting_deeds _ _ _ _ s

theorem decideAddPrepaid_deeds (body : List Byte) (s : State) : Deeds s (decideAddPrepaid body s).state :=
  checked_deeds fun _ _ => withFolio_deeds fun _ _ => refuseIf_deeds fun _ => .aside (.folios _ s)

theorem decideReadFolio_deeds (body : List Byte) (s : State) : Deeds s (decideReadFolio body s).state :=
  checked_deeds fun slot _ => by cases s.folio slot <;> exact .refl

theorem decideLoadVenue_deeds (body : List Byte) (s : State) : Deeds s (decideLoadVenue body s).state :=
  checked_deeds fun _ _ => .aside (.charge _ s)

theorem decideSetVenueOpen_deeds (body : List Byte) (s : State) : Deeds s (decideSetVenueOpen body s).state :=
  checked_deeds fun _ _ => .aside (.charge _ s)

theorem decideLoadTier_deeds (body : List Byte) (s : State) : Deeds s (decideLoadTier body s).state :=
  checked_deeds fun _ _ => .aside (.charge _ s)

theorem releaseTab_deeds (entry : Nat) (t : Tab) (s : State) : Deeds s (releaseTab entry t s) := by
  have h2 : Aside (freeTab entry s)
      (match (freeTab entry s).folio t.folio with
        | some f => storeReevaluated t.folio (f.released t.hold) (freeTab entry s)
        | none => freeTab entry s) := by
    split
    · exact .storeReevaluated _ _ _
    · exact .refl _
  exact ((Deeds.one (.freeTab entry s)).thenAside h2).thenAside (.report _ _)

theorem expireTab_deeds (entry : Nat) (s : State) : Deeds s (expireTab entry s) := by
  unfold expireTab
  split
  · split
    · exact (releaseTab_deeds entry _ s).thenAside (.raise _ _)
    · exact .refl
  · exact .refl

theorem decideHostVoidTab_deeds (body : List Byte) (s : State) : Deeds s (decideHostVoidTab body s).state :=
  checked_deeds fun _ _ => by
    split
    · exact .refl
    · exact releaseTab_deeds _ _ s

theorem decideReadTab_deeds (body : List Byte) (s : State) : Deeds s (decideReadTab body s).state :=
  checked_deeds fun n _ => by cases s.tab n <;> exact .refl

/-! ### Terminals, ports, service states and settings -/

theorem decideLoadTerminal_deeds (body : List Byte) (s : State) : Deeds s (decideLoadTerminal body s).state :=
  checked_deeds fun _ _ => .aside (.terminals _ s)

theorem decideTerminalEnabled_deeds (body : List Byte) (s : State) : Deeds s (decideTerminalEnabled body s).state :=
  checked_deeds fun _ _ => refuseIf_deeds fun _ => .aside (.terminals _ s)

theorem decidePortReset_deeds (body : List Byte) (s : State) : Deeds s (decidePortReset body s).state :=
  checked_deeds fun p _ => .port (.portReset p s)

theorem decideReadPort_deeds (body : List Byte) (s : State) : Deeds s (decideReadPort body s).state :=
  checked_deeds fun p _ => .port (.clearErrors p s)

theorem serve_deeds (s : State) : Deeds s (restartWatchdog (setService .serving none s)) :=
  (Deeds.one (.serve s)).tail (.restartWatchdog _)

theorem decideOpenService_deeds (body : List Byte) (s : State) : Deeds s (decideOpenService body s).state :=
  checked_deeds fun _ _ => refuseIf_deeds fun _ => refuseIf_deeds fun _ => serve_deeds s

theorem decideResumeService_deeds (body : List Byte) (s : State) : Deeds s (decideResumeService body s).state :=
  checked_deeds fun _ _ => refuseIf_deeds fun _ => serve_deeds s

theorem resetService_deeds (s : State) : Deeds s (resetService s) := by
  unfold resetService
  split
  · exact serve_deeds s
  · exact .one (.restartWatchdog s)

theorem decideServiceReset_deeds (body : List Byte) (s : State) : Deeds s (decideServiceReset body s).state :=
  checked_deeds fun _ _ =>
    ((Deeds.one (.emptyReporting s)).thenAside (.reportAll _)).trans (resetService_deeds _)

theorem applySetting_deeds (v : SettingValue) (s : State) : Deeds s (applySetting v s) := by
  cases v with
  | rolloverHour n => exact (Deeds.aside (.settings _ s)).trans (rolloverTest_deeds _)
  | watchdogCode n => exact (Deeds.aside (.settings _ s)).tail (.restartWatchdog _)
  | enables e => exact .aside (.setEnables e s)
  | threshold n => exact (Deeds.aside (.settings _ s)).thenAside (.reportAll _)
  | latchMode m => exact .aside (.setLatchMode m s)
  | lineMode m => exact .aside (.setLineMode m s)
  | reservationCode | blankingCode | policy | standaloneLimit | refusalMask | ackMode | pulseCode | holdoff =>
    exact .aside (.settings _ s)

theorem decideSetSetting_deeds (body : List Byte) (s : State) : Deeds s (decideSetSetting body s).state :=
  checked_deeds fun v _ => applySetting_deeds v s

theorem decideReadNotices_deeds (body : List Byte) (s : State) : Deeds s (decideReadNotices body s).state :=
  checked_deeds fun _ _ => by
    cases s.settings.ackMode
    · exact .aside (.acknowledge _ s)
    · exact .refl

theorem decideAckNotices_deeds (body : List Byte) (s : State) : Deeds s (decideAckNotices body s).state :=
  checked_deeds fun set _ => .aside (.acknowledge set s)

/-! ### Requests of the terminals -/

theorem answer_deeds {s : State} {v : Verdict} (p : Port) (f : Frame) (h : Deeds s v.state) :
    Deeds s (answer p f v) :=
  (h.thenAside (.reportRefusal _ _ _ _ _ _)).thenPort (.holdReply _ _ _ _ _)

theorem takeRequest_deeds {d : TerminalEntry → Frame → State → Verdict} (p : Port) (kind : Byte)
    (permitted : TerminalEntry → Bool) (size : Nat) (h : ∀ e f s, Deeds s (d e f s).state) (s : State) :
    Deeds s (takeRequest p kind permitted size d s) := by
  have ht : Deeds s (takeFrame p s) := .port (.takeFrame p s)
  have he : Deeds s (endInHand p s) := .port (.endInHand p s)
  unfold takeRequest
  split
  · split
    · dsimp only
      split
      · exact answer_deeds p _ ht
      · exact answer_deeds p _ (ht.trans (h _ _ _))
    · exact he
  · exact he

theorem takeUnknownKind_deeds (p : Port) (s : State) : Deeds s (takeUnknownKind p s) := by
  have he : Deeds s (endInHand p s) := .port (.endInHand p s)
  unfold takeUnknownKind
  split
  · split
    · exact he
    · exact answer_deeds p _ (.port (.takeFrame p s))
  · exact he

theorem notFound_deeds (p : Port) (f : Frame) (n : Nat) (l : Lookup) (body : List Byte) (s : State) :
    Deeds s (notFound p f n l body s).state := by
  unfold notFound
  split
  · exact .refl
  · exact (Deeds.aside (.raise _ s)).thenAside (.lastRefusal _ _)
  · exact .refl

/-- A lookup finds a record that stands in its slot (R22). -/
theorem lookup_found {s : State} {n slot : Nat} {r : Record} (h : lookup s n = .found slot r) :
    s.record slot = some r := by
  unfold lookup at h
  split at h
  · cases h
  · split at h
    · split at h
      · cases h
        exact ‹_›
      · cases h
    · cases h
    · split at h <;> cases h

theorem decideUnlock_deeds (p : Port) (e : TerminalEntry) (f : Frame) (s : State) :
    Deeds s (decideUnlock p e f s).state := by
  unfold decideUnlock
  dsimp only
  split
  · exact consumeMessage_deeds (lookup_found ‹_›)
  · exact notFound_deeds _ _ _ _ _ s

theorem decideLockMode_deeds (e : TerminalEntry) (f : Frame) (s : State) : Deeds s (decideLockMode e f s).state := by
  unfold decideLockMode
  split
  · exact .refl
  · dsimp only
    split
    · exact .table (.editCabin _ _ s rfl)
    · exact .table (.editCabin _ _ s rfl)
    · exact .refl
    · exact .refl

theorem declineLimit_aside (folio : Nat) (f : Folio) (x : Int) (e : Nat) (s : State) :
    Aside s (declineLimit folio f x e s) :=
  .ite (fun _ => .limitDecline _ _ s) fun _ => .refl s

theorem postCharge_deeds (slot folio : Nat) (f : Folio) (g : Figures) (graced : Bool) (s : State) :
    Deeds s (postCharge slot folio f g graced s) :=
  (Deeds.aside (.ite (c := g.d = 0) (fun _ => .refl s) fun _ => .storeReevaluated folio (f.posted g graced) s)).trans
    (postToRecord_deeds slot g _)

theorem computeCharge_deeds (slot : Nat) (r : Record) (amount : Nat) (flags : ItemFlags) (v : Venue) (f : Folio)
    (message : Option Nat) (s : State) : Deeds s (computeCharge slot r amount flags v f message s).2.2 := by
  unfold computeCharge
  dsimp only
  split
  · exact .refl
  · dsimp only
    split
    · exact .aside (declineLimit_aside _ _ _ _ s)
    · exact postCharge_deeds _ _ _ _ _ s
    · exact postCharge_deeds _ _ _ _ _ s

theorem decideCharge_deeds (p : Port) (e : TerminalEntry) (f : Frame) (s : State) :
    Deeds s (decideCharge p e f s).state := by
  unfold decideCharge
  dsimp only
  split
  · exact .refl
  · exact .refl
  · split
    · have h1 := consumeMessage_deeds (lookup_found ‹_›)
      split
      · exact h1
      · exact h1.trans (computeCharge_deeds _ _ _ _ _ _ _ _)
    · exact notFound_deeds _ _ _ _ _ s

theorem openTab_deeds (entry : Nat) (t : Tab) (f : Folio) (s : State) (h : s.clock.runTime ≤ t.expiry) :
    Deeds s (openTab entry t f s) :=
  ((Deeds.one (.openTab entry t _ s h)).thenAside (.storeReevaluated _ _ _)).thenAside (.report _ _)

theorem decideOpenTab_deeds (p : Port) (e : TerminalEntry) (f : Frame) (s : State) :
    Deeds s (decideOpenTab p e f s).state := by
  unfold decideOpenTab
  dsimp only
  split
  · exact .refl
  · split
    · split
      · exact .refl
      · split
        · exact .refl
        · exact .refl
        · exact openTab_deeds _ _ _ s (Nat.le_add_right _ _)
    · exact notFound_deeds _ _ _ _ _ s

theorem postClose_deeds (entry : Nat) (t : Tab) (f : Folio) (g : Figures) (graced : Bool) (s : State) :
    Deeds s (postClose entry t f g graced s) :=
  (((Deeds.one (.freeTab entry s)).thenAside (.storeReevaluated _ _ _)).trans (postToRecord_deeds _ g _)).thenAside
    (.report _ _)

theorem computeClose_deeds (entry : Nat) (t : Tab) (amount : Nat) (flags : ItemFlags) (v : Venue) (r : Record)
    (f : Folio) (s : State) : Deeds s (computeClose entry t amount flags v r f s).state := by
  unfold computeClose
  dsimp only
  split
  · exact .refl
  · split
    · exact .refl
    · split
      · exact .aside (declineLimit_aside _ _ _ _ s)
      · exact postClose_deeds _ _ _ _ _ s

theorem decideCloseTab_deeds (e : TerminalEntry) (f : Frame) (s : State) : Deeds s (decideCloseTab e f s).state := by
  unfold decideCloseTab
  dsimp only
  split
  · exact .refl
  · split
    · exact .refl
    · split
      · exact .refl
      · split
        · exact .refl
        · split
          · exact releaseTab_deeds _ _ s
          · split
            · exact computeClose_deeds _ _ _ _ _ _ _ s
            · exact .refl

theorem decideVoidTab_deeds (e : TerminalEntry) (f : Frame) (s : State) : Deeds s (decideVoidTab e f s).state := by
  unfold decideVoidTab
  split
  · exact .refl
  · split
    · exact .refl
    · exact releaseTab_deeds _ _ s

theorem passEffect_deeds {s : State} {slot : Nat} {r : Record} (gangway : Nat) (d : Direction)
    (o : Result × Option Location) (h : s.record slot = some r) : Deeds s (passEffect slot r gangway d o s) := by
  unfold passEffect
  dsimp only
  split
  · exact (changeLocation_deeds _ h).trans (setLastPassage_deeds _ _ _)
  · split
    · exact setLastPassage_deeds _ _ s
    · exact .refl

theorem decideGangway_deeds (p : Port) (e : TerminalEntry) (f : Frame) (s : State) :
    Deeds s (decideGangway p e f s).state := by
  unfold decideGangway
  dsimp only
  split
  · exact .refl
  · split
    · exact .refl
    · split
      · have hr := lookup_found ‹_›
        exact (consumeMessage_deeds hr).trans (passEffect_deeds _ _ _ (consumeMessage_record hr))
      · exact notFound_deeds _ _ _ _ _ s

theorem Record.shown_location (r : Record) : r.shown.location = r.location := by
  unfold Record.shown
  split <;> rfl

theorem decideMusterTap_deeds (p : Port) (e : TerminalEntry) (f : Frame) (s : State) :
    Deeds s (decideMusterTap p e f s).state := by
  unfold decideMusterTap
  dsimp only
  split
  · exact .refl
  · split
    · rename_i slot r hl
      have hr := lookup_found hl
      have h1 := consumeMessage_deeds hr
      split
      · rename_i hacc
        have hab : r.shown.location = .aboard := by
          rw [r.shown_location]
          simp only [tapAccepted, Bool.and_eq_true, decide_eq_true_eq] at hacc
          exact hacc.1
        exact (h1.thenTable (.editRecord _ slot _ _ (consumeMessage_record hr) (Record.checkedIn_keeps _ hab))).thenAside
          (.muster _ _)
      · exact h1
    · exact notFound_deeds _ _ _ _ _ s

theorem decideLookup_deeds (p : Port) (e : TerminalEntry) (f : Frame) (s : State) :
    Deeds s (decideLookup p e f s).state := by
  unfold decideLookup
  dsimp only
  split
  · exact .refl
  · exact notFound_deeds _ _ _ _ _ s

/-! ### The links, the transactions and the timers -/

theorem receive_deeds (p : Port) (b : Byte) (stopGood : Bool) (s : State) : Deeds s (receive p b stopGood s) := by
  have h1 : Deeds s (endGap p (settle p s)) := (Deeds.port (.settle p s)).thenPort (.endGap p _)
  unfold receive
  dsimp only
  split
  · exact h1.thenPort (.huntByte p b _)
  · exact h1.thenPort (.frameByte p _ _ b stopGood _ ‹_›)

theorem takeUnlisted_deeds (kind : Byte) (body : List Byte) (s : State) : Deeds s (takeUnlisted kind body s) := by
  unfold takeUnlisted
  split
  · exact .refl
  · split
    · exact placeReply_deeds kind (takeWrite_deeds kind body s)
    · exact discardWrite_deeds _ s

theorem writeDiscarded_deeds {bytes : List Byte} {s t : State} (h : exec (.writeDiscarded bytes) s = .next t) :
    Deeds s t := by
  cases h
  cases bytes with
  | nil => exact .refl
  | cons first rest =>
    dsimp only
    split
    · unfold discardUntaken
      split
      · exact .refl
      · exact discardWrite_deeds _ s
    · exact .refl
    · exact .refl

theorem readReply_deeds {bytes : List Byte} {s t : State} (h : exec (.readReply bytes) s = .next t) : Deeds s t := by
  cases h
  cases bytes with
  | nil => exact .refl
  | cons first rest =>
    dsimp only
    split
    · exact .one (.transact s _ rfl rfl)
    · exact .one (.transact s _ rfl rfl)
    · exact .refl

/-- A change of the terminal ports and of nothing else that the laws read. -/
def PortsOnly (s t : State) : Prop := Aside (s.setPorts t.ports) t

namespace PortsOnly

variable {s t u : State}

theorem ofAside (h : Aside s t) : PortsOnly s t :=
  ⟨rfl, h.store, h.cabins, h.watch, h.entries, h.runTime, h.millis, h.service, h.watchdog, h.line⟩

theorem refl (s : State) : PortsOnly s s := ofAside (.refl s)

theorem trans (h : PortsOnly s t) (k : PortsOnly t u) : PortsOnly s u :=
  have h' : Aside (s.setPorts u.ports) (t.setPorts u.ports) :=
    ⟨rfl, h.store, h.cabins, h.watch, h.entries, h.runTime, h.millis, h.service, h.watchdog, h.line⟩
  Aside.trans h' k

theorem setPort (p : Port) (b : PortBlock) (s : State) : PortsOnly s (s.setPort p b) :=
  Aside.refl _

theorem ite {c : Prop} [Decidable c] (ht : PortsOnly s t) (hu : PortsOnly s u) : PortsOnly s (if c then t else u) := by
  split
  · exact ht
  · exact hu

theorem discardFrame (p : Port) (s : State) : PortsOnly s (discardFrame p s) :=
  ite ((setPort p _ s).trans (ofAside (.raisePortErrors p _))) (setPort p _ s)

theorem dropPartFrame (p : Port) (s : State) : PortsOnly s (dropPartFrame p s) :=
  (setPort p _ s).trans (discardFrame p _)

theorem endGap (p : Port) (s : State) : PortsOnly s (endGap p s) := ite (dropPartFrame p s) (refl s)

theorem huntByte (p : Port) (b : Byte) (s : State) : PortsOnly s (huntByte p b s) := ite (setPort p _ s) (refl s)

theorem frameByte (p : Port) (bs : List Byte) (b : Byte) (stopGood : Bool) (s : State) :
    PortsOnly s (frameByte p bs b stopGood s) :=
  ite (dropPartFrame p s) (ite (dropPartFrame p s) (ite (setPort p _ s) (setPort p _ s)))

theorem arrive (p : Port) (f : Frame) (s : State) : PortsOnly s (arrive p f s) :=
  have h1 := setPort p ((s.port p).heard s.clock.runTime) s
  ite (h1.trans (setPort p _ _)) ((h1.trans (setPort p _ _)).trans (ofAside (.reportRefusal _ _ _ _ _ _)))

theorem settle (p : Port) (s : State) : PortsOnly s (settle p s) := by
  unfold Machine.settle
  split
  · exact ite ((setPort p _ s).trans (arrive p _ _)) ((setPort p _ s).trans (discardFrame p _))
  · exact refl s

theorem expireSilence (p : Port) (s : State) : PortsOnly s (expireSilence p s) := by
  unfold Machine.expireSilence
  split
  · exact ite ((setPort p _ s).trans (ofAside (.raisePortSilent p _))) (refl s)
  · exact refl s

end PortsOnly

theorem PortDeed.portsOnly {s t : State} (h : PortDeed s t) : PortsOnly s t := by
  cases h with
  | takeFrame p | endInHand p | holdReply p | portReset p | clearErrors p => exact .setPort p _ s
  | settle p => exact .settle p s
  | endGap p => exact .endGap p s
  | huntByte p b => exact .huntByte p b s
  | frameByte p bs _ b stopGood => exact .frameByte p bs b stopGood s
  | expireSilence p => exact .expireSilence p s

/-- The expiry of the watchdog is a change of the management port, and aside from the rest (R186). -/
theorem expireWatchdog_frame (s : State) :
    Aside (s.setManagement (expireWatchdog s).management) (expireWatchdog s) := by
  unfold expireWatchdog
  split
  · split
    · exact .raise _ _
    · exact .refl s
  · exact .refl s

/-! ### Deeds on the tables -/

/-- A change in which no timer but those of reservations is set, stopped or passed: the ports, the tabs, the watchdog and
the line are as they were, or further on. -/
structure Timeless (s t : State) : Prop where
  ports : t.ports = s.ports
  entries : t.tabs.entries = s.tabs.entries
  runTime : t.clock.runTime = s.clock.runTime
  service : t.management.service = s.management.service
  watchdog : t.management.watchdog = s.management.watchdog
  line : s.lineAhead → t.lineAhead

namespace Timeless

variable {s t u : State}

theorem ofAside (h : Aside s t) : Timeless s t := ⟨h.ports, h.entries, h.runTime, h.service, h.watchdog, h.line⟩

theorem refl (s : State) : Timeless s s := ofAside (.refl s)

theorem trans (h : Timeless s t) (k : Timeless t u) : Timeless s u :=
  ⟨k.ports.trans h.ports, k.entries.trans h.entries, k.runTime.trans h.runTime, k.service.trans h.service,
    k.watchdog.trans h.watchdog, k.line ∘ h.line⟩

theorem thenAside (h : Timeless s t) (k : Aside t u) : Timeless s u := h.trans (ofAside k)

/-- The record store, the cabins and the watch set hold no other timer than those of reservations. -/
theorem tables (s : State) (store : RecordStore) (access : AccessUnit) (passage : PassageUnit) :
    Timeless s { s with store := store, access := access, passage := passage } :=
  ⟨rfl, rfl, rfl, rfl, rfl, id⟩

theorem leaveIndex (n : Nat) (s : State) : Timeless s (leaveIndex n s) := by
  unfold Machine.leaveIndex
  split
  · exact (tables s _ s.access s.passage : Timeless s (s.dropIndex n)).thenAside (.report _ _)
  · exact refl s

theorem appendRevocation (v : Revocation) (s : State) : Timeless s (appendRevocation v s) := by
  unfold Machine.appendRevocation
  split
  · exact (tables s { s.store with revoked := s.store.revoked ++ [v] } s.access s.passage).thenAside (.report _ _)
  · exact (tables s { s.store with revoked := s.store.revoked.drop 1 ++ [v] } s.access s.passage).thenAside (.raise _ _)

theorem revoke (slot n : Nat) (reason : RevocationReason) (s : State) : Timeless s (revoke slot n reason s) := by
  unfold Machine.revoke
  cases s.record slot with
  | none => exact (leaveIndex n s).trans (appendRevocation _ _)
  | some r => exact ((tables s _ s.access s.passage).trans (leaveIndex n _)).trans (appendRevocation _ _)

theorem endReservation (slot : Nat) (r : Record) (v : Reservation) (s : State) :
    Timeless s (endReservation slot r v s) :=
  (tables s _ s.access s.passage).trans (leaveIndex v.number _)

theorem setWatch (w : List WatchEntry) (s : State) : Timeless s (setWatch w s) :=
  (tables s s.store s.access { s.passage with watch := w }).thenAside ((Aside.refl _).notices s)

theorem leaveCabin (slot n : Nat) (s : State) : Timeless s (leaveCabin slot n s) := tables s s.store _ s.passage

theorem leaveCabin? (slot : Nat) (n : Option Nat) (s : State) : Timeless s (leaveCabin? slot n s) := by
  cases n with
  | none => exact refl s
  | some c => exact leaveCabin slot c s

theorem leaveWatch (slot : Nat) (s : State) : Timeless s (leaveWatch slot s) := by
  rcases leaveWatch_cases slot s with h | h <;> rw [h]
  · exact setWatch _ s
  · exact refl s

theorem vacateSlot (slot : Nat) (r : Record) (s : State) : Timeless s (vacateSlot slot r s) := by
  have h1 := ((leaveCabin? slot r.homeCabin s).trans (leaveCabin? slot r.secondCabin _)).trans (leaveWatch slot _)
  unfold Machine.vacateSlot freeRecord
  dsimp only
  generalize Machine.leaveWatch slot _ = u at h1
  have h2 := ((h1.thenAside (.setCounts (subCell u.passage.counts r.cls r.location) u)).thenAside
    (.reconcile u.passage.counts _)).thenAside (.loseMember r.folio _)
  exact (h2.trans (tables _ _ _ _)).thenAside (.report .records _)

theorem retire (slot : Nat) (r : Record) (s : State) : Timeless s (retire slot r s) := by
  have h1 : Timeless s (retireCredentials slot r s) :=
    retireCredentials_keeps (P := fun t => Timeless s t) (fun n t h => h.trans (revoke slot n _ t))
      (fun r' v t _ h => h.trans (endReservation slot r' v t)) r (refl s)
  exact h1.trans (vacateSlot slot r _)

end Timeless

theorem TableDeed.timeless {s t : State} (h : TableDeed s t) : Timeless s t := by
  cases h with
  | editRecord | mapRecords | issue | reserve | removeRevoked | assign | vacate | editCabin =>
    exact .tables s _ _ s.passage
  | confirm slot r v _ h =>
    simp only [confirmInto, h]
    exact .tables s _ _ s.passage
  | endReservation slot r v => exact .endReservation slot r v s
  | revoke slot n reason => exact .revoke slot n reason s
  | retire slot r => exact .retire slot r s

/-! ### Every command -/

theorem forEach_deeds {α : Type} {f : α → State → State} (h : ∀ a s, Deeds s (f a s)) (l : List α) (s : State) :
    Deeds s (forEach f l s) := by
  induction l generalizing s with
  | nil => exact .refl
  | cons a l ih => exact (h a s).trans (ih _)

theorem sweepLinks_deeds (s : State) : Deeds s (sweepLinks s) :=
  forEach_deeds (fun p s => (Deeds.port (.settle p s)).thenPort (.endGap p _)) _ s

theorem sweep_deeds (s : State) : Deeds s (sweep s) := by
  have h2 := (sweepLinks_deeds s).trans
    (forEach_deeds expireReservation_deeds (Table.keys (sweepLinks s).store.records) _)
  have h3 := h2.trans (forEach_deeds expireTab_deeds (Table.keys (sweepLinks s).tabs.entries) _)
  have h4 := h3.trans (forEach_deeds (fun p s => .port (.expireSilence p s)) (List.finRange 6) _)
  exact ((h4.tail (.expireWatchdog _)).thenAside (.endPulse _)).thenAside (.endHoldoff _)

/-- Every command but the advance of time is a chain of deeds. -/
theorem exec_deeds {i : Instr} {s t : State} (h : exec i s = .next t) (hi : i ≠ .runTimeAdvance) : Deeds s t := by
  cases i
  case runTimeAdvance => exact absurd rfl hi
  case writeDiscarded => exact writeDiscarded_deeds h
  case readReply => exact readReply_deeds h
  all_goals cases h
  case frameArrival p => exact .port (.settle p s)
  case interByteGap p => exact .port (.endGap p s)
  case receivedByte p b g => exact receive_deeds p b g s
  case portSilenceExpiry p => exact .port (.expireSilence p s)
  case unknownRequestKind p => exact takeUnknownKind_deeds p s
  case ping => exact takeRequest_deeds _ _ _ _ (fun _ _ _ => .refl) s
  case unlock p => exact takeRequest_deeds _ _ _ _ (decideUnlock_deeds p) s
  case lockMode => exact takeRequest_deeds _ _ _ _ decideLockMode_deeds s
  case charge p => exact takeRequest_deeds _ _ _ _ (decideCharge_deeds p) s
  case openTab p => exact takeRequest_deeds _ _ _ _ (decideOpenTab_deeds p) s
  case closeTab => exact takeRequest_deeds _ _ _ _ decideCloseTab_deeds s
  case voidTab => exact takeRequest_deeds _ _ _ _ decideVoidTab_deeds s
  case gangway p => exact takeRequest_deeds _ _ _ _ (decideGangway_deeds p) s
  case musterTap p => exact takeRequest_deeds _ _ _ _ (decideMusterTap_deeds p) s
  case lookup p => exact takeRequest_deeds _ _ _ _ (decideLookup_deeds p) s
  case reservationExpiry slot => exact expireReservation_deeds slot s
  case tabExpiry entry => exact expireTab_deeds entry s
  case serverWatchdogExpiry => exact .one (.expireWatchdog s)
  case rollover => exact rolloverTest_deeds s
  case pulseEnd => exact .aside (.endPulse s)
  case holdoffEnd => exact .aside (.endHoldoff s)
  case powerOnReset => exact .one (.powerOn s)
  case unknownKind kind body => exact takeUnlisted_deeds kind body s
  case issueRecord body => exact manage_deeds _ _ (decideIssue_deeds body) s
  case reserveCredential body => exact manage_deeds _ _ (decideReserve_deeds body) s
  case confirmCredential body => exact manage_deeds _ _ (decideConfirm_deeds body) s
  case cancelCredential body => exact manage_deeds _ _ (decideCancel_deeds body) s
  case revokeCredential body => exact manage_deeds _ _ (decideRevoke_deeds body) s
  case removeRevoked body => exact manage_deeds _ _ (decideRemoveRevoked_deeds body) s
  case holdRecord body => exact manage_deeds _ _ (decideHold_deeds body) s
  case releaseRecord body => exact manage_deeds _ _ (decideRelease_deeds body) s
  case retireRecord body => exact manage_deeds _ _ (decideRetire_deeds body) s
  case setMessage body => exact manage_deeds _ _ (decideSetMessage_deeds body) s
  case setWatch body => exact manage_deeds _ _ (decideSetWatch_deeds body) s
  case setFinal body => exact manage_deeds _ _ (decideSetFinal_deeds body) s
  case setTier body => exact manage_deeds _ _ (decideSetTier_deeds body) s
  case setCap body => exact manage_deeds _ _ (decideSetCap_deeds body) s
  case readRecord body => exact manage_deeds _ _ (decideReadRecord_deeds body) s
  case setCabinZones body => exact manage_deeds _ _ (decideSetCabinZones_deeds body) s
  case assignCabin body => exact manage_deeds _ _ (decideAssignCabin_deeds body) s
  case vacateCabin body => exact manage_deeds _ _ (decideVacateCabin_deeds body) s
  case setCabinMode body => exact manage_deeds _ _ (decideSetCabinMode_deeds body) s
  case loadRole body => exact manage_deeds _ _ (decideLoadRole_deeds body) s
  case setRole body => exact manage_deeds _ _ (decideSetRole_deeds body) s
  case setClassPolicy body => exact manage_deeds _ _ (decideSetClassPolicy_deeds body) s
  case setLocation body => exact manage_deeds _ _ (decideSetLocation_deeds body) s
  case readWatch body => exact manage_deeds _ _ (decideReadWatch_deeds body) s
  case setTime body => exact manage_deeds _ _ (decideSetTime_deeds body) s
  case setPhase body => exact manage_deeds _ _ (decideSetPhase_deeds body) s
  case endMuster body => exact manage_deeds _ _ (decideEndMuster_deeds body) s
  case setStation body => exact manage_deeds _ _ (decideSetStation_deeds body) s
  case openFolio body => exact manage_deeds _ _ (decideOpenFolio_deeds body) s
  case closeFolio body => exact manage_deeds _ _ (decideCloseFolio_deeds body) s
  case reopenFolio body => exact manage_deeds _ _ (decideReopenFolio_deeds body) s
  case suspendFolio body => exact manage_deeds _ _ (decideSuspendFolio_deeds body) s
  case resumeFolio body => exact manage_deeds _ _ (decideResumeFolio_deeds body) s
  case setLimits body => exact manage_deeds _ _ (decideSetLimits_deeds body) s
  case postPayment body => exact manage_deeds _ _ (decidePayment_deeds body) s
  case postRefund body => exact manage_deeds _ _ (decideRefund_deeds body) s
  case postAdjustment body => exact manage_deeds _ _ (decideAdjustment_deeds body) s
  case addPrepaid body => exact manage_deeds _ _ (decideAddPrepaid_deeds body) s
  case linkRecord body => exact manage_deeds _ _ (decideLink_deeds body) s
  case readFolio body => exact manage_deeds _ _ (decideReadFolio_deeds body) s
  case loadVenue body => exact manage_deeds _ _ (decideLoadVenue_deeds body) s
  case setVenueOpen body => exact manage_deeds _ _ (decideSetVenueOpen_deeds body) s
  case loadTier body => exact manage_deeds _ _ (decideLoadTier_deeds body) s
  case hostVoidTab body => exact manage_deeds _ _ (decideHostVoidTab_deeds body) s
  case readTab body => exact manage_deeds _ _ (decideReadTab_deeds body) s
  case loadTerminal body => exact manage_deeds _ _ (decideLoadTerminal_deeds body) s
  case setTerminalEnabled body => exact manage_deeds _ _ (decideTerminalEnabled_deeds body) s
  case portReset body => exact manage_deeds _ _ (decidePortReset_deeds body) s
  case readPort body => exact manage_deeds _ _ (decideReadPort_deeds body) s
  case openService body => exact manage_deeds _ _ (decideOpenService_deeds body) s
  case resumeService body => exact manage_deeds _ _ (decideResumeService_deeds body) s
  case serviceReset body => exact manage_deeds _ _ (decideServiceReset_deeds body) s
  case setSetting body => exact manage_deeds _ _ (decideSetSetting_deeds body) s
  case readNotices body => exact manage_deeds _ _ (decideReadNotices_deeds body) s
  case ackNotices body => exact manage_deeds _ _ (decideAckNotices_deeds body) s
  case findCredential | readRevoked | readCabin | readRole | readCounts | scan | readTime | readMuster | readVenue
      | readTier | listTabs | readTerminals | readSettings | readService =>
    exact manage_deeds _ _ (fun _ => readOnly_deeds) s

/-- A law that every deed and every advance of time keeps is kept by every step. -/
theorem step_keeps {P : State → Prop} (hd : ∀ s t, Deed s t → P s → P t) (ha : ∀ s, P s → P (advance (sweep s)))
    {s t : State} (hs : P s) (h : step s = .next t) : P t := by
  unfold step at h
  split at h
  · cases h
    exact hs
  · rename_i c rest _
    have h1 : P { s with pending := rest } := hd _ _ (.aside (.pending rest s)) hs
    by_cases hc : c = .runTimeAdvance
    · subst hc
      obtain rfl : advance (sweep { s with pending := rest }) = t := Host.Outcome.next.inj h
      exact ha _ h1
    · exact (exec_deeds h hc).keeps hd h1

/-- A law that every deed and every tick keeps is kept by every step. -/
theorem step_keeps_of_tick {P : State → Prop} (hd : ∀ s t, Deed s t → P s → P t) (ht : ∀ s, P s → P (tick s))
    {s t : State} (hs : P s) (h : step s = .next t) : P t := by
  refine step_keeps hd (fun u hu => ?_) hs h
  have h1 : P (tick (sweep u)) := ht _ ((sweep_deeds u).keeps hd hu)
  rcases advance_cases (sweep u) with ⟨-, he⟩ | ⟨-, he⟩
  · rw [he]
    exact h1
  · rw [he]
    exact (rolloverTest_deeds _).keeps hd h1

end Sys2Proof.Machine
end

section
/-! O4: the ports stay in good order, and the lists within their sizes. -/

namespace Sys2Proof.Machine

/-! ### Ports in good order -/

theorem State.portsGood_congr {s t : State} (h : t.ports = s.ports) (hs : s.portsGood) : t.portsGood := fun p => by
  have hp : t.port p = s.port p := by simp [State.port, h]
  exact hp ▸ hs p

theorem State.portsGood_setPort {s : State} {p : Port} {b : PortBlock} (hs : s.portsGood) (hb : b.good) :
    (s.setPort p b).portsGood := fun q => by
  by_cases hq : q = p
  · subst hq
    simpa using hb
  · rw [State.setPort_port_other s b hq]
    exact hs q

theorem PortBlock.decided_good {b : PortBlock} (h : b.good) : b.decided.good := by
  obtain ⟨hq, he, -, hs, hr, hw⟩ := h
  exact ⟨hq, he, by simp [PortBlock.decided], hs, hr, hw⟩

theorem takeFrame_portsGood (p : Port) {s : State} (h : s.portsGood) : (takeFrame p s).portsGood := by
  obtain ⟨hq, he, hh, hs, hr, hw⟩ := PortBlock.decided_good (h p)
  refine State.portsGood_setPort h ⟨?_, he, hh, hs, hr, hw⟩
  have : ((s.port p).queue.drop 1).length ≤ (s.port p).queue.length := by simp
  exact this.trans hq

theorem endInHand_portsGood (p : Port) {s : State} (h : s.portsGood) : (endInHand p s).portsGood :=
  State.portsGood_setPort h (PortBlock.decided_good (h p))

theorem holdReply_portsGood (p : Port) (f : Frame) (r : Result) (body : List Byte) {s : State} (h : s.portsGood) :
    (holdReply p f r body s).portsGood := by
  obtain ⟨hq, he, -, hs, hr, hw⟩ := h p
  refine State.portsGood_setPort h ⟨hq, he, ?_, hs, hr, hw⟩
  rintro _ ⟨⟩
  exact ⟨rfl, rfl⟩

theorem discardFrame_portsGood (p : Port) {s : State} (h : s.portsGood) : (discardFrame p s).portsGood := by
  obtain ⟨hq, -, hh, hs, hr, hw⟩ := h p
  have h1 : (s.setPort p { s.port p with errors := min 255 ((s.port p).errors + 1) }).portsGood :=
    State.portsGood_setPort h ⟨hq, Nat.min_le_left _ _, hh, hs, hr, hw⟩
  unfold discardFrame
  dsimp only
  split
  · exact State.portsGood_congr (by simp) h1
  · exact h1

theorem setReceiver_hunt_portsGood (p : Port) {s : State} (h : s.portsGood) : (setReceiver p .hunt s).portsGood := by
  obtain ⟨hq, he, hh, hs, -, hw⟩ := h p
  exact State.portsGood_setPort h ⟨hq, he, hh, hs, trivial, hw⟩

theorem setReceiver_frame_portsGood (p : Port) {bs : List Byte} (last : Nat) {s : State} (hb : partialFrame bs)
    (h : s.portsGood) : (setReceiver p (.frame bs last) s).portsGood := by
  obtain ⟨hq, he, hh, hs, -, hw⟩ := h p
  exact State.portsGood_setPort h ⟨hq, he, hh, hs, hb, hw⟩

theorem dropPartFrame_portsGood (p : Port) {s : State} (h : s.portsGood) : (dropPartFrame p s).portsGood :=
  discardFrame_portsGood p (setReceiver_hunt_portsGood p h)

theorem endGap_portsGood (p : Port) {s : State} (h : s.portsGood) : (endGap p s).portsGood := by
  unfold endGap
  split
  · exact dropPartFrame_portsGood p h
  · exact h

theorem huntByte_portsGood (p : Port) (b : Byte) {s : State} (h : s.portsGood) : (huntByte p b s).portsGood := by
  unfold huntByte
  split
  · exact setReceiver_frame_portsGood p _ (by simp [partialFrame]) h
  · exact h

/-- A byte more of a frame, its LENGTH not above 60, leaves the frame in part or makes it whole (R160). -/
theorem partialFrame_snoc {bs : List Byte} {b : Byte} (h : partialFrame bs)
    (hb : ¬ (bs.isEmpty && decide (Config.frameBody < b.toNat)) = true) :
    (collectedWhole (bs ++ [b]) = true → (bs ++ [b]).length ≤ Config.frameBody + 6) ∧
      (¬ collectedWhole (bs ++ [b]) = true → partialFrame (bs ++ [b])) := by
  cases bs with
  | nil =>
    have hb' : b.toNat ≤ Config.frameBody := by simpa using hb
    simp only [Config.frameBody] at hb'
    simp only [List.nil_append, collectedWhole, partialFrame, List.length_singleton, Config.frameBody,
      decide_eq_true_eq]
    omega
  | cons l bs =>
    obtain ⟨hl, hlen⟩ := h
    simp only [List.length_cons, Config.frameBody] at hl hlen
    simp only [List.cons_append, collectedWhole, partialFrame, List.length_cons, List.length_append, List.length_nil,
      decide_eq_true_eq, Config.frameBody]
    omega

theorem frameByte_portsGood {p : Port} {bs : List Byte} {last : Nat} {s : State} (b : Byte) (stopGood : Bool)
    (hr : (s.port p).receiver = .frame bs last) (h : s.portsGood) : (frameByte p bs b stopGood s).portsGood := by
  obtain ⟨hq, he, hh, hs, hrec, hw⟩ := h p
  rw [hr] at hrec
  unfold frameByte
  split
  · exact dropPartFrame_portsGood p h
  · split
    · exact dropPartFrame_portsGood p h
    · rename_i hb
      obtain ⟨hwhole, hpart⟩ := partialFrame_snoc hrec hb
      split
      · rename_i hc
        exact State.portsGood_setPort h ⟨hq, he, hh, hs, trivial, hc, hwhole hc⟩
      · exact setReceiver_frame_portsGood p _ (hpart ‹_›) h

theorem PortBlock.heard_good {b : PortBlock} (now : Nat) (h : b.good) : (b.heard now).good := by
  obtain ⟨hq, he, hh, -, hr, hw⟩ := h
  exact ⟨hq, he, hh, by simp [PortBlock.heard], hr, hw⟩

theorem arrive_portsGood (p : Port) (f : Frame) {s : State} (h : s.portsGood) : (arrive p f s).portsGood := by
  have hg := PortBlock.heard_good s.clock.runTime (h p)
  have h1 : (s.setPort p ((s.port p).heard s.clock.runTime)).portsGood := State.portsGood_setPort h hg
  obtain ⟨-, he, hh, hs, hr, hw⟩ := hg
  unfold arrive
  dsimp only
  split
  · rename_i hlen
    refine State.portsGood_setPort h1 ?_
    rw [State.setPort_port]
    refine ⟨?_, he, hh, hs, hr, hw⟩
    simp only [List.length_append, List.length_singleton]
    exact hlen
  · refine State.portsGood_congr (reportRefusal_ports _ _ _ _ _ _) (State.portsGood_setPort h1 ?_)
    rw [State.setPort_port]
    exact ⟨(h p).1, he, hh, hs, hr, hw⟩

theorem settle_portsGood (p : Port) {s : State} (h : s.portsGood) : (settle p s).portsGood := by
  unfold settle
  split
  · obtain ⟨hq, he, hh, hs, hr, -⟩ := h p
    have h1 : (s.setPort p { s.port p with whole := none }).portsGood :=
      State.portsGood_setPort h ⟨hq, he, hh, hs, hr, trivial⟩
    dsimp only
    split
    · exact arrive_portsGood p _ h1
    · exact discardFrame_portsGood p h1
  · exact h

theorem expireSilence_portsGood (p : Port) {s : State} (h : s.portsGood) : (expireSilence p s).portsGood := by
  obtain ⟨hq, he, hh, -, hr, hw⟩ := h p
  unfold expireSilence
  split
  · split
    · exact State.portsGood_congr (raisePortSilent_ports _ _)
        (State.portsGood_setPort h ⟨hq, he, hh, by simp, hr, hw⟩)
    · exact h
  · exact h

theorem portReset_portsGood (p : Port) {s : State} (h : s.portsGood) :
    (s.setPort p ((s.port p).reset s.clock.runTime)).portsGood := by
  obtain ⟨-, -, hh, -, -, hw⟩ := h p
  exact State.portsGood_setPort h
    ⟨by simp [PortBlock.reset], by simp [PortBlock.reset], hh, by simp [PortBlock.reset], trivial, hw⟩

theorem clearErrors_portsGood (p : Port) {s : State} (h : s.portsGood) :
    (s.setPort p { s.port p with errors := 0 }).portsGood := by
  obtain ⟨hq, -, hh, hs, hr, hw⟩ := h p
  exact State.portsGood_setPort h ⟨hq, Nat.zero_le _, hh, hs, hr, hw⟩

theorem emptyReporting_port (p : Port) (s : State) : (emptyReporting s).port p = { s.port p with queue := [] } := by
  simp [emptyReporting, State.port]

theorem emptyReporting_portsGood {s : State} (h : s.portsGood) : (emptyReporting s).portsGood := fun p => by
  obtain ⟨-, he, hh, hs, hr, hw⟩ := h p
  rw [emptyReporting_port]
  exact ⟨Nat.zero_le _, he, hh, hs, hr, hw⟩

theorem reset_port (p : Port) : State.reset.port p = PortBlock.powerOn := by
  simp [State.reset, State.port]

theorem reset_portsGood : State.reset.portsGood := fun p => by
  rw [reset_port]
  exact ⟨Nat.zero_le _, Nat.zero_le _, by simp [PortBlock.powerOn], by simp [PortBlock.powerOn], trivial, trivial⟩

theorem PortDeed.keeps_portsGood {s t : State} (h : PortDeed s t) (hs : s.portsGood) : t.portsGood := by
  cases h with
  | takeFrame p => exact takeFrame_portsGood p hs
  | endInHand p => exact endInHand_portsGood p hs
  | holdReply p f r body => exact holdReply_portsGood p f r body hs
  | settle p => exact settle_portsGood p hs
  | endGap p => exact endGap_portsGood p hs
  | huntByte p b => exact huntByte_portsGood p b hs
  | frameByte p bs last b stopGood _ hr => exact frameByte_portsGood b stopGood hr hs
  | expireSilence p => exact expireSilence_portsGood p hs
  | portReset p => exact portReset_portsGood p hs
  | clearErrors p => exact clearErrors_portsGood p hs

theorem Deed.keeps_portsGood {s t : State} (h : Deed s t) (hs : s.portsGood) : t.portsGood := by
  cases h with
  | aside h => exact State.portsGood_congr h.ports hs
  | port h => exact h.keeps_portsGood hs
  | table h => exact State.portsGood_congr h.timeless.ports hs
  | emptyReporting => exact emptyReporting_portsGood hs
  | powerOn => exact State.portsGood_congr rfl reset_portsGood
  | expireWatchdog => exact State.portsGood_congr (expireWatchdog_frame s).ports hs
  | transact | restartWatchdog | serve | thinWatch | joinWatch | openTab | freeTab => exact State.portsGood_congr rfl hs

/-! ### Sizes of the lists -/

theorem State.sizesGood_congr {s t : State} (hr : t.store.revoked = s.store.revoked)
    (hw : t.passage.watch = s.passage.watch) (hs : s.sizesGood) : t.sizesGood := by
  unfold State.sizesGood at hs ⊢
  rwa [hr, hw]

theorem pushRevocation_length {l : List Revocation} (v : Revocation) (h : l.length ≤ Config.revocationSize) :
    (pushRevocation l v).length ≤ Config.revocationSize := by
  unfold pushRevocation
  split
  · simpa using ‹l.length < _›
  · simp only [Config.revocationSize, List.length_append, List.length_drop, List.length_singleton] at *
    omega

theorem revoke_sizesGood (slot n : Nat) (reason : RevocationReason) {s : State} (h : s.sizesGood) :
    (revoke slot n reason s).sizesGood := by
  obtain ⟨hr, hw, hn⟩ := h
  refine ⟨?_, by simpa using hw, by simpa using hn⟩
  rw [revoke_revoked]
  exact pushRevocation_length _ hr

theorem endReservation_sizesGood (slot : Nat) (r : Record) (v : Reservation) {s : State} (h : s.sizesGood) :
    (endReservation slot r v s).sizesGood :=
  State.sizesGood_congr (by rw [endReservation_store]) (by simp) h

/-- A list of watch entries drawn from the watch set keeps its bounds (R67). -/
theorem watch_sublist_good {w v : List WatchEntry}
    (h : (w.map WatchEntry.slot).Sublist (v.map WatchEntry.slot)) (hl : v.length ≤ Config.watchSize)
    (hn : (v.map WatchEntry.slot).Nodup) : w.length ≤ Config.watchSize ∧ (w.map WatchEntry.slot).Nodup :=
  ⟨by simpa using h.length_le.trans (by simpa using hl), hn.sublist h⟩

theorem retire_sizesGood (slot : Nat) (r : Record) {s : State} (h : s.sizesGood) : (retire slot r s).sizesGood := by
  have h1 : (retireCredentials slot r s).sizesGood :=
    retireCredentials_keeps (fun n _ h => revoke_sizesGood slot n .retired h)
      (fun r v _ _ h => endReservation_sizesGood slot r v h) r h
  obtain ⟨hr, hw, hn⟩ := h1
  refine ⟨by simpa [retire_eq] using hr, ?_⟩
  rw [retire_eq, vacateSlot_watch]
  exact watch_sublist_good (List.filter_sublist.map _) hw hn

theorem TableDeed.keeps_sizesGood {s t : State} (h : TableDeed s t) (hs : s.sizesGood) : t.sizesGood := by
  cases h with
  | revoke slot n reason => exact revoke_sizesGood slot n reason hs
  | endReservation slot r v => exact endReservation_sizesGood slot r v hs
  | removeRevoked n =>
    obtain ⟨hr, hwn⟩ := hs
    exact ⟨(List.length_filter_le _ _).trans hr, hwn⟩
  | retire slot r => exact retire_sizesGood slot r hs
  | confirm slot r v _ h => exact State.sizesGood_congr (by simp [confirmInto, h]) (by simp [confirmInto, h]) hs
  | editRecord | mapRecords | issue | reserve | assign | vacate | editCabin => exact State.sizesGood_congr rfl rfl hs

theorem Deed.keeps_sizesGood {s t : State} (h : Deed s t) (hs : s.sizesGood) : t.sizesGood := by
  cases h with
  | aside h => exact State.sizesGood_congr (by rw [h.store]) h.watch hs
  | port h => exact State.sizesGood_congr (by rw [h.portsOnly.store]) h.portsOnly.watch hs
  | table h => exact h.keeps_sizesGood hs
  | thinWatch w _ h =>
    obtain ⟨hr, hl, hn⟩ := hs
    exact ⟨hr, watch_sublist_good h hl hn⟩
  | joinWatch e _ h hlt =>
    obtain ⟨hr, -, hn⟩ := hs
    refine ⟨hr, by simpa using hlt, ?_⟩
    simp only [setWatch_watch, List.map_append, List.map_cons, List.map_nil]
    refine hn.append (by simp) ?_
    simpa [List.disjoint_singleton] using h
  | emptyReporting =>
    obtain ⟨hr, -⟩ := hs
    exact ⟨hr, Nat.zero_le _, List.nodup_nil⟩
  | powerOn => exact ⟨Nat.zero_le _, Nat.zero_le _, List.nodup_nil⟩
  | expireWatchdog =>
    have h := expireWatchdog_frame s
    exact State.sizesGood_congr (by rw [h.store]) h.watch hs
  | transact | restartWatchdog | serve | openTab | freeTab => exact State.sizesGood_congr rfl rfl hs

/-- Settles O4: every deed keeps both laws, and a tick moves nothing that they read. -/
theorem stepKeepsPortsAndListSizes : Obligations.StepKeepsPortsAndListSizes :=
  ⟨fun _ _ hs h =>
      step_keeps_of_tick (fun _ _ => Deed.keeps_portsGood) (fun _ hu => State.portsGood_congr rfl hu) hs h,
    fun _ _ hs h =>
      step_keeps_of_tick (fun _ _ => Deed.keeps_sizesGood) (fun _ hu => State.sizesGood_congr rfl rfl hu) hs h⟩

end Sys2Proof.Machine
end

section
/-! O10: no step passes a timer. Every deed leaves each running timer at the present or ahead; the advance of time takes
all that is due before it, so that each timer is then strictly ahead of the moment that ends. -/

namespace Sys2Proof.Machine

/-! ### What each deed does to the timers -/

/-- The timer of a port runs in ACTIVE alone, and has not been passed. -/
def PortBlock.silenceAhead (b : PortBlock) (now : Nat) : Prop :=
  ∀ e, b.silenceExpiry = some e → b.silence = .active ∧ now ≤ e

/-- No silence timer has been passed. -/
def State.silencesAhead (s : State) : Prop := ∀ p, (s.port p).silenceAhead s.clock.runTime

/-- The reservation of a record that a change leaves was there before, or is not passed. -/
def State.reservesAs (s t : State) : Prop :=
  ∀ slot r' v, t.record slot = some r' → r'.reservation = some v →
    (∃ r, s.record slot = some r ∧ r.reservation = some v) ∨ s.clock.runTime ≤ v.expiry

theorem Timeless.keeps {s t : State} (h : Timeless s t) (hw : Table.wf t.store.records = true) (hr : s.reservesAs t)
    (hs : s.timersGood) : t.timersGood := by
  obtain ⟨-, hwt, hres, htab, hsil, hdog, hline⟩ := hs
  have hp : ∀ p, t.port p = s.port p := fun p => by simp [State.port, h.ports]
  refine ⟨hw, h.entries ▸ hwt, fun slot r v hrec hv => ?_, ?_, fun p e he => ?_, fun e he => ?_, h.line hline⟩
  · rw [h.runTime]
    rcases hr slot r v hrec hv with ⟨r0, h0, h0v⟩ | hv'
    · exact hres slot r0 v h0 h0v
    · exact hv'
  · rw [h.entries, h.runTime]
    exact htab
  · rw [hp] at he ⊢
    rw [h.runTime]
    exact hsil p e he
  · rw [h.watchdog] at he
    rw [h.service, h.runTime]
    exact hdog e he

/-- A change that rewrites one record. -/
theorem Timeless.keeps_put {s t : State} {slot : Nat} {r' : Record} (h : Timeless s t)
    (hp : t.store.records = s.store.records.put slot r')
    (hv : ∀ v, r'.reservation = some v →
      (∃ r, s.record slot = some r ∧ r.reservation = some v) ∨ s.clock.runTime ≤ v.expiry)
    (hs : s.timersGood) : t.timersGood := by
  have hw : Table.wf s.store.records = true := hs.1
  refine h.keeps (hp ▸ Table.wf_put _ _ hw) (fun k r v hrec hres => ?_) hs
  rw [State.record, hp, Table.find_put] at hrec
  split at hrec
  · rename_i hk
    cases hrec
    exact hk ▸ hv v hres
  · exact .inl ⟨r, hrec, hres⟩

/-- A change that leaves the records as they were. -/
theorem Timeless.keeps_records {s t : State} (h : Timeless s t) (hp : t.store.records = s.store.records)
    (hs : s.timersGood) : t.timersGood := by
  have hw : Table.wf s.store.records = true := hs.1
  refine h.keeps (hp ▸ hw) (fun k r v hrec hres => .inl ⟨r, ?_, hres⟩) hs
  rwa [State.record, hp] at hrec

theorem PortsOnly.keeps_timersGood {s t : State} (h : PortsOnly s t) (ht : t.silencesAhead) (hs : s.timersGood) :
    t.timersGood := by
  obtain ⟨hw, hwt, hres, htab, -, hdog, hline⟩ := hs
  refine ⟨by rw [h.store]; exact hw, by rw [h.entries]; exact hwt, ?_, ?_, ht, ?_, h.line hline⟩
  · intro slot r v hr hv
    rw [h.runTime]
    exact hres slot r v (by rwa [h.record] at hr) hv
  · rw [h.entries, h.runTime]
    exact htab
  · rw [h.watchdog, h.service, h.runTime]
    exact hdog

theorem State.timersGood.silencesAhead {s : State} (h : s.timersGood) : s.silencesAhead := by
  obtain ⟨-, -, -, -, hsil, -, -⟩ := h
  exact hsil

theorem State.silencesAhead_setPort {s : State} {p : Port} {b : PortBlock} (hs : s.silencesAhead)
    (hb : b.silenceAhead s.clock.runTime) : (s.setPort p b).silencesAhead := fun q => by
  by_cases hq : q = p
  · subst hq
    simpa using hb
  · rw [State.setPort_port_other s b hq]
    exact hs q

theorem State.silencesAhead_congr {s t : State} (hp : t.ports = s.ports) (hc : t.clock = s.clock)
    (hs : s.silencesAhead) : t.silencesAhead := fun p => by
  have h1 : t.port p = s.port p := by simp [State.port, hp]
  rw [h1, hc]
  exact hs p

theorem discardFrame_silencesAhead (p : Port) {s : State} (h : s.silencesAhead) : (discardFrame p s).silencesAhead := by
  have h1 := State.silencesAhead_setPort (p := p) (b := { s.port p with errors := min 255 ((s.port p).errors + 1) }) h (h p)
  unfold discardFrame
  dsimp only
  split
  · exact State.silencesAhead_congr (by simp) (by simp) h1
  · exact h1

theorem dropPartFrame_silencesAhead (p : Port) {s : State} (h : s.silencesAhead) :
    (dropPartFrame p s).silencesAhead :=
  discardFrame_silencesAhead p (State.silencesAhead_setPort h (h p))

theorem endGap_silencesAhead (p : Port) {s : State} (h : s.silencesAhead) : (endGap p s).silencesAhead := by
  unfold endGap
  split
  · exact dropPartFrame_silencesAhead p h
  · exact h

theorem huntByte_silencesAhead (p : Port) (b : Byte) {s : State} (h : s.silencesAhead) :
    (huntByte p b s).silencesAhead := by
  unfold huntByte
  split
  · exact State.silencesAhead_setPort h (h p)
  · exact h

theorem frameByte_silencesAhead (p : Port) (bs : List Byte) (b : Byte) (stopGood : Bool) {s : State}
    (h : s.silencesAhead) : (frameByte p bs b stopGood s).silencesAhead := by
  unfold frameByte
  split
  · exact dropPartFrame_silencesAhead p h
  · split
    · exact dropPartFrame_silencesAhead p h
    · split <;> exact State.silencesAhead_setPort h (h p)

/-- An arrival sets the timer anew (R168). -/
theorem PortBlock.heard_silenceAhead (b : PortBlock) (now : Nat) : (b.heard now).silenceAhead now := by
  rintro _ ⟨⟩
  exact ⟨rfl, Nat.le_add_right _ _⟩

theorem arrive_silencesAhead (p : Port) (f : Frame) {s : State} (h : s.silencesAhead) :
    (arrive p f s).silencesAhead := by
  have hb := (s.port p).heard_silenceAhead s.clock.runTime
  have h1 : (s.setPort p ((s.port p).heard s.clock.runTime)).silencesAhead := State.silencesAhead_setPort h hb
  unfold arrive
  dsimp only
  split
  · refine State.silencesAhead_setPort h1 ?_
    rw [State.setPort_port]
    exact hb
  · refine State.silencesAhead_congr (reportRefusal_ports _ _ _ _ _ _) (reportRefusal_clock _ _ _ _ _ _)
      (State.silencesAhead_setPort h1 ?_)
    rw [State.setPort_port]
    exact hb

theorem settle_silencesAhead (p : Port) {s : State} (h : s.silencesAhead) : (settle p s).silencesAhead := by
  unfold settle
  split
  · have h1 := State.silencesAhead_setPort (p := p) (b := { s.port p with whole := none }) h (h p)
    dsimp only
    split
    · exact arrive_silencesAhead p _ h1
    · exact discardFrame_silencesAhead p h1
  · exact h

theorem expireSilence_silencesAhead (p : Port) {s : State} (h : s.silencesAhead) :
    (expireSilence p s).silencesAhead := by
  unfold expireSilence
  split
  · split
    · exact State.silencesAhead_congr (raisePortSilent_ports _ _) (raisePortSilent_clock _ _)
        (State.silencesAhead_setPort h (by rintro _ ⟨⟩))
    · exact h
  · exact h

/-- The watchdog, set anew or stopped, is ahead (R185). -/
theorem restartWatchdog_timersGood {s : State} (h : s.timersGood) : (restartWatchdog s).timersGood := by
  obtain ⟨hw, hwt, hres, htab, hsil, -, hline⟩ := h
  refine ⟨hw, hwt, hres, htab, hsil, fun e he => ?_, hline⟩
  by_cases hserv : s.management.service = .serving
  · simp only [restartWatchdog, hserv, if_true, Option.map_eq_some_iff] at he
    obtain ⟨a, -, rfl⟩ := he
    exact ⟨hserv, Nat.le_add_right _ _⟩
  · simp [restartWatchdog, hserv] at he

theorem expireWatchdog_timersGood {s : State} (h : s.timersGood) : (expireWatchdog s).timersGood := by
  unfold expireWatchdog
  split
  · split
    · obtain ⟨hw, hwt, hres, htab, hsil, -, hline⟩ := h
      refine Timeless.keeps_records (.ofAside (.raise _ _)) rfl ⟨hw, hwt, hres, htab, hsil, ?_, hline⟩
      rintro _ ⟨⟩
    · exact h
  · exact h

theorem reset_timersGood : State.reset.timersGood :=
  ⟨rfl, rfl, by simp [State.record, State.reset], by simp [State.reset],
    fun p e he => by simp [reset_port, PortBlock.powerOn] at he, by simp [State.reset, ManagementPort.powerOn], trivial⟩

/-- The tab table after a tab has opened or ended. -/
theorem timersGood_tabs {s : State} {tabs : TabTable} (hw : Table.wf tabs.entries = true)
    (ht : ∀ entry t, tabs.entries.find entry = some t → s.clock.runTime ≤ t.expiry) (hs : s.timersGood) :
    State.timersGood { s with tabs := tabs } := by
  obtain ⟨hwr, -, hres, -, hsil, hdog, hline⟩ := hs
  exact ⟨hwr, hw, hres, ht, hsil, hdog, hline⟩

theorem PortDeed.keeps_timersGood {s t : State} (h : PortDeed s t) (hs : s.timersGood) : t.timersGood := by
  have hsil := hs.silencesAhead
  refine h.portsOnly.keeps_timersGood ?_ hs
  cases h with
  | takeFrame p | endInHand p | holdReply p | clearErrors p => exact State.silencesAhead_setPort hsil (hsil p)
  | portReset p =>
    refine State.silencesAhead_setPort hsil ?_
    rintro _ ⟨⟩
    exact ⟨rfl, Nat.le_add_right _ _⟩
  | settle p => exact settle_silencesAhead p hsil
  | endGap p => exact endGap_silencesAhead p hsil
  | huntByte p b => exact huntByte_silencesAhead p b hsil
  | frameByte p bs _ b stopGood => exact frameByte_silencesAhead p bs b stopGood hsil
  | expireSilence p => exact expireSilence_silencesAhead p hsil

theorem TableDeed.keeps_timersGood {s t : State} (h : TableDeed s t) (hs : s.timersGood) : t.timersGood := by
  have hwr : Table.wf s.store.records = true := hs.1
  have ht := h.timeless
  cases h with
  | editRecord _ slot r r' h hk =>
    exact ht.keeps_put rfl (fun v hv => .inl ⟨r, h, hk.reservation ▸ hv⟩) hs
  | mapRecords _ f hk =>
    refine ht.keeps (Table.wf_mapValues f hwr) (fun slot r' v hr hv => ?_) hs
    simp only [State.record, Table.find_mapValues, Option.map_eq_some_iff] at hr
    obtain ⟨r, hr0, rfl⟩ := hr
    exact .inl ⟨r, hr0, (hk r).reservation ▸ hv⟩
  | issue _ slot q => exact ht.keeps_put rfl (by simp [issuedRecord]) hs
  | reserve q r _ h =>
    refine ht.keeps_put rfl (fun v hv => .inr ?_) hs
    cases hv
    exact Nat.le_add_right _ _
  | confirm slot r v _ h =>
    simp only [confirmInto, h] at ht ⊢
    exact ht.keeps_put rfl (by simp) hs
  | endReservation slot r v =>
    exact ht.keeps_put (r' := { r with reservation := none })
      (by rw [endReservation_store]) (by simp) hs
  | revoke slot n reason =>
    cases hr : s.record slot with
    | none => exact ht.keeps_records (by rw [revoke_store_free n reason hr]) hs
    | some r =>
      exact ht.keeps_put
        (r' := { r with credentials := r.credentials.filter fun c => decide (c.number ≠ n) })
        (by rw [revoke_store n reason hr])
        (fun v hv => .inl ⟨r, hr, hv⟩) hs
  | removeRevoked n => exact ht.keeps_records rfl hs
  | retire slot r =>
    refine ht.keeps (retire_wf hwr) (fun k r' v hr hv => ?_) hs
    rw [retire_record hwr] at hr
    split at hr
    · cases hr
    · exact .inl ⟨r', hr, hv⟩
  | assign slot n r _ h =>
    refine ht.keeps_put rfl (fun v hv => .inl ⟨r, h, ?_⟩) hs
    rw [← hv]
    unfold Record.assigned
    split <;> rfl
  | vacate slot n r _ h =>
    refine ht.keeps_put rfl (fun v hv => .inl ⟨r, h, ?_⟩) hs
    rw [← hv]
    unfold Record.vacated
    split <;> rfl
  | editCabin n c => exact ht.keeps_records rfl hs

theorem Deed.keeps_timersGood {s t : State} (h : Deed s t) (hs : s.timersGood) : t.timersGood := by
  have hwt : Table.wf s.tabs.entries = true := hs.2.1
  cases h with
  | port h => exact h.keeps_timersGood hs
  | table h => exact h.keeps_timersGood hs
  | aside h => exact (Timeless.ofAside h).keeps_records (by rw [h.store]) hs
  | transact _ m hm hw =>
    exact (⟨rfl, rfl, rfl, hm, hw, id⟩ : Timeless s { s with management := m }).keeps_records rfl hs
  | restartWatchdog => exact restartWatchdog_timersGood hs
  | serve =>
    obtain ⟨h1, h2, hres, htab, hsil, hdog, hline⟩ := hs
    exact ⟨h1, h2, hres, htab, hsil, fun e he => ⟨rfl, (hdog e he).2⟩, hline⟩
  | expireWatchdog => exact expireWatchdog_timersGood hs
  | emptyReporting =>
    obtain ⟨h1, h2, hres, htab, hsil, hdog, -⟩ := hs
    refine ⟨h1, h2, hres, htab, fun p e he => ?_, hdog, trivial⟩
    rw [emptyReporting_port] at he ⊢
    exact hsil p e he
  | thinWatch w => exact (Timeless.setWatch w s).keeps_records rfl hs
  | joinWatch e => exact (Timeless.setWatch _ s).keeps_records rfl hs
  | openTab entry t next _ h =>
    obtain ⟨-, -, -, htab, -, -, -⟩ := id hs
    refine timersGood_tabs (Table.wf_put _ _ hwt) (fun k u hu => ?_) hs
    rw [Table.find_put] at hu
    split at hu
    · cases hu
      exact h
    · exact htab k u hu
  | freeTab entry =>
    obtain ⟨-, -, -, htab, -, -, -⟩ := id hs
    refine timersGood_tabs (Table.wf_drop _ hwt) (fun k u hu => ?_) hs
    rw [Table.find_drop entry k hwt] at hu
    split at hu
    · cases hu
    · exact htab k u hu
  | powerOn => exact (Timeless.ofAside (.pending s.pending State.reset)).keeps_records rfl reset_timersGood

/-! ### The sweep takes all that is due -/

/-- What an event of each member of a list brings about for that member, and keeps for the others, holds for all. -/
theorem forEach_each {α : Type} {f : α → State → State} {I : State → Prop} {Q : α → State → Prop}
    (hI : ∀ a s, I s → I (f a s)) (hset : ∀ a s, I s → Q a (f a s)) (hkeep : ∀ a b s, I s → Q a s → Q a (f b s))
    {l : List α} {s : State} (hs : I s) (hl : ∀ a, a ∈ l ∨ Q a s) (a : α) : Q a (forEach f l s) := by
  induction l generalizing s with
  | nil => simpa [forEach] using hl a
  | cons b l ih =>
    refine ih (hI b s hs) fun c => ?_
    by_cases hc : c = b
    · exact .inr (hc ▸ hset b s hs)
    · rcases hl c with h | h
      · exact .inl (by simpa [hc] using h)
      · exact .inr (hkeep c b s hs h)

/-- What each event keeps, the events of a list keep. -/
theorem forEach_keeps {α : Type} {f : α → State → State} {P : State → Prop} (h : ∀ a s, P s → P (f a s)) (l : List α)
    {s : State} (hs : P s) : P (forEach f l s) := by
  induction l generalizing s with
  | nil => exact hs
  | cons a l ih => exact ih (h a s hs)

/-- No reservation in a slot is due. -/
def State.reservationLater (s : State) (slot : Nat) : Prop :=
  ∀ r v, s.record slot = some r → r.reservation = some v → s.clock.runTime < v.expiry

/-- No tab in an entry is due. -/
def State.tabLater (s : State) (entry : Nat) : Prop :=
  ∀ t, s.tabs.entries.find entry = some t → s.clock.runTime < t.expiry

/-- The silence timer of a port is not due. -/
def State.silenceLater (s : State) (p : Port) : Prop :=
  ∀ e, (s.port p).silenceExpiry = some e → s.clock.runTime < e

/-- The watchdog is not due. -/
def State.watchdogLater (s : State) : Prop := ∀ e, s.management.watchdog = some e → s.clock.runTime < e

theorem reservationLater_congr {s t : State} {slot : Nat} (hs : t.record slot = s.record slot)
    (hc : t.clock.runTime = s.clock.runTime) (h : s.reservationLater slot) : t.reservationLater slot := by
  unfold State.reservationLater
  rw [hs, hc]
  exact h

theorem tabLater_congr {s t : State} {entry : Nat} (hs : t.tabs.entries = s.tabs.entries)
    (hc : t.clock.runTime = s.clock.runTime) (h : s.tabLater entry) : t.tabLater entry := by
  unfold State.tabLater
  rw [hs, hc]
  exact h

theorem silenceLater_congr {s t : State} {p : Port} (hs : t.port p = s.port p)
    (hc : t.clock.runTime = s.clock.runTime) (h : s.silenceLater p) : t.silenceLater p := by
  unfold State.silenceLater
  rw [hs, hc]
  exact h

/-- What the expiry of a reservation can do: the reservation of the slot ends, where it is due, or nothing. -/
theorem expireReservation_cases (slot : Nat) (s : State) :
    (∃ r v, s.record slot = some r ∧ r.reservation = some v ∧ v.expiry ≤ s.clock.runTime ∧
        expireReservation slot s = raise .reserveExpired (endReservation slot r v s)) ∨
      (s.reservationLater slot ∧ expireReservation slot s = s) := by
  unfold State.reservationLater
  cases hr : s.record slot with
  | none => exact .inr ⟨by simp, by simp only [expireReservation, hr]⟩
  | some r =>
    cases hv : r.reservation with
    | none => exact .inr ⟨by rintro _ v ⟨⟩ h; simp [hv] at h, by simp only [expireReservation, hr, hv]⟩
    | some v =>
      by_cases hd : v.expiry ≤ s.clock.runTime
      · exact .inl ⟨r, v, rfl, hv, hd, by simp only [expireReservation, hr, hv, hd, if_true]⟩
      · refine .inr ⟨?_, by simp only [expireReservation, hr, hv, hd, if_false]⟩
        rintro _ w ⟨⟩ hw
        rw [hv] at hw
        cases hw
        omega

theorem endReservation_record_same (slot : Nat) (r : Record) (v : Reservation) (s : State) :
    (endReservation slot r v s).record slot = some { r with reservation := none } := by
  rw [State.record, endReservation_store]
  exact Table.find_put_same _ _ _

theorem endReservation_record_other {slot k : Nat} (r : Record) (v : Reservation) (s : State) (hk : k ≠ slot) :
    (endReservation slot r v s).record k = s.record k := by
  rw [State.record, endReservation_store]
  exact Table.find_put_other _ _ hk

theorem expireReservation_later (slot : Nat) (s : State) : (expireReservation slot s).reservationLater slot := by
  rcases expireReservation_cases slot s with ⟨r, v, -, -, -, he⟩ | ⟨h, he⟩
  · rw [he]
    refine reservationLater_congr (s := endReservation slot r v s) rfl rfl ?_
    intro r' w hr hw
    rw [endReservation_record_same] at hr
    cases hr
    cases hw
  · rw [he]
    exact h

theorem expireReservation_keeps_later (a b : Nat) (s : State) (h : s.reservationLater a) :
    (expireReservation b s).reservationLater a := by
  by_cases hab : a = b
  · exact hab ▸ expireReservation_later b s
  · rcases expireReservation_cases b s with ⟨r, v, -, -, -, he⟩ | ⟨-, he⟩ <;> rw [he]
    · exact reservationLater_congr (endReservation_record_other r v s hab) (by simp) h
    · exact h

/-- What the expiry of a tab can do: the tab of the entry ends, where it is due, or nothing. -/
theorem expireTab_cases (entry : Nat) (s : State) :
    (∃ t, s.tabs.entries.find entry = some t ∧ t.expiry ≤ s.clock.runTime ∧
        expireTab entry s = raise .tabExpired (releaseTab entry t s)) ∨
      (s.tabLater entry ∧ expireTab entry s = s) := by
  unfold State.tabLater
  cases ht : s.tabs.entries.find entry with
  | none => exact .inr ⟨by simp, by simp only [expireTab, ht]⟩
  | some t =>
    by_cases hd : t.expiry ≤ s.clock.runTime
    · exact .inl ⟨t, rfl, hd, by simp only [expireTab, ht, hd, if_true]⟩
    · refine .inr ⟨?_, by simp only [expireTab, ht, hd, if_false]⟩
      rintro _ ⟨⟩
      omega

theorem releaseTab_entries (entry : Nat) (t : Tab) (s : State) :
    (releaseTab entry t s).tabs.entries = s.tabs.entries.drop entry := by
  unfold releaseTab
  dsimp only
  split <;> simp [freeTab]

theorem expireTab_later (entry : Nat) {s : State} (hw : Table.wf s.tabs.entries = true) :
    (expireTab entry s).tabLater entry := by
  rcases expireTab_cases entry s with ⟨t, -, -, he⟩ | ⟨h, he⟩ <;> rw [he]
  · intro u hu
    rw [raise_tabs, releaseTab_entries, Table.find_drop_same entry hw] at hu
    cases hu
  · exact h

theorem expireTab_keeps_later (a b : Nat) {s : State} (hw : Table.wf s.tabs.entries = true) (h : s.tabLater a) :
    (expireTab b s).tabLater a := by
  rcases expireTab_cases b s with ⟨t, -, -, he⟩ | ⟨-, he⟩ <;> rw [he]
  · intro u hu
    rw [raise_tabs, releaseTab_entries, Table.find_drop b a hw] at hu
    split at hu
    · cases hu
    · simpa using h u hu
  · exact h

theorem expireTab_store (entry : Nat) (s : State) : (expireTab entry s).store = s.store := by
  rcases expireTab_cases entry s with ⟨t, -, -, he⟩ | ⟨-, he⟩ <;> rw [he]
  simp

theorem expireTab_clock (entry : Nat) (s : State) : (expireTab entry s).clock = s.clock := by
  rcases expireTab_cases entry s with ⟨t, -, -, he⟩ | ⟨-, he⟩ <;> rw [he]
  simp

/-- What the expiry of a silence timer can do: the port becomes SILENT, where it is due, or nothing (R168). -/
theorem expireSilence_cases (p : Port) {s : State} (hs : s.silencesAhead) :
    expireSilence p s = raisePortSilent p (s.setPort p { s.port p with silence := .silent, silenceExpiry := none }) ∨
      (s.silenceLater p ∧ expireSilence p s = s) := by
  unfold expireSilence State.silenceLater
  split
  · rename_i e _ he
    split
    · exact .inl rfl
    · refine .inr ⟨?_, rfl⟩
      rw [he]
      rintro _ ⟨⟩
      omega
  · rename_i hne
    refine .inr ⟨fun e he => ?_, rfl⟩
    exact absurd he (hne e (hs p e he).1)

theorem expireSilence_later (p : Port) {s : State} (hs : s.silencesAhead) : (expireSilence p s).silenceLater p := by
  rcases expireSilence_cases p hs with he | ⟨h, he⟩ <;> rw [he]
  · intro e h
    have hp : ∀ t : State, (raisePortSilent p t).port p = t.port p := fun _ => rfl
    rw [hp, State.setPort_port] at h
    cases h
  · exact h

theorem expireSilence_keeps_later (p q : Port) {s : State} (hs : s.silencesAhead) (h : s.silenceLater p) :
    (expireSilence q s).silenceLater p := by
  by_cases hq : p = q
  · exact hq ▸ expireSilence_later q hs
  · rcases expireSilence_cases q hs with he | ⟨-, he⟩ <;> rw [he]
    · exact silenceLater_congr (s := s) (State.setPort_port_other s _ hq) rfl h
    · exact h

/-- What the expiry of the watchdog can do: it stops, where it is due, or nothing (R186). -/
theorem expireWatchdog_cases {s : State} (hs : s.timersGood) :
    (∃ e, expireWatchdog s =
        raise .standalone
          { s with management :=
              { s.management with service := .standalone, standaloneSince := some e, watchdog := none } }) ∨
      (s.watchdogLater ∧ expireWatchdog s = s) := by
  obtain ⟨-, -, -, -, -, hdog, -⟩ := hs
  unfold expireWatchdog State.watchdogLater
  split
  · rename_i e _ he
    split
    · exact .inl ⟨e, rfl⟩
    · refine .inr ⟨?_, rfl⟩
      rw [he]
      rintro _ ⟨⟩
      omega
  · rename_i hne
    refine .inr ⟨fun e he => ?_, rfl⟩
    exact absurd he (hne e (hdog e he).1)

theorem expireWatchdog_later {s : State} (hs : s.timersGood) : (expireWatchdog s).watchdogLater := by
  rcases expireWatchdog_cases hs with ⟨e, he⟩ | ⟨h, he⟩ <;> rw [he]
  · rintro _ ⟨⟩
  · exact h

/-- The end of the pulse or holdoff in progress lies ahead. -/
def State.lineLater (s : State) : Prop :=
  ∀ e, s.notice.line = .pulse e ∨ s.notice.line = .holdoff e → s.moment < e

/-- A pulse that is due has ended: what rests after it is a holdoff that lies ahead (R199, R200). -/
theorem endPulse_line (s : State) (e : Nat) (h : (endPulse s).notice.line = .pulse e) : (endPulse s).moment < e := by
  unfold endPulse at h ⊢
  split at h
  · rename_i e' hl
    split at h
    · simp only [restLine] at h
      split at h <;> cases h
    · rename_i hd
      rw [hl] at h
      cases h
      simp only [hd, if_false]
      omega
  · rename_i hl
    exact absurd h (hl e)

theorem endHoldoff_lineLater {s : State} (hp : ∀ e, s.notice.line = .pulse e → s.moment < e) :
    (endHoldoff s).lineLater := by
  unfold endHoldoff
  split
  · rename_i e hl
    split
    · intro e' he'
      have hm : ∀ n : NoticeUnit, State.moment { s with notice := n } = s.moment := fun _ => rfl
      rw [hm]
      have hw : ∀ c, 0 < pulseWidth c := fun c => by unfold pulseWidth; split <;> omega
      have hw' := hw s.settings.pulseCode
      simp only [afterHoldoff] at he'
      split at he' <;> split at he' <;> simp at he'
      omega
    · intro e' he'
      rw [hl] at he'
      rcases he' with h | h
      · cases h
      · cases h
        omega
  · rename_i hl
    intro e he
    rcases he with h | h
    · exact hp e h
    · exact absurd h (hl e)

/-- After the sweep of the expiries no reservation, no tab and no silence timer is due (R14, R154, R168). -/
theorem sweepExpiries_later {s : State} (hs : s.timersGood) :
    (∀ slot, (sweepExpiries s).reservationLater slot) ∧ (∀ entry, (sweepExpiries s).tabLater entry) ∧
      (∀ p, (sweepExpiries s).silenceLater p) ∧ (sweepExpiries s).timersGood := by
  have hk {u v : State} (h : Deeds u v) (hu : u.timersGood) : v.timersGood :=
    h.keeps (fun _ _ => Deed.keeps_timersGood) hu
  unfold sweepExpiries
  -- the reservations
  obtain ⟨s1, hs1⟩ : ∃ s1, s1 = forEach expireReservation (Table.keys s.store.records) s := ⟨_, rfl⟩
  have h1 : s1.timersGood := hs1 ▸ hk (forEach_deeds expireReservation_deeds _ _) hs
  have r1 : ∀ slot, s1.reservationLater slot := by
    rw [hs1]
    refine forEach_each (I := fun _ => True) (fun _ _ _ => trivial) (fun a s _ => expireReservation_later a s)
      (fun a b s _ => expireReservation_keeps_later a b s) trivial fun slot => ?_
    cases hr : s.record slot with
    | none => exact .inr (by simp [State.reservationLater, hr])
    | some r => exact .inl (Table.mem_keys_of_find hr)
  have e1 : s1.tabs = s.tabs := by
    rw [hs1]
    refine forEach_keeps (P := fun t => t.tabs = s.tabs) (fun a t ht => ?_) _ rfl
    rcases expireReservation_cases a t with ⟨r, v, -, -, -, he⟩ | ⟨-, he⟩ <;> rw [he]
    · simpa using ht
    · exact ht
  rw [← hs1]
  -- the tabs
  obtain ⟨s2, hs2⟩ : ∃ s2, s2 = forEach expireTab (Table.keys s.tabs.entries) s1 := ⟨_, rfl⟩
  have h2 : s2.timersGood := hs2 ▸ hk (forEach_deeds expireTab_deeds _ _) h1
  have r2 : ∀ slot, s2.reservationLater slot := fun slot =>
    hs2 ▸ forEach_keeps (P := fun t => t.reservationLater slot)
      (fun a t => reservationLater_congr (by simp [State.record, expireTab_store]) (by rw [expireTab_clock])) _ (r1 slot)
  have t2 : ∀ entry, s2.tabLater entry := by
    have hwf (t : State) (ht : t.timersGood) : Table.wf t.tabs.entries = true := ht.2.1
    rw [hs2]
    refine forEach_each (I := State.timersGood) (fun a t => hk (expireTab_deeds a t))
      (fun a t ht => expireTab_later a (hwf t ht)) (fun a b t ht => expireTab_keeps_later a b (hwf t ht)) h1
      fun entry => ?_
    cases ht : s.tabs.entries.find entry with
    | none => exact .inr (by simp [State.tabLater, e1, ht])
    | some t => exact .inl (Table.mem_keys_of_find ht)
  rw [← hs2]
  -- the silence timers
  refine ⟨fun slot => ?_, fun entry => ?_, ?_, hk (forEach_deeds (fun p s => .port (.expireSilence p s)) _ _) h2⟩
  · exact forEach_keeps (P := fun t => t.reservationLater slot)
      (fun p t => reservationLater_congr ((PortsOnly.expireSilence p t).record slot)
        (PortsOnly.expireSilence p t).runTime) _ (r2 slot)
  · exact forEach_keeps (P := fun t => t.tabLater entry)
      (fun p t => tabLater_congr (PortsOnly.expireSilence p t).entries (PortsOnly.expireSilence p t).runTime) _ (t2 entry)
  · exact forEach_each (I := State.silencesAhead) (fun p _ => expireSilence_silencesAhead p)
      (fun p _ => expireSilence_later p) (fun p q _ => expireSilence_keeps_later p q) h2.silencesAhead
      fun p => .inl (List.mem_finRange p)

/-- After the sweep nothing is due: each timer that runs ends later (R75; log 3). -/
theorem sweep_later {s : State} (hs : s.timersGood) :
    (∀ slot, (sweep s).reservationLater slot) ∧ (∀ entry, (sweep s).tabLater entry) ∧
      (∀ p, (sweep s).silenceLater p) ∧ (sweep s).watchdogLater ∧ (sweep s).lineLater := by
  have h0 : (sweepLinks s).timersGood :=
    (sweepLinks_deeds s).keeps (fun _ _ => Deed.keeps_timersGood) hs
  unfold sweep
  obtain ⟨hr, ht, hp, h3⟩ := sweepExpiries_later h0
  generalize sweepExpiries (sweepLinks s) = u at hr ht hp h3
  have hd := expireWatchdog_later h3
  have hw : (∀ slot, (expireWatchdog u).reservationLater slot) ∧ (∀ entry, (expireWatchdog u).tabLater entry) ∧
      ∀ p, (expireWatchdog u).silenceLater p := by
    rcases expireWatchdog_cases h3 with ⟨e, he⟩ | ⟨-, he⟩ <;> rw [he] <;> exact ⟨hr, ht, hp⟩
  obtain ⟨hr, ht, hp⟩ := hw
  generalize expireWatchdog u = w at hr ht hp hd
  have ha : Aside w (endHoldoff (endPulse w)) := (Aside.endPulse w).trans (Aside.endHoldoff _)
  refine ⟨fun slot => reservationLater_congr (ha.record slot) ha.runTime (hr slot),
    fun entry => tabLater_congr ha.entries ha.runTime (ht entry),
    fun p => silenceLater_congr (ha.port p) ha.runTime (hp p), ?_, endHoldoff_lineLater (endPulse_line w)⟩
  unfold State.watchdogLater
  rw [ha.watchdog, ha.runTime]
  exact hd

/-! ### The tick -/

/-- Run time moves on by at most one second (R75; log 5). -/
theorem nextSecond_le (n : Nat) : nextSecond n ≤ n + 1 := by
  unfold nextSecond
  split
  · exact le_refl _
  · have := Config.runTimeAfterTop.isLt
    omega

theorem tick_runTime_le (s : State) : (tick s).clock.runTime ≤ s.clock.runTime + 1 := by
  simp only [tick, TimeBase.tick]
  split
  · exact Nat.le_succ _
  · exact nextSecond_le _

/-- The moment moves on by at most a millisecond past a whole second (R75). -/
theorem tick_moment_le (s : State) : (tick s).moment ≤ s.moment + 1 := by
  simp only [State.moment, tick, TimeBase.tick]
  split
  · simp only
    omega
  · have := nextSecond_le s.clock.runTime
    simp only
    omega

/-- A tick with nothing due passes no timer. -/
theorem tick_timersGood {s : State} (hs : s.timersGood) (hr : ∀ slot, s.reservationLater slot)
    (ht : ∀ entry, s.tabLater entry) (hp : ∀ p, s.silenceLater p) (hd : s.watchdogLater) (hl : s.lineLater) :
    (tick s).timersGood := by
  obtain ⟨hw, hwt, -, -, hsil, hdog, -⟩ := hs
  have hle := tick_runTime_le s
  have hmo := tick_moment_le s
  refine ⟨hw, hwt, fun slot r v h1 h2 => ?_, fun entry t h1 => ?_, fun p e he => ⟨(hsil p e he).1, ?_⟩,
    fun e he => ⟨(hdog e he).1, ?_⟩, ?_⟩
  · exact hle.trans (hr slot r v h1 h2)
  · exact hle.trans (ht entry t h1)
  · exact hle.trans (hp p e he)
  · exact hle.trans (hd e he)
  · rw [State.lineAhead_iff]
    have hline : (tick s).notice.line = s.notice.line := rfl
    rw [hline]
    cases hc : s.notice.line with
    | negated | asserted => trivial
    | pulse e => exact hmo.trans (hl e (.inl hc))
    | holdoff e => exact hmo.trans (hl e (.inr hc))

theorem advance_timersGood {s : State} (hs : s.timersGood) : (advance (sweep s)).timersGood := by
  obtain ⟨hr, ht, hp, hd, hl⟩ := sweep_later hs
  have h1 : (tick (sweep s)).timersGood :=
    tick_timersGood ((sweep_deeds s).keeps (fun _ _ => Deed.keeps_timersGood) hs) hr ht hp hd hl
  rcases advance_cases (sweep s) with ⟨-, he⟩ | ⟨-, he⟩ <;> rw [he]
  · exact h1
  · exact (rolloverTest_deeds _).keeps (fun _ _ => Deed.keeps_timersGood) h1

/-- Settles O10: every deed leaves the timers ahead, and the advance of time takes all that is due first. -/
theorem stepPassesNoTimer : Obligations.StepPassesNoTimer := fun _ _ hs h =>
  step_keeps (fun _ _ => Deed.keeps_timersGood) (fun _ => advance_timersGood) hs h

end Sys2Proof.Machine
end

section
/-! O8: the records keep their fields together, and the credential index and the occupant lists agree with them. -/

namespace Sys2Proof.Machine

/-- A law of the record store and the cabins that every deed on them keeps, and that holds at reset, is kept by every
step. -/
theorem step_keeps_tables {P : State → Prop}
    (hcongr : ∀ s t : State, t.store = s.store → t.access.cabins = s.access.cabins → P s → P t) (hreset : P State.reset)
    (htable : ∀ s t, TableDeed s t → P s → P t) {s t : State} (hs : P s) (h : step s = .next t) : P t := by
  refine step_keeps_of_tick (fun u v hd hu => ?_) (fun u hu => hcongr u _ rfl rfl hu) hs h
  cases hd with
  | aside h => exact hcongr u v h.store h.cabins hu
  | port h => exact hcongr u v h.portsOnly.store h.portsOnly.cabins hu
  | table h => exact htable u v h hu
  | expireWatchdog =>
    have h := expireWatchdog_frame u
    exact hcongr u _ h.store h.cabins hu
  | powerOn => exact hcongr State.reset _ rfl rfl hreset
  | transact | restartWatchdog | serve | emptyReporting | thinWatch | joinWatch | openTab | freeTab =>
    exact hcongr u _ rfl rfl hu

/-! ### Ordered checks -/

/-- A request passes a check and those after it. -/
theorem check_none_iff {α : Type} {p : Prop} [Decidable p] {x : α} {o : Option α} :
    (if p then some x else o) = none ↔ ¬ p ∧ o = none := by
  split <;> simp [*]

/-- The first check that fails decides, where the rest of the checks decide as the rest of the list. -/
theorem check_of_firstRefusal {α : Type} {p q : Prop} [Decidable p] {x c : α} {o : Option α} {rest : List (Prop × α)}
    (hp : p ↔ q) (h : firstRefusal ((q, x) :: rest) c) (ho : firstRefusal rest c → o = some c) :
    (if p then some x else o) = some c := by
  rcases h with ⟨hq, rfl⟩ | ⟨hq, h⟩
  · rw [if_pos (hp.mpr hq)]
  · rw [if_neg (mt hp.mp hq), ho h]

/-! ### Records -/

theorem State.recordsGood_congr {s t : State} (h : t.store.records = s.store.records) (hs : s.recordsGood) :
    t.recordsGood := by
  unfold State.recordsGood State.record at *
  rwa [h]

theorem State.recordsGood_put {s t : State} {slot : Nat} {r : Record}
    (h : t.store.records = s.store.records.put slot r) (hg : r.good) (hs : s.recordsGood) : t.recordsGood := by
  obtain ⟨hw, hall⟩ := hs
  refine ⟨h ▸ Table.wf_put _ _ hw, fun k r' hr => ?_⟩
  rw [State.record, h, Table.find_put] at hr
  split at hr
  · cases hr
    exact hg
  · exact hall k r' hr

theorem issuedRecord_good {q : IssueFields} (h : q.role ≠ none ↔ q.cls = .crew) : (issuedRecord q).good :=
  ⟨by simp [issuedRecord], by simp [issuedRecord], h, by simp [issuedRecord], by simp [issuedRecord],
    by simp [issuedRecord], by simp [issuedRecord]⟩

theorem State.isRevoked_iff {s : State} {n : Nat} :
    s.isRevoked n = true ↔ ∃ v ∈ s.store.revoked, v.number = n := by
  simp [State.isRevoked]

/-- What passes the ordered checks of RESERVE_CREDENTIAL (R10). -/
theorem reserveRefusal_none_iff {q : ReserveFields} {r : Record} {s : State} :
    reserveRefusal q r s = none ↔
      s.store.index.find q.number = none ∧ (∀ v ∈ s.store.revoked, v.number ≠ q.number) ∧
        (∀ n, q.replaces = some n → r.holds n = true) ∧ r.reservation = none ∧
        (r.credentials.length < 2 ∨ q.replaces ≠ none) ∧ s.store.index.length < Config.indexSize := by
  have hrep : ¬ (q.replaces.any fun n => !r.holds n) = true ↔ ∀ n, q.replaces = some n → r.holds n = true := by
    cases q.replaces <;> simp
  have hroom : ¬ (2 ≤ r.credentials.length ∧ q.replaces = none) ↔ r.credentials.length < 2 ∨ q.replaces ≠ none := by
    rw [not_and_or, Nat.not_le]
  simp only [reserveRefusal, check_none_iff, hrep, hroom, State.isRevoked_iff, Option.not_isSome_iff_eq_none,
    not_exists, not_and, ne_eq, Nat.not_le, and_true]

theorem Record.reserved_good {r : Record} {v : Reservation} (hn : ∀ n, v.replaces = some n → r.holds n = true)
    (hl : r.credentials.length < 2 ∨ v.replaces ≠ none) (hg : r.good) :
    Record.good { r with reservation := some v } := by
  obtain ⟨g1, g2, g3, g4, g5, g6, -⟩ := hg
  refine ⟨g1, g2, g3, g4, g5, g6, ?_⟩
  rintro _ ⟨⟩ h2
  rcases hl with hl | hl
  · simp only at h2
    omega
  · obtain ⟨n, hv⟩ := Option.ne_none_iff_exists'.mp hl
    exact ⟨n, hv, hn n hv⟩

theorem Record.unreserved_good {r : Record} (hg : r.good) : Record.good { r with reservation := none } := by
  obtain ⟨g1, g2, g3, g4, g5, g6, -⟩ := hg
  exact ⟨g1, g2, g3, g4, g5, g6, by simp⟩

/-- With no credential to be replaced the list has room for the confirmed one (R11, R12). -/
theorem Record.confirmed_good {r : Record} {v : Reservation} (hv : r.reservation = some v)
    (hn : replacedNow r v = none) (hg : r.good) :
    Record.good
      { r with credentials := r.credentials ++ [{ number := v.number, kind := v.kind }], reservation := none } := by
  obtain ⟨g1, g2, g3, g4, g5, g6, g7⟩ := hg
  refine ⟨g1, g2, g3, g4, g5, ?_, by simp⟩
  have h2 : r.credentials.length ≠ 2 := by
    intro h2
    obtain ⟨n, hrep, hold⟩ := g7 v hv h2
    simp [replacedNow, hrep, hold] at hn
  simp only [List.length_append, List.length_singleton]
  omega

/-- A credential taken out of the list leaves room, and one that is not in it changes nothing (R5). -/
theorem Record.revoked_good {r : Record} (n : Nat) (hg : r.good) :
    Record.good { r with credentials := r.credentials.filter fun c => decide (c.number ≠ n) } := by
  obtain ⟨g1, g2, g3, g4, g5, g6, g7⟩ := hg
  have hle : (r.credentials.filter fun c => decide (c.number ≠ n)).length ≤ r.credentials.length :=
    List.length_filter_le _ _
  refine ⟨g1, g2, g3, g4, g5, hle.trans g6, fun v hv h2 => ?_⟩
  have hsame : (r.credentials.filter fun c => decide (c.number ≠ n)) = r.credentials :=
    List.filter_sublist.eq_of_length (by simp only at h2; omega)
  obtain ⟨m, hm, hold⟩ := g7 v hv (by simp only [hsame] at h2; exact h2)
  exact ⟨m, hm, by rw [Record.holds_congr (r := r) hsame]; exact hold⟩

/-- What passes the ordered checks of ASSIGN_CABIN (R31). -/
theorem assignRefusal_none {r : Record} {n : Nat} {s : State} (h : assignRefusal r n s = none) :
    r.names n = false ∧ (s.cabin n).occupants.length < Config.cabinOccupants ∧
      (r.homeCabin = none ∨ r.secondCabin = none) := by
  simp only [assignRefusal, check_none_iff, Bool.not_eq_true, Nat.not_le, not_and_or, Option.isSome_eq_false_iff,
    Option.isNone_iff_eq_none, and_true] at h
  exact h

theorem Record.names_iff {r : Record} {n : Nat} :
    r.names n = true ↔ r.homeCabin = some n ∨ r.secondCabin = some n := by
  simp [Record.names]

/-- A record of good order that has no home has no second cabin (R29). -/
theorem Record.good.second_none {r : Record} (hg : r.good) (h : r.homeCabin = none) : r.secondCabin = none := by
  obtain ⟨-, -, -, g4, -, -, -⟩ := hg
  by_contra hc
  exact (g4 hc).1 h

theorem Record.assigned_good {r : Record} {n : Nat} (hn : r.names n = false) (hg : r.good) : (r.assigned n).good := by
  have hsec := hg.second_none
  obtain ⟨g1, g2, g3, g4, g5, g6, g7⟩ := hg
  have hne : r.homeCabin ≠ some n := fun hc => by simp [Record.names, hc] at hn
  unfold Record.assigned
  split
  · rename_i hh
    exact ⟨g1, g2, g3, by simp [hsec (by simpa using hh)], g5, g6, g7⟩
  · rename_i hh
    exact ⟨g1, g2, g3, fun _ => ⟨by simpa [Option.isNone_iff_eq_none] using hh, hne.symm⟩, g5, g6, g7⟩

theorem Record.vacated_good {r : Record} (n : Nat) (hg : r.good) : (r.vacated n).good := by
  obtain ⟨g1, g2, g3, g4, g5, g6, g7⟩ := hg
  unfold Record.vacated
  split
  · exact ⟨g1, g2, g3, by simp, g5, g6, g7⟩
  · exact ⟨g1, g2, g3, by simp, g5, g6, g7⟩

theorem TableDeed.keeps_recordsGood {s t : State} (h : TableDeed s t) (hs : s.recordsGood) : t.recordsGood := by
  obtain ⟨hw, hall⟩ := id hs
  cases h with
  | editRecord _ slot r r' h hk => exact State.recordsGood_put rfl (hk.good (hall slot r h)) hs
  | mapRecords _ f hk =>
    refine ⟨Table.wf_mapValues f hw, fun k r' hr => ?_⟩
    simp only [State.record, Table.find_mapValues, Option.map_eq_some_iff] at hr
    obtain ⟨r, hr, rfl⟩ := hr
    exact (hk r).good (hall k r hr)
  | issue _ slot q _ hr => exact State.recordsGood_put rfl (issuedRecord_good hr) hs
  | reserve q r _ h hr =>
    obtain ⟨-, -, hn, -, hl, -⟩ := reserveRefusal_none_iff.mp hr
    exact State.recordsGood_put rfl (Record.reserved_good hn hl (hall _ r h)) hs
  | confirm slot r v _ h hv hn =>
    simp only [confirmInto, h]
    exact State.recordsGood_put rfl (Record.confirmed_good hv hn (hall slot r h)) hs
  | endReservation slot r v _ h =>
    exact State.recordsGood_put (by rw [endReservation_store]) (Record.unreserved_good (hall slot r h)) hs
  | revoke slot n reason =>
    cases hr : s.record slot with
    | none => exact State.recordsGood_congr (by rw [revoke_store_free n reason hr]) hs
    | some r =>
      exact State.recordsGood_put (by rw [revoke_store n reason hr]) (Record.revoked_good n (hall slot r hr)) hs
  | removeRevoked => exact State.recordsGood_congr rfl hs
  | retire slot r =>
    refine ⟨retire_wf hw, fun k r' hr => ?_⟩
    rw [retire_record hw] at hr
    split at hr
    · cases hr
    · exact hall k r' hr
  | assign slot n r _ h hr =>
    exact State.recordsGood_put rfl (Record.assigned_good (assignRefusal_none hr).1 (hall slot r h)) hs
  | vacate slot n r _ h => exact State.recordsGood_put rfl (Record.vacated_good n (hall slot r h)) hs
  | editCabin => exact State.recordsGood_congr rfl hs

theorem reset_recordsGood : State.reset.recordsGood := ⟨rfl, by simp [State.record, State.reset]⟩

/-! ### The credential index -/

/-- The numbers of the credentials list of a slot; a FREE slot has none. -/
def State.numbersOf (s : State) (slot : Nat) : List Nat :=
  ((s.record slot).map fun r => r.credentials.map Credential.number).getD []

/-- The number reserved on the record of a slot. -/
def State.reservedOf (s : State) (slot : Nat) : Option Nat :=
  ((s.record slot).bind Record.reservation).map Reservation.number

theorem Record.holds_iff {r : Record} {n : Nat} : r.holds n = true ↔ n ∈ r.credentials.map Credential.number := by
  simp [Record.holds]

/-- The index agrees with the records, in terms of the numbers of each slot. -/
theorem State.credentialsGood_iff (s : State) : s.credentialsGood ↔
    Table.wf s.store.records = true ∧ Table.wf s.store.index = true ∧ s.store.index.length ≤ Config.indexSize ∧
      (∀ n slot, s.store.index.find n = some { slot := slot, status := .active } ↔ n ∈ s.numbersOf slot) ∧
      (∀ n slot, s.store.index.find n = some { slot := slot, status := .pending } ↔ s.reservedOf slot = some n) ∧
      ∀ slot, (s.numbersOf slot).Nodup := by
  have hact : ∀ n slot, (∃ r, s.record slot = some r ∧ r.holds n = true) ↔ n ∈ s.numbersOf slot := by
    intro n slot
    unfold State.numbersOf
    cases s.record slot with
    | none => simp
    | some r => simp [Record.holds]
  have hpen : ∀ n slot, (∃ r v, s.record slot = some r ∧ r.reservation = some v ∧ v.number = n) ↔
      s.reservedOf slot = some n := by
    intro n slot
    unfold State.reservedOf
    cases s.record slot <;> simp
  have hnod : (∀ slot r, s.record slot = some r → (r.credentials.map Credential.number).Nodup) ↔
      ∀ slot, (s.numbersOf slot).Nodup := by
    refine forall_congr' fun slot => ?_
    unfold State.numbersOf
    cases s.record slot <;> simp
  simp only [State.credentialsGood, hact, hpen, hnod]

/-- A change of the records that leaves the numbers of every slot, and the index, as they were. -/
theorem State.credentialsGood_congr {s t : State} (hi : t.store.index = s.store.index)
    (hw : Table.wf t.store.records = true) (hn : ∀ k, t.numbersOf k = s.numbersOf k)
    (hv : ∀ k, t.reservedOf k = s.reservedOf k) (hs : s.credentialsGood) : t.credentialsGood := by
  rw [State.credentialsGood_iff] at hs ⊢
  obtain ⟨-, hwi, hlen, hact, hpen, hnod⟩ := hs
  simp only [hi, hn, hv]
  exact ⟨hw, hwi, hlen, hact, hpen, hnod⟩

section
variable {s t : State} {slot : Nat} {r r' : Record}

theorem numbersOf_put (h : t.store.records = s.store.records.put slot r') (k : Nat) :
    t.numbersOf k = if k = slot then r'.credentials.map Credential.number else s.numbersOf k := by
  simp only [State.numbersOf, State.record, h, Table.find_put]
  split <;> simp

theorem reservedOf_put (h : t.store.records = s.store.records.put slot r') (k : Nat) :
    t.reservedOf k = if k = slot then r'.reservation.map Reservation.number else s.reservedOf k := by
  simp only [State.reservedOf, State.record, h, Table.find_put]
  split <;> simp

theorem numbersOf_eq (h : s.record slot = some r) : s.numbersOf slot = r.credentials.map Credential.number := by
  simp [State.numbersOf, h]

theorem reservedOf_eq (h : s.record slot = some r) : s.reservedOf slot = r.reservation.map Reservation.number := by
  simp [State.reservedOf, h]

/-- One record rewritten with its numbers kept. -/
theorem State.credentialsGood_put (h : t.store.records = s.store.records.put slot r')
    (hi : t.store.index = s.store.index) (hn : r'.credentials.map Credential.number = s.numbersOf slot)
    (hv : r'.reservation.map Reservation.number = s.reservedOf slot) (hs : s.credentialsGood) : t.credentialsGood := by
  have hw : Table.wf s.store.records = true := hs.1
  refine State.credentialsGood_congr hi (h ▸ Table.wf_put _ _ hw) (fun k => ?_) (fun k => ?_) hs
  · rw [numbersOf_put h]
    split
    · rw [hn, ‹k = slot›]
    · rfl
  · rw [reservedOf_put h]
    split
    · rw [hv, ‹k = slot›]
    · rfl

end

theorem reserved_credentialsGood {q : ReserveFields} {r : Record} {s : State} (h : s.record q.slot = some r)
    (hr : reserveRefusal q r s = none) (hs : s.credentialsGood) : (reserved q r s).credentialsGood := by
  obtain ⟨hfree, -, -, hnone, -, hroom⟩ := reserveRefusal_none_iff.mp hr
  rw [State.credentialsGood_iff] at hs ⊢
  obtain ⟨hw, hwi, hlen, hact, hpen, hnod⟩ := hs
  have hrec : (reserved q r s).store.records = s.store.records.put q.slot _ := rfl
  have hnum : ∀ k, (reserved q r s).numbersOf k = s.numbersOf k := by
    intro k
    rw [numbersOf_put hrec]
    split
    · rw [‹k = q.slot›, numbersOf_eq h]
    · rfl
  have hres : ∀ k, (reserved q r s).reservedOf k = if k = q.slot then some q.number else s.reservedOf k :=
    fun k => reservedOf_put hrec k
  have hidx : (reserved q r s).store.index = s.store.index.put q.number { slot := q.slot, status := .pending } := rfl
  refine ⟨hrec ▸ Table.wf_put _ _ hw, hidx ▸ Table.wf_put _ _ hwi, ?_, fun n k => ?_, fun n k => ?_, fun k => ?_⟩
  · rw [hidx]
    exact (Table.length_put_le _ _ _).trans hroom
  · rw [hidx, Table.find_put, hnum, ← hact]
    split
    · simp [‹n = q.number›, hfree]
    · rfl
  · have hold : s.reservedOf q.slot = none := by simp [reservedOf_eq h, hnone]
    rw [hidx, Table.find_put, hres]
    by_cases hn : n = q.number <;> by_cases hk : k = q.slot
    · simp [hn, hk]
    · simpa [hn, hk, Ne.symm hk, hfree] using hpen q.number k
    · simpa [hn, hk, Ne.symm hn, hold] using hpen n q.slot
    · simpa [hn, hk] using hpen n k
  · rw [hnum]
    exact hnod k

theorem confirmInto_credentialsGood {slot : Nat} {r : Record} {v : Reservation} {s : State}
    (h : s.record slot = some r) (hv : r.reservation = some v) (hs : s.credentialsGood) :
    (confirmInto slot v s).credentialsGood := by
  rw [State.credentialsGood_iff] at hs
  obtain ⟨hw, hwi, hlen, hact, hpen, hnod⟩ := hs
  have hown : s.reservedOf slot = some v.number := by simp [reservedOf_eq h, hv]
  have hfind := (hpen v.number slot).mpr hown
  have hnew : ∀ k, v.number ∉ s.numbersOf k := fun k hk => by
    have := (hact v.number k).mpr hk
    simp [hfind] at this
  obtain ⟨t, ht⟩ : ∃ t, t = confirmInto slot v s := ⟨_, rfl⟩
  have hrec : t.store.records = s.store.records.put slot
      { r with credentials := r.credentials ++ [{ number := v.number, kind := v.kind }], reservation := none } := by
    simp [ht, confirmInto, h]
  have hidx : t.store.index = s.store.index.put v.number { slot := slot, status := .active } := by
    simp [ht, confirmInto, h]
  have hnum : ∀ k, t.numbersOf k = if k = slot then s.numbersOf slot ++ [v.number] else s.numbersOf k := by
    intro k
    rw [numbersOf_put hrec, numbersOf_eq h]
    simp
  have hres : ∀ k, t.reservedOf k = if k = slot then none else s.reservedOf k := fun k => reservedOf_put hrec k
  rw [← ht, State.credentialsGood_iff]
  refine ⟨hrec ▸ Table.wf_put _ _ hw, hidx ▸ Table.wf_put _ _ hwi, ?_, fun n k => ?_, fun n k => ?_, fun k => ?_⟩
  · rw [hidx, Table.length_put_of_find _ hwi (by simp [hfind])]
    exact hlen
  · rw [hidx, Table.find_put, hnum]
    by_cases hn : n = v.number <;> by_cases hk : k = slot
    · simp [hn, hk]
    · simp [hn, hk, Ne.symm hk, hnew k]
    · simpa [hn, hk] using hact n slot
    · simpa [hn, hk] using hact n k
  · rw [hidx, Table.find_put, hres]
    by_cases hn : n = v.number <;> by_cases hk : k = slot
    · simp [hn, hk]
    · have := hpen v.number k
      simp only [hfind, Option.some.injEq, IndexEntry.mk.injEq, and_true] at this
      simpa [hn, hk] using fun hc => hk (this.mpr hc).symm
    · have := hpen n slot
      simp only [hown, Option.some.injEq] at this
      simpa [hn, hk] using fun hc => hn (this.mp hc).symm
    · simpa [hn, hk] using hpen n k
  · rw [hnum]
    split
    · exact (hnod slot).append (by simp) (by simpa using hnew slot)
    · exact hnod k

theorem endReservation_credentialsGood {slot : Nat} {r : Record} {v : Reservation} {s : State}
    (h : s.record slot = some r) (hv : r.reservation = some v) (hs : s.credentialsGood) :
    (endReservation slot r v s).credentialsGood := by
  rw [State.credentialsGood_iff] at hs ⊢
  obtain ⟨hw, hwi, hlen, hact, hpen, hnod⟩ := hs
  have hown : s.reservedOf slot = some v.number := by simp [reservedOf_eq h, hv]
  have hfind := (hpen v.number slot).mpr hown
  have hrec : (endReservation slot r v s).store.records = s.store.records.put slot { r with reservation := none } := by
    rw [endReservation_store]
  have hidx : (endReservation slot r v s).store.index = s.store.index.drop v.number := by rw [endReservation_store]
  have hnum : ∀ k, (endReservation slot r v s).numbersOf k = s.numbersOf k := by
    intro k
    rw [numbersOf_put hrec]
    split
    · rw [‹k = slot›, numbersOf_eq h]
    · rfl
  have hres : ∀ k, (endReservation slot r v s).reservedOf k = if k = slot then none else s.reservedOf k :=
    fun k => reservedOf_put hrec k
  refine ⟨hrec ▸ Table.wf_put _ _ hw, hidx ▸ Table.wf_drop _ hwi, ?_, fun n k => ?_, fun n k => ?_, fun k => ?_⟩
  · rw [hidx]
    exact (Table.length_drop_le _ _).trans hlen
  · rw [hidx, Table.find_drop _ _ hwi, hnum, ← hact]
    split
    · simp [‹n = v.number›, hfind]
    · rfl
  · rw [hidx, Table.find_drop _ _ hwi, hres]
    by_cases hn : n = v.number <;> by_cases hk : k = slot
    · simp [hn, hk]
    · have := hpen v.number k
      simp only [hfind, Option.some.injEq, IndexEntry.mk.injEq, and_true] at this
      simpa [hn, hk] using fun hc => hk (this.mpr hc).symm
    · have := hpen n slot
      simp only [hown, Option.some.injEq] at this
      simpa [hn, hk] using fun hc => hn (this.mp hc).symm
    · simpa [hn, hk] using hpen n k
  · rw [hnum]
    exact hnod k

theorem revoke_credentialsGood {slot n : Nat} {s : State} (reason : RevocationReason) (hin : n ∈ s.numbersOf slot)
    (hs : s.credentialsGood) : (revoke slot n reason s).credentialsGood := by
  rw [State.credentialsGood_iff] at hs ⊢
  obtain ⟨hw, hwi, hlen, hact, hpen, hnod⟩ := hs
  have hfind := (hact n slot).mpr hin
  obtain ⟨r, h⟩ : ∃ r, s.record slot = some r := by
    cases h : s.record slot with
    | none => simp [State.numbersOf, h] at hin
    | some r => exact ⟨r, rfl⟩
  have hrec : (revoke slot n reason s).store.records = s.store.records.put slot
      { r with credentials := r.credentials.filter fun c => decide (c.number ≠ n) } := by
    rw [revoke_store n reason h]
  have hidx := revoke_index slot n reason s
  have hnum : ∀ k, (revoke slot n reason s).numbersOf k =
      if k = slot then (s.numbersOf slot).filter fun m => decide (m ≠ n) else s.numbersOf k := by
    intro k
    rw [numbersOf_put hrec, numbersOf_eq h, List.filter_map]
    rfl
  have hres : ∀ k, (revoke slot n reason s).reservedOf k = s.reservedOf k := by
    intro k
    rw [reservedOf_put hrec]
    split
    · rw [‹k = slot›, reservedOf_eq h]
    · rfl
  refine ⟨hrec ▸ Table.wf_put _ _ hw, hidx ▸ Table.wf_drop _ hwi, ?_, fun m k => ?_, fun m k => ?_, fun k => ?_⟩
  · rw [hidx]
    exact (Table.length_drop_le _ _).trans hlen
  · rw [hidx, Table.find_drop _ _ hwi, hnum]
    by_cases hn : m = n <;> by_cases hk : k = slot
    · simp [hn, hk]
    · have := hact n k
      simp only [hfind, Option.some.injEq, IndexEntry.mk.injEq, and_true] at this
      simpa [hn, hk] using fun hc => hk (this.mpr hc).symm
    · simpa [hn, hk] using hact m slot
    · simpa [hn, hk] using hact m k
  · rw [hidx, Table.find_drop _ _ hwi, hres, ← hpen]
    split
    · simp [‹m = n›, hfind]
    · rfl
  · rw [hnum]
    split
    · exact (hnod slot).filter _
    · exact hnod k

/-- The revocation of credentials of a record, each number once (R18). -/
theorem revokeAll_credentialsGood {slot : Nat} {l : List Credential} {s : State}
    (hl : (l.map Credential.number).Nodup) (hin : ∀ c ∈ l, c.number ∈ s.numbersOf slot) (hs : s.credentialsGood) :
    (revokeAll slot l s).credentialsGood := by
  induction l generalizing s with
  | nil => exact hs
  | cons c l ih =>
    obtain ⟨hc, hl⟩ := List.nodup_cons.mp hl
    have h1 := hin c List.mem_cons_self
    refine ih hl (fun d hd => ?_) (revoke_credentialsGood .retired h1 hs)
    have hne : d.number ≠ c.number := fun he => hc (he ▸ List.mem_map_of_mem hd)
    have h2 := hin d (List.mem_cons_of_mem _ hd)
    cases hr : s.record slot with
    | none => simp [State.numbersOf, hr] at h2
    | some r =>
      rw [numbersOf_eq hr] at h2
      rw [numbersOf_eq (revoke_record .retired hr)]
      simp only [List.mem_map, List.mem_filter, decide_eq_true_eq] at h2 ⊢
      obtain ⟨e, he, hed⟩ := h2
      exact ⟨e, ⟨he, hed ▸ hne⟩, hed⟩

theorem retireCredentials_credentialsGood {slot : Nat} {r : Record} {s : State} (h : s.record slot = some r)
    (hs : s.credentialsGood) : (retireCredentials slot r s).credentialsGood := by
  have hnod : (r.credentials.map Credential.number).Nodup := by
    obtain ⟨-, -, -, -, -, hnod⟩ := hs
    exact hnod slot r h
  have h1 := revokeAll_credentialsGood hnod
    (fun c hc => by rw [numbersOf_eq h]; exact List.mem_map_of_mem hc) hs
  rw [retireCredentials_eq h]
  split
  · exact endReservation_credentialsGood (revokeAll_own h) ‹_› h1
  · exact h1

theorem retire_credentialsGood {slot : Nat} {r : Record} {s : State} (h : s.record slot = some r)
    (hs : s.credentialsGood) : (retire slot r s).credentialsGood := by
  have hw : Table.wf s.store.records = true := hs.1
  have h1 := retireCredentials_credentialsGood h hs
  have hown := retireCredentials_record h
  have hrec : ∀ k, k ≠ slot → (retire slot r s).record k = (retireCredentials slot r s).record k := fun k hk => by
    rw [retire_record hw, if_neg hk, retireCredentials_record_other r s hk]
  have hnone : (retire slot r s).record slot = none := by rw [retire_record hw, if_pos rfl]
  refine State.credentialsGood_congr (by simp [retire_eq]) (retire_wf hw) (fun k => ?_) (fun k => ?_) h1 <;>
    by_cases hk : k = slot
  · subst hk
    simp [State.numbersOf, hnone, hown]
  · simp [State.numbersOf, hrec k hk]
  · subst hk
    simp [State.reservedOf, hnone, hown]
  · simp [State.reservedOf, hrec k hk]

theorem TableDeed.keeps_credentialsGood {s t : State} (h : TableDeed s t) (hs : s.credentialsGood) :
    t.credentialsGood := by
  have hw : Table.wf s.store.records = true := hs.1
  cases h with
  | editRecord _ slot r r' h hk =>
    exact State.credentialsGood_put rfl rfl (by rw [hk.credentials, numbersOf_eq h])
      (by rw [hk.reservation, reservedOf_eq h]) hs
  | mapRecords _ f hk =>
    refine State.credentialsGood_congr (s := s) rfl (Table.wf_mapValues f hw) (fun k => ?_) (fun k => ?_) hs
    · simp only [State.numbersOf, State.record, Table.find_mapValues, Option.map_map]
      congr 2
      funext r
      simp [(hk r).credentials]
    · simp only [State.reservedOf, State.record, Table.find_mapValues]
      cases s.store.records.find k with
      | none => rfl
      | some r => simp [(hk r).reservation]
  | issue _ slot q hf =>
    exact State.credentialsGood_put rfl rfl (by simp [issuedRecord, State.numbersOf, hf])
      (by simp [issuedRecord, State.reservedOf, hf]) hs
  | reserve q r _ h hr => exact reserved_credentialsGood h hr hs
  | confirm slot r v _ h hv => exact confirmInto_credentialsGood h hv hs
  | endReservation slot r v _ h hv => exact endReservation_credentialsGood h hv hs
  | revoke slot n reason _ h =>
    refine revoke_credentialsGood reason ?_ hs
    obtain ⟨-, -, -, hact, -, -⟩ := (State.credentialsGood_iff s).mp hs
    rcases h with h | ⟨r, h, hold⟩
    · exact (hact n slot).mp h
    · rw [numbersOf_eq h]
      exact Record.holds_iff.mp hold
  | removeRevoked => exact State.credentialsGood_congr rfl hw (fun _ => rfl) (fun _ => rfl) hs
  | retire slot r _ h => exact retire_credentialsGood h hs
  | assign slot n r _ h =>
    refine State.credentialsGood_put rfl rfl ?_ ?_ hs
    · rw [numbersOf_eq h]
      unfold Record.assigned
      split <;> rfl
    · rw [reservedOf_eq h]
      unfold Record.assigned
      split <;> rfl
  | vacate slot n r _ h =>
    refine State.credentialsGood_put rfl rfl ?_ ?_ hs
    · rw [numbersOf_eq h]
      unfold Record.vacated
      split <;> rfl
    · rw [reservedOf_eq h]
      unfold Record.vacated
      split <;> rfl
  | editCabin => exact State.credentialsGood_congr rfl hw (fun _ => rfl) (fun _ => rfl) hs

theorem reset_credentialsGood : State.reset.credentialsGood :=
  ⟨rfl, rfl, Nat.zero_le _, by simp [State.record, State.reset], by simp [State.record, State.reset],
    by simp [State.record, State.reset]⟩

/-! ### The occupant lists -/

/-- The record of a slot names a cabin (R29). -/
def State.lives (s : State) (slot n : Nat) : Prop := ∃ r, s.record slot = some r ∧ r.names n = true

theorem State.cabinsGood_iff (s : State) : s.cabinsGood ↔
    Table.wf s.store.records = true ∧ Table.wf s.access.cabins = true ∧
      ∀ n, (s.cabin n).occupants.Nodup ∧ (s.cabin n).occupants.length ≤ Config.cabinOccupants ∧
        ∀ slot, slot ∈ (s.cabin n).occupants ↔ s.lives slot n := by
  simp only [State.cabinsGood, State.lives, Record.names_iff]

theorem State.cabinsGood_congr {s t : State} (hw : Table.wf t.store.records = true)
    (hwc : Table.wf t.access.cabins = true) (hc : ∀ n, (t.cabin n).occupants = (s.cabin n).occupants)
    (hl : ∀ slot n, t.lives slot n ↔ s.lives slot n) (hs : s.cabinsGood) : t.cabinsGood := by
  rw [State.cabinsGood_iff] at hs ⊢
  simp only [hc, hl]
  exact ⟨hw, hwc, hs.2.2⟩

section
variable {s t : State} {slot : Nat} {r r' : Record}

theorem lives_put (h : t.store.records = s.store.records.put slot r') (k n : Nat) :
    t.lives k n ↔ if k = slot then r'.names n = true else s.lives k n := by
  simp only [State.lives, State.record, h, Table.find_put]
  split <;> simp

theorem lives_eq (h : s.record slot = some r) (n : Nat) : s.lives slot n ↔ r.names n = true := by
  simp [State.lives, h]

/-- One record rewritten with its cabins kept. -/
theorem State.cabinsGood_put (h : t.store.records = s.store.records.put slot r')
    (hc : t.access.cabins = s.access.cabins) (hn : ∀ n, r'.names n = true ↔ s.lives slot n) (hs : s.cabinsGood) :
    t.cabinsGood := by
  have hw : Table.wf s.store.records = true := hs.1
  have hwc : Table.wf s.access.cabins = true := hs.2.1
  refine State.cabinsGood_congr (h ▸ Table.wf_put _ _ hw) (hc ▸ hwc) (fun n => ?_) (fun k n => ?_) hs
  · simp [State.cabin, hc]
  · rw [lives_put h]
    split
    · rw [hn, ‹k = slot›]
    · rfl

theorem Record.names_congr (hh : r'.homeCabin = r.homeCabin) (h2 : r'.secondCabin = r.secondCabin) (n : Nat) :
    r'.names n = r.names n := by
  simp [Record.names, hh, h2]

end

theorem State.putCabin_cabin {s : State} (n : Nat) (c : Cabin) (hw : Table.wf s.access.cabins = true) (m : Nat) :
    (s.putCabin n c).cabin m = if m = n then c else s.cabin m := by
  split
  · rename_i h
    subst h
    exact Table.value_putValue_same _ _ _ hw
  · exact Table.value_putValue_other _ _ _ ‹_›

theorem State.putCabin_wf {s : State} (n : Nat) (c : Cabin) (hw : Table.wf s.access.cabins = true) :
    Table.wf (s.putCabin n c).access.cabins = true :=
  Table.wf_putValue _ _ _ hw

theorem leaveCabin_wf {s : State} (slot n : Nat) (hw : Table.wf s.access.cabins = true) :
    Table.wf (leaveCabin slot n s).access.cabins = true :=
  State.putCabin_wf _ _ hw

theorem leaveCabin?_wf {s : State} (slot : Nat) (n : Option Nat) (hw : Table.wf s.access.cabins = true) :
    Table.wf (leaveCabin? slot n s).access.cabins = true := by
  cases n with
  | none => exact hw
  | some c => exact leaveCabin_wf slot c hw

/-- A cabin after a record slot has left one cabin, where a field names one (R34). -/
theorem leaveCabin?_cabin {s : State} (slot : Nat) (n : Option Nat) (hw : Table.wf s.access.cabins = true) (m : Nat) :
    (leaveCabin? slot n s).cabin m =
      if n = some m then
        { s.cabin m with occupants := (s.cabin m).occupants.filter fun o => decide (o ≠ slot) }
      else s.cabin m := by
  cases n with
  | none => simp [leaveCabin?]
  | some c =>
    simp only [leaveCabin?, leaveCabin, State.putCabin_cabin _ _ hw, Option.some.injEq]
    by_cases h : m = c
    · subst h
      simp
    · simp [h, Ne.symm h]

/-- A cabin after a record slot has left both cabins that its record names (R34). -/
theorem leaveCabins_cabin {s : State} (slot : Nat) (r : Record) (hw : Table.wf s.access.cabins = true) (m : Nat) :
    (leaveCabin? slot r.secondCabin (leaveCabin? slot r.homeCabin s)).cabin m =
      if r.homeCabin = some m ∨ r.secondCabin = some m then
        { s.cabin m with occupants := (s.cabin m).occupants.filter fun o => decide (o ≠ slot) }
      else s.cabin m := by
  rw [leaveCabin?_cabin slot _ (leaveCabin?_wf slot _ hw), leaveCabin?_cabin slot _ hw]
  by_cases h1 : r.homeCabin = some m <;> by_cases h2 : r.secondCabin = some m <;> simp [h1, h2]

theorem retire_cabin {s : State} (slot : Nat) (r : Record) (hw : Table.wf s.access.cabins = true) (m : Nat) :
    (retire slot r s).cabin m =
      if r.homeCabin = some m ∨ r.secondCabin = some m then
        { s.cabin m with occupants := (s.cabin m).occupants.filter fun o => decide (o ≠ slot) }
      else s.cabin m := by
  have hc : ∀ n, (retireCredentials slot r s).cabin n = s.cabin n := fun n => by simp [State.cabin]
  have h1 := leaveCabins_cabin (s := retireCredentials slot r s) slot r (by simpa using hw) m
  rw [hc] at h1
  rw [← h1, retire_eq]
  simp [State.cabin]

theorem retire_access_wf {s : State} (slot : Nat) (r : Record) (hw : Table.wf s.access.cabins = true) :
    Table.wf (retire slot r s).access.cabins = true := by
  rw [retire_eq, vacateSlot_access]
  exact leaveCabin?_wf slot _ (leaveCabin?_wf slot _ (by simpa using hw))

theorem Record.assigned_names {r : Record} {n : Nat} (hg : r.good)
    (h : r.homeCabin = none ∨ r.secondCabin = none) (m : Nat) :
    (r.assigned n).names m = true ↔ m = n ∨ r.names m = true := by
  have hsec := hg.second_none
  unfold Record.assigned
  cases hh : r.homeCabin with
  | none => simp [Record.names, hh, hsec hh, eq_comm]
  | some c =>
    have h2 : r.secondCabin = none := by simpa [hh] using h
    simp only [Option.isNone_some, Bool.false_eq_true, if_false, Record.names_iff, hh, h2, Option.some.injEq,
      reduceCtorEq, or_false, @eq_comm _ n m]
    exact or_comm

theorem Record.vacated_names {r : Record} {n : Nat} (hg : r.good) (hn : r.names n = true) (m : Nat) :
    (r.vacated n).names m = true ↔ m ≠ n ∧ r.names m = true := by
  obtain ⟨-, -, -, hne, -, -, -⟩ := hg
  rw [Record.names_iff] at hn
  unfold Record.vacated
  by_cases h2 : r.secondCabin = some n
  · have hh : r.homeCabin ≠ some n := fun hc => (hne (by simp [h2])).2 (h2.trans hc.symm)
    rw [if_pos h2, Record.names_iff, Record.names_iff, h2]
    by_cases hm : m = n
    · simp [hm, hh]
    · simp [hm, Ne.symm hm]
  · have hh : r.homeCabin = some n := by simpa [h2] using hn
    rw [if_neg h2, Record.names_iff, Record.names_iff, hh]
    by_cases hm : m = n
    · simp [hm, h2]
    · simp [hm, Ne.symm hm]

theorem assign_cabinsGood {slot n : Nat} {r : Record} {s : State} (h : s.record slot = some r)
    (hr : assignRefusal r n s = none) (hg : r.good) (hs : s.cabinsGood) :
    ((s.putRecord slot (r.assigned n)).putCabin n
      { s.cabin n with occupants := (s.cabin n).occupants ++ [slot] }).cabinsGood := by
  obtain ⟨hnn, hroom, hfree⟩ := assignRefusal_none hr
  rw [State.cabinsGood_iff] at hs ⊢
  obtain ⟨hw, hwc, hall⟩ := hs
  refine ⟨Table.wf_put _ _ hw, State.putCabin_wf _ _ hwc, fun m => ?_⟩
  have hlives : ∀ k, State.lives ((s.putRecord slot (r.assigned n)).putCabin n
      { s.cabin n with occupants := (s.cabin n).occupants ++ [slot] }) k m ↔
        (k = slot ∧ m = n) ∨ s.lives k m := by
    intro k
    rw [lives_put (s := s) rfl]
    split
    · rename_i hk
      rw [Record.assigned_names hg hfree, hk, lives_eq h]
      simp
    · simp [*]
  simp only [hlives, State.putCabin_cabin (s := s.putRecord slot (r.assigned n)) _ _ hwc]
  by_cases hm : m = n
  · subst hm
    obtain ⟨hnod, -, hmem⟩ := hall m
    have hout : slot ∉ (s.cabin m).occupants := fun hc => by
      have := (lives_eq h m).mp ((hmem slot).mp hc)
      simp [hnn] at this
    refine ⟨by simpa using hnod.append (by simp) (by simpa using hout), by simpa using hroom, fun k => ?_⟩
    simp only [if_true, List.mem_append, List.mem_singleton, hmem k, and_true]
    exact or_comm
  · have hsame : (s.putRecord slot (r.assigned n)).cabin m = s.cabin m := rfl
    simpa only [hm, if_false, and_false, false_or, hsame] using hall m

theorem vacate_cabinsGood {slot n : Nat} {r : Record} {s : State} (h : s.record slot = some r)
    (hn : r.names n = true) (hg : r.good) (hs : s.cabinsGood) :
    (leaveCabin slot n (s.putRecord slot (r.vacated n))).cabinsGood := by
  rw [State.cabinsGood_iff] at hs ⊢
  obtain ⟨hw, hwc, hall⟩ := hs
  refine ⟨Table.wf_put _ _ hw, leaveCabin_wf _ _ hwc, fun m => ?_⟩
  have hlives : ∀ k, State.lives (leaveCabin slot n (s.putRecord slot (r.vacated n))) k m ↔
      ¬ (k = slot ∧ m = n) ∧ s.lives k m := by
    intro k
    rw [lives_put (s := s) rfl]
    split
    · rename_i hk
      rw [Record.vacated_names hg hn, hk, lives_eq h]
      simp
    · simp [*]
  have hcab : (leaveCabin slot n (s.putRecord slot (r.vacated n))).cabin m =
      if m = n then { s.cabin n with occupants := (s.cabin n).occupants.filter fun o => decide (o ≠ slot) }
      else s.cabin m :=
    State.putCabin_cabin (s := s.putRecord slot (r.vacated n)) n _ hwc m
  simp only [hlives, hcab]
  obtain ⟨hnod, hlen, hmem⟩ := hall m
  by_cases hm : m = n
  · subst hm
    refine ⟨by simpa using hnod.filter _, by simpa using (List.length_filter_le _ _).trans hlen, fun k => ?_⟩
    simp [hmem k, and_comm]
  · simpa [hm] using ⟨hnod, hlen, hmem⟩

theorem retire_cabinsGood {slot : Nat} {r : Record} {s : State} (h : s.record slot = some r) (hs : s.cabinsGood) :
    (retire slot r s).cabinsGood := by
  rw [State.cabinsGood_iff] at hs ⊢
  obtain ⟨hw, hwc, hall⟩ := hs
  refine ⟨retire_wf hw, retire_access_wf slot r hwc, fun m => ?_⟩
  have hlives : ∀ k, (retire slot r s).lives k m ↔ k ≠ slot ∧ s.lives k m := by
    intro k
    simp only [State.lives, retire_record hw]
    split <;> simp [*]
  simp only [hlives, retire_cabin slot r hwc]
  obtain ⟨hnod, hlen, hmem⟩ := hall m
  split
  · refine ⟨hnod.filter _, (List.length_filter_le _ _).trans hlen, fun k => ?_⟩
    simp [hmem k, and_comm]
  · rename_i hno
    refine ⟨hnod, hlen, fun k => ?_⟩
    rw [hmem k]
    refine ⟨fun hk => ⟨?_, hk⟩, And.right⟩
    rintro rfl
    exact hno (Record.names_iff.mp ((lives_eq h m).mp hk))

theorem TableDeed.keeps_cabinsGood {s t : State} (h : TableDeed s t) (hr : s.recordsGood) (hs : s.cabinsGood) :
    t.cabinsGood := by
  obtain ⟨hw, hall⟩ := hr
  have hwc : Table.wf s.access.cabins = true := hs.2.1
  cases h with
  | editRecord _ slot r r' h hk =>
    exact State.cabinsGood_put rfl rfl
      (fun n => by rw [lives_eq h, Record.names_congr hk.homeCabin hk.secondCabin]) hs
  | mapRecords _ f hk =>
    refine State.cabinsGood_congr (s := s) (Table.wf_mapValues f hw) hwc (fun _ => rfl) (fun k n => ?_) hs
    simp only [State.lives, State.record, Table.find_mapValues]
    cases s.store.records.find k with
    | none => simp
    | some r => simp [Record.names_congr (hk r).homeCabin (hk r).secondCabin]
  | issue _ slot q hf =>
    exact State.cabinsGood_put rfl rfl (fun n => by simp [issuedRecord, Record.names, State.lives, hf]) hs
  | reserve q r _ h => exact State.cabinsGood_put rfl rfl (fun n => (lives_eq h n).symm) hs
  | confirm slot r v _ h =>
    simp only [confirmInto, h]
    exact State.cabinsGood_put rfl rfl (fun n => (lives_eq h n).symm) hs
  | endReservation slot r v _ h =>
    exact State.cabinsGood_put (r' := { r with reservation := none }) (by rw [endReservation_store]) (by simp)
      (fun n => (lives_eq h n).symm) hs
  | revoke slot n reason =>
    cases hr : s.record slot with
    | none =>
      have hrec : (Machine.revoke slot n reason s).store.records = s.store.records := by
        rw [revoke_store_free n reason hr]
      exact State.cabinsGood_congr (hrec ▸ hw) (by simpa using hwc) (fun m => by simp [State.cabin])
        (fun k m => by simp [State.lives, State.record, hrec]) hs
    | some r =>
      exact State.cabinsGood_put
        (r' := { r with credentials := r.credentials.filter fun c => decide (c.number ≠ n) })
        (by rw [revoke_store n reason hr]) (by simp) (fun n => (lives_eq hr n).symm) hs
  | removeRevoked => exact State.cabinsGood_congr hw hwc (fun _ => rfl) (fun _ _ => Iff.rfl) hs
  | retire slot r _ h => exact retire_cabinsGood h hs
  | assign slot n r _ h hr => exact assign_cabinsGood h hr (hall slot r h) hs
  | vacate slot n r _ h hn => exact vacate_cabinsGood h hn (hall slot r h) hs
  | editCabin n c _ hc =>
    refine State.cabinsGood_congr (s := s) hw (State.putCabin_wf _ _ hwc) (fun m => ?_) (fun _ _ => Iff.rfl) hs
    rw [State.putCabin_cabin _ _ hwc]
    split
    · rw [hc, ‹m = n›]
    · rfl

theorem reset_cabinsGood : State.reset.cabinsGood :=
  ⟨rfl, rfl, fun n => by simp [State.cabin, State.reset, Table.value, Cabin.powerOn, State.record]⟩

/-- Settles O8: each of the three laws holds at reset, and every deed on the record store and the cabins keeps it; the
occupant lists lean on the cabin fields in good order. -/
theorem stepKeepsRecordsGood : Obligations.StepKeepsRecordsGood := by
  have hrec : ∀ s t : State, t.store = s.store → t.access.cabins = s.access.cabins → s.recordsGood → t.recordsGood :=
    fun s t h _ => State.recordsGood_congr (by rw [h])
  refine ⟨fun s t hs h => ?_, fun s t hs h => ?_, fun s t hr hs h => ?_⟩
  · exact step_keeps_tables hrec reset_recordsGood (fun _ _ => TableDeed.keeps_recordsGood) hs h
  · refine step_keeps_tables (fun u v h _ hu => ?_) reset_credentialsGood
      (fun _ _ => TableDeed.keeps_credentialsGood) hs h
    exact State.credentialsGood_congr (by rw [h]) (by rw [h]; exact hu.1)
      (fun k => by simp [State.numbersOf, State.record, h]) (fun k => by simp [State.reservedOf, State.record, h]) hu
  · refine (step_keeps_tables (P := fun u => u.recordsGood ∧ u.cabinsGood) (fun u v h hc hu => ?_)
      ⟨reset_recordsGood, reset_cabinsGood⟩
      (fun _ _ hd hu => ⟨hd.keeps_recordsGood hu.1, hd.keeps_cabinsGood hu.1 hu.2⟩) ⟨hr, hs⟩ h).2
    obtain ⟨hur, huc⟩ := hu
    exact ⟨hrec u v h hc hur,
      State.cabinsGood_congr (by rw [h]; exact huc.1) (by rw [hc]; exact huc.2.1) (fun n => by simp [State.cabin, hc])
        (fun k n => by simp [State.lives, State.record, h]) huc⟩

end Sys2Proof.Machine
end

section
/-! The requests of the host on one record: O15 and O21, with the rule that computes the effect of a taken request on
the state before its take. -/

namespace Sys2Proof.Machine

/-! ### Taken requests of the host -/

/-- A taken request is decided in the state that differs from `s` in the management port alone. When its decision is
the same effect `u` at whatever management port, it is answered in `u`. -/
theorem manage_effect {s u : State} {kind : Byte} {body reply : List Byte} {code : ReplyCode} {d : State → Decision}
    (h : s.idle) (hg : s.management.service ≠ .standalone ∨ kind ∈ standaloneKinds) (hb : body.length ≤ 1024)
    (hd : ∀ m, d (s.setManagement m) = { code := code, body := reply, state := u.setManagement m })
    (hm : u.management = s.management) (hw : u.settings.watchdogCode = s.settings.watchdogCode)
    (hc : u.clock.runTime = s.clock.runTime) :
    (.next (manage kind body d s) : Host.Outcome State Fault Refusal) = .next (u.replied kind body code reply) := by
  rw [manage_taken h hb hg, takeWrite_eq, hd, placeReply_setManagement kind body code reply hm hw hc]

theorem withRecord_some {slot : Nat} {s : State} {r : Record} {run : Record → Decision} (h : s.record slot = some r) :
    withRecord slot s run = run r := by
  simp [withRecord, h]

theorem withFolio_some {slot : Nat} {s : State} {f : Folio} {run : Folio → Decision} (h : s.folio slot = some f) :
    withFolio slot s run = run f := by
  simp [withFolio, h]

@[simp] theorem byte_length (n : Nat) : (byte n).length = 1 := rfl

@[simp] theorem flagByte_length (b : Bool) : (flagByte b).length = 1 := rfl

theorem optional_bytes_length_le (n : Nat) (o : Option Nat) : (optional (bytes n) o).length ≤ n + 1 := by
  cases o <;> simp [optional]

/-- A request whose body reads as `a`, decided by the same effect at whatever management port. -/
theorem manage_checked {α : Type} {s u : State} {kind : Byte} {body reply : List Byte} {code : ReplyCode}
    {read : List Byte → Parsed α} {a : α} {run : α → State → Decision} (h : s.ready) (hb : body.length ≤ 1024)
    (ha : read body = .good a)
    (hd : ∀ m, run a (s.setManagement m) = { code := code, body := reply, state := u.setManagement m })
    (hm : u.management = s.management) (hw : u.settings.watchdogCode = s.settings.watchdogCode)
    (hc : u.clock.runTime = s.clock.runTime) :
    (.next (manage kind body (fun t => checked (read body) t fun q => run q t) s) : Host.Outcome State Fault Refusal) =
      .next (u.replied kind body code reply) :=
  manage_effect h.1 (.inl h.2) hb (fun m => by rw [ha]; exact hd m) hm hw hc

/-! ### Requests that write one record -/

/-- A request that rewrites the record of one slot. -/
theorem manage_putRecord {α : Type} {s : State} {slot : Nat} {r' : Record} {kind : Byte} {body reply : List Byte}
    {read : List Byte → Parsed α} {a : α} {run : α → State → Decision} (h : s.ready) (hb : body.length ≤ 1024)
    (ha : read body = .good a)
    (hd : ∀ m, run a (s.setManagement m) = done reply ((s.putRecord slot r').setManagement m)) :
    (.next (manage kind body (fun t => checked (read body) t fun q => run q t) s) : Host.Outcome State Fault Refusal) =
      .next ((s.putRecord slot r').replied kind body .done reply) :=
  manage_checked h hb ha hd rfl rfl rfl

/-- Settles O15: each of the eight reads its operands, finds the record and rewrites it. -/
theorem recordFieldRequestsComplete : Obligations.RecordFieldRequestsComplete := by
  intro s slot r hready hslot hr
  have hrec : ∀ m, (s.setManagement m).record slot = some r := fun m => hr
  refine ⟨fun code count hcode hcount => ?_, fun m => ?_, fun b => ?_, fun tier ht => ?_, fun cap hcap => ?_,
    fun n hn => ?_, fun hl => ?_, fun hl => ?_⟩
  · refine manage_putRecord hready (by simp) (readMessage_body hslot hcode hcount) fun m => ?_
    rw [withRecord_some (hrec m)]
    by_cases hc : code = 0 ∨ count = 0 <;> simp [hc]
  · exact manage_putRecord hready (by simp)
      (readSlotAnd_body hslot (by have := watchModeCode_lt m; omega) (watchModeOf_watchModeCode m))
      fun m => withRecord_some (hrec m)
  · exact manage_putRecord hready (by simp)
      (readSlotAnd_body hslot (by have := flagCode_lt b; omega) (flagOf_flagCode b)) fun m => withRecord_some (hrec m)
  · exact manage_putRecord hready (by simp)
      (readSlotAnd_body hslot (by omega) (show upTo 7 tier = some tier by simp [upTo, ht]))
      fun m => withRecord_some (hrec m)
  · have := optional_bytes_length_le 4 cap
    exact manage_putRecord hready (by simp; omega) (readCap_body hslot hcap) fun m => withRecord_some (hrec m)
  · exact manage_putRecord hready (by simp)
      (readSlotAnd_body hslot (by omega) (show upTo 15 n = some n by simp [upTo, hn]))
      fun m => withRecord_some (hrec m)
  · refine manage_putRecord hready (by simp) (readSlot_body hslot) fun m => ?_
    rw [withRecord_some (hrec m)]
    simp [hl]
  · refine manage_putRecord hready (by simp) (readSlot_body hslot) fun m => ?_
    rw [withRecord_some (hrec m)]
    simp [hl]

/-! ### Reads -/

/-- A read neither changes the state nor looks at the management port; it passes the gate in STANDALONE (R182). -/
theorem manage_read {α : Type} {s : State} {kind : Byte} {body reply : List Byte} {read : List Byte → Parsed α} {a : α}
    {run : α → State → Decision} (h : s.idle) (hk : kind ∈ standaloneKinds) (hb : body.length ≤ 1024)
    (ha : read body = .good a) (hd : ∀ m, run a (s.setManagement m) = done reply (s.setManagement m)) :
    (.next (manage kind body (fun t => checked (read body) t fun q => run q t) s) : Host.Outcome State Fault Refusal) =
      .next (s.replied kind body .done reply) :=
  manage_effect h (.inr hk) hb (fun m => by rw [ha]; exact hd m) rfl rfl rfl

theorem finding_active {s : State} {n slot : Nat} {r : Record}
    (hi : s.store.index.find n = some { slot := slot, status := .active }) (hr : s.record slot = some r) :
    finding n s = byte 0 ++ bytes 2 slot ++ byte (credentialKindCode (r.kindOf n)) := by
  simp [finding, hi, hr]

theorem finding_pending {s : State} {n slot : Nat} {r : Record} {v : Reservation}
    (hi : s.store.index.find n = some { slot := slot, status := .pending }) (hr : s.record slot = some r)
    (hv : r.reservation = some v) :
    finding n s = byte 1 ++ bytes 2 slot ++ byte (credentialKindCode v.kind) ++ bytes 4 v.expiry := by
  simp [finding, hi, hr, hv]

theorem finding_revoked {s : State} {n : Nat} {v : Revocation} (hi : s.store.index.find n = none)
    (hv : (s.store.revoked.find? fun w => decide (w.number = n)) = some v) :
    finding n s = byte 2 ++ bytes 2 v.slot ++ byte (reasonCode v.reason) ++ bytes 4 v.time := by
  simp [finding, hi, hv]

theorem finding_unknown {s : State} {n : Nat} (hi : s.store.index.find n = none)
    (hv : (s.store.revoked.find? fun w => decide (w.number = n)) = none) : finding n s = byte 3 := by
  simp [finding, hi, hv]

/-- Settles O21: each read answers what its reply function makes of the tables. -/
theorem recordReadsChangeNothing : Obligations.RecordReadsChangeNothing := by
  intro s hidle
  have hfind : ∀ n, 0 < n → n < 2 ^ 48 → ∀ reply, finding n s = reply →
      exec (.findCredential (bytes 6 n)) s = .next (s.replied 0x10 (bytes 6 n) .done reply) := by
    rintro n h0 hn _ rfl
    exact manage_read hidle (by decide) (by simp) (readCredential_body h0 hn) fun m => rfl
  refine ⟨fun slot r hslot hr => ?_, fun slot hslot hr => ?_, fun n h0 hn => ⟨fun slot r c hi hr hc => ?_, ?_, ?_, ?_⟩,
    fun p hp => ?_⟩
  · exact manage_read hidle (by decide) (by simp) (readSlot_body hslot) fun m => by simp [hr]
  · exact manage_read hidle (by decide) (by simp) (readSlot_body hslot) fun m => by simp [hr]; rfl
  · exact hfind n h0 hn _ (by rw [finding_active hi hr, Record.kindOf, hc]; rfl)
  · exact fun slot r v hi hr hv => hfind n h0 hn _ (finding_pending hi hr hv)
  · exact fun v hi hv => hfind n h0 hn _ (finding_revoked hi hv)
  · exact fun hi hv => hfind n h0 hn _ (finding_unknown hi hv)
  · exact manage_read hidle (by decide) (by simp) (readPosition_body hp) fun m => rfl

end Sys2Proof.Machine
end

section
/-! Issue, reservation, confirmation and revocation: O16, O17, O18 and O19. -/

namespace Sys2Proof.Machine

/-! ### ISSUE_RECORD -/

theorem issueBody_length_le (q : IssueFields) : (issueBody q).length ≤ 1024 := by
  have h1 := optional_bytes_length_le 4 q.cap
  have h2 : (optional byte q.role).length ≤ 2 := optional_bytes_length_le 1 q.role
  simp only [issueBody, List.length_append, byte_length, bytes_length]
  omega

theorem issueInto_setManagement (slot : Nat) (q : IssueFields) (s : State) (m : ManagementPort) :
    issueInto slot q (s.setManagement m) = (issueInto slot q s).setManagement m := by
  simp only [issueInto, State.putRecord_setManagement, gainMember_setManagement, State.setCounts_setManagement,
    reconcile_setManagement, report_setManagement, State.setManagement_passage]

theorem gainMember_some {s : State} {slot : Nat} {f : Folio} (h : s.folio slot = some f) :
    gainMember slot s = s.putFolio slot { f with members := f.members + 1 } := by
  simp [gainMember, h]

theorem lowestFree_record {s : State} {slot : Nat} (h : s.lowestFreeRecord slot) :
    s.store.records.lowestFree Config.recordSlots 0 = some slot := by
  obtain ⟨hlt, hfree, hlow⟩ := h
  exact Table.lowestFree_eq (Nat.zero_le _) (by omega) hfree fun k _ hk => hlow k hk

/-- Settles O16: the ordered checks of R8 pass, and the effects of the issue are those of the statement. -/
theorem issueRecordTakesLowestFreeSlot : Obligations.IssueRecordTakesLowestFreeSlot := by
  intro s q f slot hready hfree href hfolio htier hstation hcap hloc hrole hrange hf hstate hmembers
  have hissue : issueInto slot q s = report .records (reconcile s.passage.counts
      (((s.putRecord slot (issuedRecord q)).putFolio q.folio { f with members := f.members + 1 }).setCounts
        (addCell s.passage.counts q.cls q.location))) := by
    have hf' : (s.putRecord slot (issuedRecord q)).folio q.folio = some f := hf
    rw [issueInto, gainMember_some hf']
  have hpass : ¬ (f.state = .suspended ∨ f.state = .closed) := by rcases hstate with h | h <;> simp [h]
  refine (manage_checked (u := issueInto slot q s) (code := .done) (reply := bytes 2 slot) hready
    (issueBody_length_le q) (readIssue_body href hfolio htier hstation hcap hloc hrole hrange)
    (fun m => ?_) ?_ ?_ ?_).trans ?_
  · rw [withFolio_some (f := f) (by simpa using hf), if_neg hpass, if_neg (by simp [Config.folioMembers]; omega)]
    simp only [State.setManagement_store, lowestFree_record hfree, issueInto_setManagement]
    rfl
  · simp [hissue]
  · simp [hissue]
  · simp [hissue]
  · rw [hissue]
    rfl

/-! ### RESERVE_CREDENTIAL, CANCEL_CREDENTIAL and the expiry -/

theorem reserveBody_length_le (slot n : Nat) (k : CredentialKind) (replaces : Option Nat) :
    (reserveBody slot n k replaces).length ≤ 1024 := by
  have := optional_bytes_length_le 6 replaces
  simp only [reserveBody, List.length_append, byte_length, bytes_length]
  omega

/-- The refusal of a RESERVE_CREDENTIAL is that of the first check that fails (R10). -/
theorem reserveRefusal_of_firstRefusal {q : ReserveFields} {r : Record} {s : State} {code : ReplyCode}
    (h : firstRefusal
      [(s.store.index.find q.number ≠ none, .duplicate), (∃ v ∈ s.store.revoked, v.number = q.number, .revokedNumber),
        (∃ m, q.replaces = some m ∧ r.holds m = false, .notFound), (r.reservation ≠ none, .credFull),
        (2 ≤ r.credentials.length ∧ q.replaces = none, .credFull), (24576 ≤ s.store.index.length, .full)] code) :
    reserveRefusal q r s = some code := by
  have hidx : (s.store.index.find q.number).isSome = true ↔ s.store.index.find q.number ≠ none := by
    rw [Option.isSome_iff_ne_none]
  have hrep : (q.replaces.any fun n => !r.holds n) = true ↔ ∃ m, q.replaces = some m ∧ r.holds m = false := by
    cases q.replaces <;> simp
  have hres : r.reservation.isSome = true ↔ r.reservation ≠ none := by rw [Option.isSome_iff_ne_none]
  exact check_of_firstRefusal hidx h fun h => check_of_firstRefusal State.isRevoked_iff h fun h =>
    check_of_firstRefusal hrep h fun h => check_of_firstRefusal hres h fun h =>
      check_of_firstRefusal Iff.rfl h fun h => check_of_firstRefusal Iff.rfl h False.elim

theorem reserveRefusal_setManagement (q : ReserveFields) (r : Record) (s : State) (m : ManagementPort) :
    reserveRefusal q r (s.setManagement m) = reserveRefusal q r s := rfl

/-- A number that stands in the index leaves it, and the index reports. -/
theorem leaveIndex_some {s : State} {n : Nat} {e : IndexEntry} (h : s.store.index.find n = some e) :
    leaveIndex n s = report .credentials (s.dropIndex n) := by
  simp [leaveIndex, h]

theorem endReservation_some {s : State} {slot : Nat} {r : Record} {v : Reservation} {e : IndexEntry}
    (h : s.store.index.find v.number = some e) :
    endReservation slot r v s =
      report .credentials ((s.putRecord slot { r with reservation := none }).dropIndex v.number) :=
  leaveIndex_some h

theorem expireReservation_eq {s : State} {slot : Nat} {r : Record} {v : Reservation} (hr : s.record slot = some r)
    (hv : r.reservation = some v) :
    expireReservation slot s =
      if v.expiry ≤ s.clock.runTime then raise .reserveExpired (endReservation slot r v s) else s := by
  simp [expireReservation, hr, hv]

/-- Settles O17: RESERVE_CREDENTIAL by its ordered checks, and the two ends of a reservation by `endReservation`. -/
theorem reservationIsMadeAndEnds : Obligations.ReservationIsMadeAndEnds := by
  refine ⟨?_, fun s slot r v e hr hv he => ⟨fun hready hslot h0 hn => ?_, fun hdue => ?_, fun hdue => ?_⟩, ?_⟩
  · intro s slot n k replaces r hready hslot hr h0 hn hrep hfree hrev hnone hroom hlen
    have hpass : reserveRefusal ⟨slot, n, k, replaces⟩ r s = none :=
      reserveRefusal_none_iff.mpr ⟨hfree, hrev, fun m hm => (hrep m hm).2.2, hnone, hroom, hlen⟩
    refine manage_checked hready (reserveBody_length_le ..)
      (readReserve_body hslot h0 hn fun m hm => ⟨(hrep m hm).1, (hrep m hm).2.1⟩) (fun m => ?_) rfl rfl rfl
    rw [withRecord_some (r := r) (by simpa using hr), reserveRefusal_setManagement, hpass]
    rfl
  · refine manage_checked hready (by simp) (readSlotCredential_body hslot h0 hn) (fun m => ?_) rfl rfl rfl
    rw [withRecord_some (r := r) (by simpa using hr)]
    simp only [hv, ne_eq, not_true_eq_false, if_false, endReservation_setManagement, endReservation_some he]
    rfl
  · show Host.Outcome.next (expireReservation slot s) = _
    rw [expireReservation_eq hr hv, if_pos hdue, endReservation_some he]
  · show Host.Outcome.next (expireReservation slot s) = _
    rw [expireReservation_eq hr hv, if_neg (by omega)]
  · intro s slot n k replaces r code hready hslot hr h0 hn hrep hfirst
    have hrefused := reserveRefusal_of_firstRefusal (q := ⟨slot, n, k, replaces⟩) hfirst
    refine manage_checked hready (reserveBody_length_le ..) (readReserve_body hslot h0 hn hrep) (fun m => ?_)
      rfl rfl rfl
    rw [withRecord_some (r := r) (by simpa using hr), reserveRefusal_setManagement, hrefused]
    rfl

/-! ### CONFIRM_CREDENTIAL -/

/-- A revocation of a number that stands in the index, of a record that stands in its slot (R5). -/
theorem revoke_some {s : State} {slot n : Nat} {r : Record} {e : IndexEntry} (reason : RevocationReason)
    (hr : s.record slot = some r) (he : s.store.index.find n = some e) :
    revoke slot n reason s =
      appendRevocation { number := n, slot := slot, reason := reason, time := s.clock.runTime }
        (report .credentials
          ((s.putRecord slot { r with credentials := r.credentials.filter fun c => decide (c.number ≠ n) }).dropIndex
            n)) := by
  simp only [revoke, hr]
  rw [leaveIndex_some (e := e) (by simpa using he)]

theorem confirmInto_some {s : State} {slot : Nat} {r : Record} (v : Reservation) (hr : s.record slot = some r) :
    confirmInto slot v s =
      (s.putRecord slot
        { r with credentials := r.credentials ++ [{ number := v.number, kind := v.kind }], reservation := none }).putIndex
          v.number { slot := slot, status := .active } := by
  simp [confirmInto, hr]

theorem confirmInto_setManagement (slot : Nat) (v : Reservation) (s : State) (m : ManagementPort) :
    confirmInto slot v (s.setManagement m) = (confirmInto slot v s).setManagement m := by
  cases h : s.record slot <;>
    simp only [confirmInto, State.setManagement_record, h, State.putRecord_setManagement, State.putIndex_setManagement]

/-- Settles O18: the confirmation by what the reservation replaces in the record's list. -/
theorem confirmCredentialActivates : Obligations.ConfirmCredentialActivates := by
  rintro s slot n r v hready hslot h0 hn hr hv rfl
  refine ⟨fun hout => ?_, fun m e hm hold he => ?_⟩
  · have hnow : replacedNow r v = none := by
      unfold replacedNow
      split
      · simp [hout _ ‹_›]
      · rfl
    rw [← confirmInto_some v hr]
    refine manage_checked hready (by simp) (readSlotCredential_body hslot h0 hn) (fun m => ?_)
      (by rw [confirmInto_some v hr]; rfl) (by rw [confirmInto_some v hr]; rfl) (by rw [confirmInto_some v hr]; rfl)
    rw [withRecord_some (r := r) (by simpa using hr)]
    simp only [hv, ne_eq, not_true_eq_false, if_false, hnow, confirmInto_setManagement]
    rfl
  · have hnow : replacedNow r v = some m := by simp [replacedNow, hm, hold]
    have hkept := revoke_record (n := m) .replaced hr
    intro kept
    rw [← revoke_some .replaced hr he, ← confirmInto_some v hkept]
    refine manage_checked hready (by simp) (readSlotCredential_body hslot h0 hn) (fun w => ?_)
      (by simp [confirmInto_some v hkept]) (by simp [confirmInto_some v hkept]) (by simp [confirmInto_some v hkept])
    rw [withRecord_some (r := r) (by simpa using hr)]
    simp only [hv, ne_eq, not_true_eq_false, if_false, hnow, revoke_setManagement, confirmInto_setManagement]
    rfl

/-! ### REVOKE_CREDENTIAL, REMOVE_REVOKED and the full list -/

theorem appendRevocation_room {s : State} (v : Revocation) (h : s.store.revoked.length < 2048) :
    appendRevocation v s =
      report .revocations { s with store := { s.store with revoked := s.store.revoked ++ [v] } } :=
  if_pos h

theorem appendRevocation_full {s : State} (v : Revocation) (h : s.store.revoked.length = 2048) :
    appendRevocation v s =
      raise .revokeOverflow { s with store := { s.store with revoked := s.store.revoked.drop 1 ++ [v] } } :=
  if_neg (by simp [Config.revocationSize, h])

@[simp] theorem raise_notice_pending (c : Condition) (s : State) :
    (raise c s).notice.pending = s.notice.pending ||| c.bit := by
  rw [raise, changeNotices_eq]

theorem Condition.bit_getLsbD (c : Condition) : c.bit.getLsbD (conditionCode c) = true := by
  cases c <;> rfl

/-- Settles O19: the four answers of REVOKE_CREDENTIAL, the removal, and the two cases of `appendRevocation`. -/
theorem revokeRemoveAndTheFullList : Obligations.RevokeRemoveAndTheFullList := by
  refine ⟨⟨fun s n reason hready h0 hn hreason => ⟨fun slot r hi hr => ?_, fun slot hi => ?_, fun hi hv => ?_,
    fun hi hv => ?_⟩, fun s n v hready h0 hn hv => ?_⟩, fun s v => ⟨fun hlen => ?_, fun hlen => ?_⟩⟩
  · rw [← revoke_some reason hr hi]
    refine manage_checked hready (by simp) (readRevoke_body h0 hn hreason) (fun m => ?_) (by simp) (by simp) (by simp)
    simp only [State.setManagement_store, hi, revoke_setManagement]
    rfl
  · refine manage_checked hready (by simp) (readRevoke_body h0 hn hreason) (fun m => ?_) rfl rfl rfl
    simp only [State.setManagement_store, hi]
    rfl
  · have hrev : s.isRevoked n = true := State.isRevoked_iff.mpr hv
    refine manage_checked hready (by simp) (readRevoke_body h0 hn hreason) (fun m => ?_) rfl rfl rfl
    simp only [State.setManagement_store, hi, State.setManagement_isRevoked, hrev, if_true]
    rfl
  · have hrev : s.isRevoked n = false := by simpa [State.isRevoked] using hv
    refine manage_checked hready (by simp) (readRevoke_body h0 hn hreason) (fun m => ?_) rfl rfl rfl
    simp only [State.setManagement_store, hi, State.setManagement_isRevoked, hrev, Bool.false_eq_true, if_false]
    rfl
  · refine ⟨{ s with store := { s.store with revoked := s.store.revoked.filter fun w => decide (w.number ≠ n) } },
      manage_checked hready (by simp) (readCredential_body h0 hn) (fun m => ?_) rfl rfl rfl, rfl, rfl, by simp⟩
    simp only [State.setManagement_store, hv]
    rfl
  · rw [appendRevocation_room v hlen]
    exact ⟨rfl, rfl⟩
  · rw [appendRevocation_full v hlen]
    refine ⟨by simp [hlen], ?_, fun w rest hw => by simp [hw]⟩
    rw [raise_notice_pending, BitVec.getLsbD_or, Condition.bit_getLsbD, Bool.or_true]

end Sys2Proof.Machine
end

section
/-! The take of a terminal request with its lookup, and the refusals it gives: O22. -/

namespace Sys2Proof.Machine

/-! ### The fields of a frame -/

/-- A run of body bytes that spells a number. -/
theorem Frame.field_eq {f : Frame} {front rest : List Byte} {first size v : Nat}
    (h : f.body = front ++ (bytes size v ++ rest)) (hf : front.length = first) (hv : v < 256 ^ size) :
    f.field first size = v := by
  subst hf
  rw [Frame.field, h, List.drop_left, List.take_left' (bytes_length size v), number_bytes size v hv]

theorem bytes_one_toNat (b : Byte) : bytes 1 b.toNat = [b] := by
  simp [bytes]

theorem directionOf_none {b : Byte} (h0 : b ≠ 0x00) (h1 : b ≠ 0x01) : directionOf b.toNat = none := by
  unfold directionOf
  split
  · exact absurd (BitVec.eq_of_toNat_eq ‹_›) h0
  · exact absurd (BitVec.eq_of_toNat_eq ‹_›) h1
  · rfl

/-! ### Taken terminal requests -/

/-- A taken request is judged in the state that differs from `s` in the ports alone. When its verdict is the same at
whatever ports, it is reported and answered in the state of the verdict. -/
theorem takeRequest_decided {s : State} {p : Port} {e : TerminalEntry} {f : Frame} {kind : Byte}
    {permitted : TerminalEntry → Bool} {size : Nat} {d : TerminalEntry → Frame → State → Verdict} (v : Verdict)
    (h : s.takes p e f) (hk : f.kind = kind) (hp : permitted e = true) (hs : f.body.length = size)
    (hd : ∀ b, d e f (s.setPorts b) = { v with state := v.state.setPorts b }) (hv : v.state.ports = s.ports) :
    (.next (takeRequest p kind permitted size d s) : Host.Outcome State Fault Refusal) =
      .next ((reportRefusal p f.term v.result v.credential v.slot v.state).answered p f v.result v.body) := by
  rw [takeRequest_admitted h hk hp hs, takeFrame_eq, hd, answer]
  simp only
  rw [reportRefusal_setPorts, holdReply_setPorts _ _ (by simp [hv])]

/-! ### The lookup -/

theorem lookup_setPorts (s : State) (n : Nat) (b : Vector PortBlock 6) : lookup (s.setPorts b) n = lookup s n := rfl

theorem lookup_of_finds {s : State} {n slot : Nat} {r : Record} (h : s.finds n slot r) :
    lookup s n = .found slot r := by
  obtain ⟨h0, -, hi, hr⟩ := h
  simp [lookup, h0, hi, hr]

theorem lookup_zero (s : State) : lookup s 0 = .unknown := rfl

theorem lookup_pending {s : State} {n slot : Nat} (h0 : n ≠ 0)
    (hi : s.store.index.find n = some { slot := slot, status := .pending }) : lookup s n = .pending slot := by
  simp [lookup, h0, hi]

theorem lookup_revoked {s : State} {n : Nat} {v : Revocation} (h0 : n ≠ 0) (hi : s.store.index.find n = none)
    (hv : (s.store.revoked.find? fun w => decide (w.number = n)) = some v) : lookup s n = .revoked v.slot := by
  simp [lookup, h0, hi, hv]

theorem lookup_unknown {s : State} {n : Nat} (hi : s.store.index.find n = none)
    (hv : ∀ v ∈ s.store.revoked, v.number ≠ n) : lookup s n = .unknown := by
  have hfind : (s.store.revoked.find? fun w => decide (w.number = n)) = none := by simpa using hv
  simp [lookup, hi, hfind]

/-- The state of a verdict on a revoked number: REVOKED_PRESENTED is raised, and the last-refusal record is overwritten
(R23). -/
def revokedShown (p : Port) (f : Frame) (n slot : Nat) (s : State) : State :=
  { raise .revokedPresented s with notice :=
      { (raise .revokedPresented s).notice with
        lastRefusal := some (s.refusal p f.term .denyRevoked (some n) (some slot)) } }

/-- A number that finds no record is answered with a verdict whose report is that of R23. -/
theorem lookupMisses_verdict {s t : State} {p : Port} {f : Frame} {n : Nat} {x : Result}
    (h : lookupMisses s p f n x t) : ∃ v : Verdict, (∀ slot r, lookup s n ≠ .found slot r) ∧
      v.result = x ∧ v.state.ports = s.ports ∧ t = reportRefusal p f.term x v.credential v.slot v.state ∧
      ∀ body b, notFound p f n (lookup s n) body (s.setPorts b) =
        { v with body := body, state := v.state.setPorts b } := by
  rcases h with ⟨rfl, hn, rfl⟩ | ⟨slot, rfl, h0, hi, rfl⟩ | ⟨v, rfl, h0, hi, hv, rfl⟩
  · have hl : lookup s n = .unknown := by
      rcases hn with rfl | ⟨hi, hv⟩
      · exact lookup_zero s
      · exact lookup_unknown hi hv
    rw [hl]
    exact ⟨alone .denyUnknown n none s, by simp, rfl, rfl, rfl, fun _ _ => rfl⟩
  · rw [lookup_pending h0 hi]
    exact ⟨alone .denyPending n (some slot) s, by simp, rfl, rfl, rfl, fun _ _ => rfl⟩
  · rw [lookup_revoked h0 hi hv]
    exact ⟨alone .denyRevoked n (some v.slot) (revokedShown p f n v.slot s), by simp, rfl, rfl, rfl, fun _ _ => rfl⟩

/-- A request whose judgement comes to a lookup that finds no record. -/
theorem takeRequest_missed {s t : State} {p : Port} {e : TerminalEntry} {f : Frame} {kind : Byte}
    {permitted : TerminalEntry → Bool} {size n : Nat} {d : TerminalEntry → Frame → State → Verdict} {x : Result}
    {body : List Byte} (h : s.takes p e f) (hk : f.kind = kind) (hp : permitted e = true) (hs : f.body.length = size)
    (hm : lookupMisses s p f n x t)
    (hd : ∀ b, (∀ slot r, lookup (s.setPorts b) n ≠ .found slot r) →
      d e f (s.setPorts b) = notFound p f n (lookup (s.setPorts b) n) body (s.setPorts b)) :
    (.next (takeRequest p kind permitted size d s) : Host.Outcome State Fault Refusal) =
      .next (t.answered p f x body) := by
  obtain ⟨v, hl, rfl, hports, rfl, hv⟩ := lookupMisses_verdict hm
  exact takeRequest_decided { v with body := body } h hk hp hs
    (fun b => by rw [hd b fun slot r => hl slot r, lookup_setPorts, hv]) hports

/-! ### LOOKUP -/

/-- The summary of the record that a LOOKUP finds. -/
theorem decideLookup_found {p : Port} {e : TerminalEntry} {f : Frame} {s : State} {n slot : Nat} {r : Record}
    (hn : f.field 0 6 = n) (h : lookup s n = .found slot r) :
    decideLookup p e f s =
      { result := .ok, body := lookupBytes slot r, credential := some n, slot := some slot, state := s } := by
  simp only [decideLookup, hn, h]

theorem decideLookup_missed {p : Port} {e : TerminalEntry} {f : Frame} {s : State} {n : Nat} (hn : f.field 0 6 = n)
    (h : ∀ slot r, lookup s n ≠ .found slot r) : decideLookup p e f s = notFound p f n (lookup s n) [] s := by
  unfold decideLookup
  cases hl : lookup s n with
  | found slot r => exact absurd hl (h slot r)
  | pending | revoked | unknown => simp only [hn, hl]

theorem isPosOrKiosk_of {e : TerminalEntry}
    (h : e.kind = some .kiosk ∨ (e.kind = some .pos ∧ ∃ v, e.binding = some (.venue v))) : isPosOrKiosk e = true := by
  rcases h with h | ⟨h, v, hv⟩
  · simp [isPosOrKiosk, h]
  · simp [isPosOrKiosk, isPos, h, hv]

theorem raise_eq (c : Condition) (s : State) :
    raise c s =
      { s with notice :=
          { s.notice with
            pending := s.notice.pending ||| c.bit
            line := (raise c s).notice.line
            owed := (raise c s).notice.owed } } :=
  changeNotices_eq _ _

/-- What the report of a refusal leaves of a notice whose last-refusal record already names the refusal (R194). -/
theorem reportRefusal_named {p : Port} {term : Nat} {x : Result} {c k : Option Nat} {s : State}
    (hx : x.isRefusal = true) (hlast : s.notice.lastRefusal = some (s.refusal p term x c k)) :
    ∃ line owed, reportRefusal p term x c k s =
      { s with notice :=
          { s.notice with
            pending := s.notice.pending ||| (if s.selects x then Condition.refusal.bit else 0)
            line := line
            owed := owed } } := by
  cases hs : s.selects x with
  | false =>
    refine ⟨s.notice.line, s.notice.owed, ?_⟩
    rw [reportRefusal_unselected hs]
    simp
  | true =>
    refine ⟨(raise .refusal s).notice.line, (raise .refusal s).notice.owed, ?_⟩
    rw [reportRefusal_selected hx hs, ← hlast, raise_eq]
    rfl

theorem revokedShown_eq (p : Port) (f : Frame) (n slot : Nat) (s : State) :
    ∃ line owed, revokedShown p f n slot s =
      { s with notice :=
          { s.notice with
            pending := s.notice.pending ||| Condition.revokedPresented.bit
            lastRefusal := some (s.refusal p f.term .denyRevoked (some n) (some slot))
            line := line
            owed := owed } } :=
  ⟨_, _, by rw [revokedShown, raise_eq]⟩

/-- Settles O22: the verdicts of LOOKUP by what the lookup finds, the report of a revoked number, and the showings of a
message. -/
theorem lookupReportsWhatItFinds : Obligations.LookupReportsWhatItFinds := by
  have hfield : ∀ (f : Frame) n, f.body = bytes 6 n → n < 2 ^ 48 → f.field 0 6 = n := fun f n hb hn =>
    Frame.field_eq (front := []) (rest := []) (by simpa using hb) rfl hn
  have hmiss : ∀ (s : State) (p : Port) (e : TerminalEntry) (f : Frame) (n : Nat) (x : Result) (t : State),
      s.takes p e f → (e.kind = some .kiosk ∨ (e.kind = some .pos ∧ ∃ v, e.binding = some (.venue v))) →
      f.kind = 0x40 → f.body = bytes 6 n → n < 2 ^ 48 → lookupMisses s p f n x t →
      exec (.lookup p) s = .next (t.answered p f x []) := by
    intro s p e f n x t htakes he hk hb hn hm
    exact takeRequest_missed htakes hk (isPosOrKiosk_of he) (by simp [hb]) hm
      fun b => decideLookup_missed (hfield f n hb hn)
  refine ⟨fun s p e f n slot r htakes he hk hb hfinds => ?_, hmiss, ?_, ?_⟩
  · have hn : n < 2 ^ 48 := hfinds.2.1
    exact takeRequest_decided ⟨.ok, lookupBytes slot r, some n, some slot, s⟩ htakes hk (isPosOrKiosk_of he)
      (by simp [hb]) (fun b => decideLookup_found (hfield f n hb hn) (lookup_of_finds hfinds)) rfl
  · intro s p e f n v htakes he hk hb hn h0 hi hv
    obtain ⟨line, owed, hshown⟩ := revokedShown_eq p f n v.slot s
    obtain ⟨line', owed', hrep⟩ := reportRefusal_named (s := revokedShown p f n v.slot s) (p := p) (term := f.term)
      (x := .denyRevoked) (c := some n) (k := some v.slot) rfl (by rw [hshown]; rfl)
    refine ⟨reportRefusal p f.term .denyRevoked (some n) (some v.slot) (revokedShown p f n v.slot s),
      hmiss s p e f n .denyRevoked _ htakes he hk hb hn (.inr (.inr ⟨v, rfl, by omega, hi, hv, rfl⟩)), ?_⟩
    rw [hrep, hshown]
    exact ⟨rfl, rfl, rfl, rfl, rfl, rfl, rfl⟩
  · intro s slot r hr hshows
    refine ⟨fun h => by simp [consumeMessage, h], fun h h1 => ?_, fun h h1 => ?_⟩
    · have h2 : r.shows - 1 ≠ 0 := by omega
      simp [consumeMessage, Record.shown, h, h2]
    · simp [consumeMessage, Record.shown, h, h1]

end Sys2Proof.Machine
end

section
/-! The refusals of GANGWAY before its ninth check: O29. -/

namespace Sys2Proof.Machine

/-! ### GANGWAY -/

theorem isGangway_of {e : TerminalEntry} {g : Nat} (hk : e.kind = some .gangway) (hb : e.binding = some (.gangway g)) :
    isGangway e = true := by
  simp [isGangway, hk, hb]

theorem TerminalEntry.boundTo_of {e : TerminalEntry} {b : Binding} (h : e.binding = some b) : e.boundTo = b.number := by
  simp [TerminalEntry.boundTo, h]

theorem isRepeat_iff {r : Record} {g : Nat} {d : Direction} {s : State} :
    isRepeat r g d s = true ↔ ∃ t, r.lastPassage = some { gangway := g, direction := d, time := t } ∧
      s.clock.runTime < t + blankingWindow s.settings.blankingCode := by
  unfold isRepeat
  cases h : r.lastPassage with
  | none => simp
  | some l =>
    obtain ⟨g', d', t⟩ := l
    simp only [Bool.and_eq_true, decide_eq_true_eq, Option.some.injEq, Passage.mk.injEq]
    constructor
    · rintro ⟨⟨rfl, rfl⟩, ht⟩
      exact ⟨t, ⟨rfl, rfl, rfl⟩, ht⟩
    · rintro ⟨_, ⟨rfl, rfl, rfl⟩, ht⟩
      exact ⟨⟨rfl, rfl⟩, ht⟩

section
variable {s : State} {p : Port} {e : TerminalEntry} {f : Frame} {n g : Nat} {d : Direction}

/-- The operands of a GANGWAY (R56). -/
theorem gangway_fields (hbody : f.body = bytes 6 n ++ byte (directionCode d)) (hn : n < 2 ^ 48) :
    f.field 0 6 = n ∧ directionOf (f.field 6 1) = some d := by
  refine ⟨Frame.field_eq (front := []) hbody rfl hn, ?_⟩
  rw [Frame.field_eq (v := directionCode d) (front := bytes 6 n) (rest := []) (by simpa [byte] using hbody)
    (by simp) (by have := directionCode_lt d; omega)]
  exact directionOf_directionCode d

theorem decideGangway_phase (hn : f.field 0 6 = n) (hd : directionOf (f.field 6 1) = some d)
    (hp : s.muster.phase = .atSea ∨ s.muster.phase = .muster) :
    decideGangway p e f s = alone .denyPhase n none s := by
  simp only [decideGangway, hn, hd, if_pos hp]

theorem decideGangway_missed (hn : f.field 0 6 = n) (hd : directionOf (f.field 6 1) = some d)
    (hp : ¬ (s.muster.phase = .atSea ∨ s.muster.phase = .muster)) (h : ∀ slot r, lookup s n ≠ .found slot r) :
    decideGangway p e f s = notFound p f n (lookup s n) [] s := by
  unfold decideGangway
  cases hl : lookup s n with
  | found slot r => exact absurd hl (h slot r)
  | pending | revoked | unknown => simp only [hn, hd, if_neg hp, hl]

/-- A found record that the checks before the ninth stop: it moves nowhere, and a showing of its message is consumed. -/
theorem decideGangway_stopped {slot : Nat} {r : Record} {x : Result} (hn : f.field 0 6 = n)
    (hd : directionOf (f.field 6 1) = some d) (hp : ¬ (s.muster.phase = .atSea ∨ s.muster.phase = .muster))
    (hl : lookup s n = .found slot r) (ho : gangwayOutcome r e.boundTo d s = (x, none)) (hx : x ≠ .passbackNoted) :
    decideGangway p e f s =
      { result := x, body := passReply r r.location, credential := some n, slot := some slot,
        state := consumeMessage slot r s } := by
  simp only [decideGangway, hn, hd, if_neg hp, hl, ho, passEffect, if_neg hx]
  rfl

/-- The take of a GANGWAY whose checks stop a found record before the ninth. -/
theorem gangway_stopped {slot : Nat} {r : Record} {x : Result} (h : s.takes p e f) (he : e.kind = some .gangway)
    (hb : e.binding = some (.gangway g)) (hk : f.kind = 0x30) (hbody : f.body = bytes 6 n ++ byte (directionCode d))
    (hfinds : s.finds n slot r) (hp : ¬ (s.muster.phase = .atSea ∨ s.muster.phase = .muster))
    (ho : gangwayOutcome r g d s = (x, none)) (hx : x ≠ .passbackNoted) :
    exec (.gangway p) s =
      .next ((reportRefusal p f.term x (some n) (some slot) (consumeMessage slot r s)).answered p f x
        (passReply r r.location)) := by
  obtain ⟨hn, hd⟩ := gangway_fields hbody hfinds.2.1
  refine takeRequest_decided ⟨x, passReply r r.location, some n, some slot, consumeMessage slot r s⟩ h hk
    (isGangway_of he hb) (by simp [hbody]) (fun b => ?_) (consumeMessage_ports s slot r)
  have ho' : gangwayOutcome r e.boundTo d (s.setPorts b) = (x, none) := by
    rw [TerminalEntry.boundTo_of hb]
    exact ho
  rw [decideGangway_stopped (s := s.setPorts b) hn hd hp (lookup_of_finds hfinds) ho' hx, consumeMessage_setPorts]

end

theorem gangwayOutcome_open {r : Record} {g : Nat} {d : Direction} {s : State}
    (h : s.muster.phase = .inPort ∨ (s.muster.phase = .cutoff ∧ (d = .inbound ∨ r.cls = .crew ∨ r.cls = .visitor))) :
    gangwayOutcome r g d s =
      if isRepeat r g d s then (.repeated, none)
      else if r.location = .disembarked then (.denyDeparted, none)
      else if r.life = .held ∧ d = .outbound then (.denyHeld, none)
      else passOutcome r d s := by
  have hpass : ¬ (s.muster.phase = .cutoff ∧ d = .outbound ∧ (r.cls = .guestAdult ∨ r.cls = .guestMinor)) := by
    rintro ⟨hc, rfl, hcls⟩
    rcases h with h | ⟨-, h | h | h⟩
    · simp [h] at hc
    · cases h
    · simp [h] at hcls
    · simp [h] at hcls
  rw [gangwayOutcome, if_neg hpass]

/-- Settles O29: each clause names the check that stops the request, those before it having passed. -/
theorem gangwayRefusesByItsEarlierChecks : Obligations.GangwayRefusesByItsEarlierChecks := by
  refine ⟨fun s p e f n g direction htakes he hb hk hbody hn h0 h1 => ?_,
    fun s p e f n g d htakes he hb hk hbody hn => ?_⟩
  · have hfield : f.field 0 6 = n := Frame.field_eq (front := []) hbody rfl hn
    have hdir : directionOf (f.field 6 1) = none := by
      rw [Frame.field_eq (v := direction.toNat) (front := bytes 6 n) (rest := [])
        (by rw [hbody, bytes_one_toNat]; simp) (by simp) direction.isLt]
      exact directionOf_none h0 h1
    refine takeRequest_decided (alone .range n none s) htakes hk (isGangway_of he hb) (by simp [hbody])
      (fun b => ?_) rfl
    simp only [decideGangway, hfield, hdir]
    rfl
  · obtain ⟨hfield, hdir⟩ := gangway_fields hbody hn
    have hperm := isGangway_of he hb
    have hsize : f.body.length = 7 := by simp [hbody]
    refine ⟨fun hp => ?_, fun x t hp hm => ?_, fun slot r hfinds => ?_⟩
    · exact takeRequest_decided (alone .denyPhase n none s) htakes hk hperm hsize
        (fun b => decideGangway_phase hfield hdir hp) rfl
    · have hp' : ¬ (s.muster.phase = .atSea ∨ s.muster.phase = .muster) := by rcases hp with h | h <;> simp [h]
      exact takeRequest_missed htakes hk hperm hsize hm fun b => decideGangway_missed hfield hdir hp'
    · intro shown refused open_ again
      have hstop : ∀ {x}, ¬ (s.muster.phase = .atSea ∨ s.muster.phase = .muster) → gangwayOutcome r g d s = (x, none) →
          x ≠ .passbackNoted → exec (.gangway p) s = .next (refused x) :=
        gangway_stopped htakes he hb hk hbody hfinds
      have hphase : open_ → ¬ (s.muster.phase = .atSea ∨ s.muster.phase = .muster) := by
        rintro (h | ⟨h, -⟩) <;> simp [h]
      have hagain : again ↔ isRepeat r g d s = true := isRepeat_iff.symm
      refine ⟨fun hc hd hcls => ?_, fun ho ha => ?_, fun ho ha hl => ?_, fun ho ha hl hheld hd => ?_⟩
      · exact hstop (by simp [hc]) (by rw [gangwayOutcome, if_pos ⟨hc, hd, hcls⟩]) (by decide)
      · rw [hagain] at ha
        exact hstop (x := .repeated) (hphase ho) (by rw [gangwayOutcome_open ho, if_pos ha]) (by decide)
      · rw [hagain] at ha
        exact hstop (hphase ho) (by rw [gangwayOutcome_open ho, if_neg ha, if_pos hl]) (by decide)
      · rw [hagain] at ha
        exact hstop (hphase ho) (by rw [gangwayOutcome_open ho, if_neg ha, if_neg hl, if_pos ⟨hheld, hd⟩]) (by decide)

end Sys2Proof.Machine
end

section
/-! The refusals of CHARGE and OPEN_TAB before the computation: O44. -/

namespace Sys2Proof.Machine

/-! ### The checks that CHARGE and OPEN_TAB share -/

theorem isPos_of {e : TerminalEntry} {v : Nat} (hk : e.kind = some .pos) (hb : e.binding = some (.venue v)) :
    isPos e = true := by
  simp [isPos, hk, hb]

/-- The checks before the lookup, in terms of the gate (R127, R144). -/
theorem purchaseGate_of_refused {s : State} {venue : Nat} {rangeGood : Bool} {inRange : Prop} {x : Result}
    (hr : rangeGood = true ↔ inRange) (h : refusedBeforeLookup s venue inRange x) :
    purchaseGate rangeGood venue s = some x := by
  rcases h with ⟨hp, rfl⟩ | ⟨hp, hno, rfl⟩ | ⟨hp, hin, hopen, rfl⟩
  · simp [purchaseGate, hp]
  · have hf : rangeGood = false := Bool.eq_false_iff.mpr fun hc => hno (hr.mp hc)
    simp [purchaseGate, hp, hf]
  · simp [purchaseGate, hp, hr.mpr hin, hopen]

theorem purchaseGate_open {s : State} {venue : Nat} {rangeGood : Bool} (hp : s.muster.phase ≠ .muster)
    (hr : rangeGood = true) (ho : (s.venue venue).isOpen = true) : purchaseGate rangeGood venue s = none := by
  simp [purchaseGate, hp, hr, ho]

/-- The checks after the lookup, in terms of the refusal of a purchase (R128, R129, R144). -/
theorem purchaseRefusal_of_refused {s : State} {venue : Nat} {r : Record} {alcohol : Bool} {drink : Prop} {x : Result}
    (ha : alcohol = true ↔ drink) (h : refusedAfterLookup s venue r drink x) :
    purchaseRefusal r alcohol (s.venue venue) (folioOf r s) = some x := by
  have hadm : (!(s.venue venue).admits r.cls || (alcohol && decide (r.cls = .guestMinor))) = true ↔
      ¬ ((s.venue venue).classes.getLsbD (classCode r.cls) = true ∧ ¬ (drink ∧ r.cls = .guestMinor)) := by
    simp only [Venue.admits, Bool.or_eq_true, Bool.not_eq_true', Bool.and_eq_true, decide_eq_true_eq, ha]
    rw [not_and_or, not_not, Bool.not_eq_true]
  rcases h with ⟨hl, rfl⟩ | ⟨hl, hloc⟩ | ⟨hl, hloc, h⟩
  · rw [purchaseRefusal, if_pos hl]
  · rw [purchaseRefusal, if_neg (by simp [hl])]
    rcases hloc with ⟨hloc, rfl⟩ | ⟨hloc, rfl⟩ | ⟨hloc, rfl⟩ <;> simp [purchaseLocation, hloc]
  · rw [purchaseRefusal, if_neg (by simp [hl])]
    simp only [purchaseLocation, hloc]
    rcases h with ⟨hno, rfl⟩ | ⟨hyes, folio, hf, hstate⟩
    · rw [if_pos (hadm.mpr hno)]
    · rw [if_neg fun hc => hadm.mp hc hyes, folioOf, hf, Option.getD_some]
      rcases hstate with ⟨hst, rfl⟩ | ⟨hst, rfl⟩ <;> simp [folioRefusal, hst]

/-! ### CHARGE -/

theorem itemFlags_isSome (b : Nat) : (itemFlags b).isSome = true ↔ b < 4 := by
  unfold itemFlags
  split <;> simp [*]

/-- The code of the item flags (R127). -/
def itemCode (flags : ItemFlags) : Nat := (if flags.alcohol then 1 else 0) + if flags.package then 2 else 0

theorem itemCode_lt (flags : ItemFlags) : itemCode flags < 4 := by
  obtain ⟨a, k⟩ := flags
  cases a <;> cases k <;> decide

theorem itemFlags_itemCode (flags : ItemFlags) : itemFlags (itemCode flags) = some flags := by
  obtain ⟨a, k⟩ := flags
  cases a <;> cases k <;> rfl

/-- The amounts and flags in range, as the gate of a CHARGE tests them (R127). -/
theorem chargeRange_iff {amount item : Nat} :
    (decide (1 ≤ amount) && decide (amount ≤ 2000000) && (itemFlags item).isSome) = true ↔
      1 ≤ amount ∧ amount ≤ 2000000 ∧ item < 4 := by
  rw [Bool.and_eq_true, Bool.and_eq_true, itemFlags_isSome, decide_eq_true_eq, decide_eq_true_eq, and_assoc]

section
variable {s : State} {p : Port} {e : TerminalEntry} {f : Frame} {n amount item venue : Nat}

/-- The operands of a CHARGE (R127). -/
theorem charge_fields {item : Byte} (hbody : f.body = bytes 6 n ++ bytes 4 amount ++ [item]) (hn : n < 2 ^ 48)
    (ha : amount < 2 ^ 32) : f.field 0 6 = n ∧ f.field 6 4 = amount ∧ f.field 10 1 = item.toNat := by
  refine ⟨Frame.field_eq (front := []) (by rw [hbody, List.append_assoc]; rfl) rfl hn,
    Frame.field_eq (front := bytes 6 n) (by rw [hbody, List.append_assoc]) (by simp) ha,
    Frame.field_eq (front := bytes 6 n ++ bytes 4 amount) (rest := []) ?_ (by simp) item.isLt⟩
  rw [hbody, bytes_one_toNat, List.append_nil]

theorem decideCharge_gated {x : Result} (hn : f.field 0 6 = n) (ha : f.field 6 4 = amount) (hi : f.field 10 1 = item)
    (hx : purchaseGate (decide (1 ≤ amount) && decide (amount ≤ 2000000) && (itemFlags item).isSome) e.boundTo s =
      some x) :
    decideCharge p e f s = alone x n none s := by
  simp only [decideCharge, hn, ha, hi, hx]

theorem decideCharge_missed {flags : ItemFlags} (hn : f.field 0 6 = n) (ha : f.field 6 4 = amount)
    (hi : f.field 10 1 = itemCode flags)
    (hx : purchaseGate (decide (1 ≤ amount) && decide (amount ≤ 2000000) && (itemFlags (itemCode flags)).isSome)
      e.boundTo s = none) (h : ∀ slot r, lookup s n ≠ .found slot r) :
    decideCharge p e f s = notFound p f n (lookup s n) (List.replicate 6 0x00) s := by
  unfold decideCharge
  simp only [itemFlags_itemCode] at hx
  cases hl : lookup s n with
  | found slot r => exact absurd hl (h slot r)
  | pending | revoked | unknown => simp only [hn, ha, hi, itemFlags_itemCode, hx, hl]; rfl

theorem decideCharge_stopped {flags : ItemFlags} {slot : Nat} {r : Record} {x : Result} (hn : f.field 0 6 = n)
    (ha : f.field 6 4 = amount) (hi : f.field 10 1 = itemCode flags)
    (hx : purchaseGate (decide (1 ≤ amount) && decide (amount ≤ 2000000) && (itemFlags (itemCode flags)).isSome)
      e.boundTo s = none) (hl : lookup s n = .found slot r)
    (hr : purchaseRefusal r flags.alcohol (s.venue e.boundTo) (folioOf r s) = some x) :
    decideCharge p e f s =
      { result := x, body := List.replicate 5 0x00 ++ optional byte r.guestMessage, credential := some n,
        slot := some slot, state := consumeMessage slot r s } := by
  simp only [itemFlags_itemCode] at hx
  simp only [decideCharge, hn, ha, hi, itemFlags_itemCode, hx, hl, hr]
  rfl

/-! ### OPEN_TAB -/

/-- The operands of an OPEN_TAB (R144). -/
theorem openTab_fields {hold : Nat} (hbody : f.body = bytes 6 n ++ bytes 4 hold) (hn : n < 2 ^ 48)
    (hh : hold < 2 ^ 32) : f.field 0 6 = n ∧ f.field 6 4 = hold :=
  ⟨Frame.field_eq (front := []) (by rw [hbody]; rfl) rfl hn,
    Frame.field_eq (front := bytes 6 n) (rest := []) (by rw [hbody, List.append_nil]) (by simp) hh⟩

theorem decideOpenTab_gated {hold : Nat} {x : Result} (hn : f.field 0 6 = n) (hh : f.field 6 4 = hold)
    (hx : purchaseGate (decide (100 ≤ hold) && decide (hold ≤ 500000)) e.boundTo s = some x) :
    decideOpenTab p e f s = alone x n none s := by
  simp only [decideOpenTab, hn, hh, hx]

theorem decideOpenTab_missed {hold : Nat} (hn : f.field 0 6 = n) (hh : f.field 6 4 = hold)
    (hx : purchaseGate (decide (100 ≤ hold) && decide (hold ≤ 500000)) e.boundTo s = none)
    (h : ∀ slot r, lookup s n ≠ .found slot r) : decideOpenTab p e f s = notFound p f n (lookup s n) [] s := by
  unfold decideOpenTab
  cases hl : lookup s n with
  | found slot r => exact absurd hl (h slot r)
  | pending | revoked | unknown => simp only [hn, hh, hx, hl]

theorem decideOpenTab_stopped {hold slot : Nat} {r : Record} {x : Result} (hn : f.field 0 6 = n)
    (hh : f.field 6 4 = hold) (hx : purchaseGate (decide (100 ≤ hold) && decide (hold ≤ 500000)) e.boundTo s = none)
    (hl : lookup s n = .found slot r)
    (hr : purchaseRefusal r false (s.venue e.boundTo) (folioOf r s) = some x) :
    decideOpenTab p e f s = alone x n (some slot) s := by
  simp only [decideOpenTab, hn, hh, hx, hl, hr]

end

theorem holdRange_iff {hold : Nat} :
    (decide (100 ≤ hold) && decide (hold ≤ 500000)) = true ↔ 100 ≤ hold ∧ hold ≤ 500000 := by
  rw [Bool.and_eq_true, decide_eq_true_eq, decide_eq_true_eq]

/-- The clauses of a CHARGE. -/
theorem charge_refused {s : State} {p : Port} {e : TerminalEntry} {f : Frame} {n venue : Nat} (h : s.takes p e f)
    (he : e.kind = some .pos) (hb : e.binding = some (.venue venue)) (hn : n < 2 ^ 48) (hk : f.kind = 0x20) :
    (∀ (amount : Nat) (item : Byte) (x : Result), amount < 2 ^ 32 →
      f.body = bytes 6 n ++ bytes 4 amount ++ [item] →
      refusedBeforeLookup s venue (1 ≤ amount ∧ amount ≤ 2000000 ∧ item.toNat < 4) x →
        exec (.charge p) s = .next ((reportRefusal p f.term x (some n) none s).answered p f x [])) ∧
    ∀ (amount : Nat) (flags : ItemFlags), f.body = chargeRequest n amount flags → 1 ≤ amount → amount ≤ 2000000 →
      s.muster.phase ≠ .muster → (s.venue venue).isOpen = true →
      (∀ x t, lookupMisses s p f n x t → exec (.charge p) s = .next (t.answered p f x (List.replicate 6 0x00))) ∧
      ∀ slot r x, s.finds n slot r → refusedAfterLookup s venue r (flags.alcohol = true) x →
        exec (.charge p) s =
          .next ((reportRefusal p f.term x (some n) (some slot) (consumeMessage slot r s)).answered p f x
            (List.replicate 5 0x00 ++ optional byte r.guestMessage)) := by
  have hperm := isPos_of he hb
  have hbound : e.boundTo = venue := TerminalEntry.boundTo_of hb
  refine ⟨fun amount item x ha hbody hx => ?_, fun amount flags hbody h1 h2 hp ho => ?_⟩
  · obtain ⟨f1, f2, f3⟩ := charge_fields hbody hn ha
    have hgate := purchaseGate_of_refused chargeRange_iff hx
    exact takeRequest_decided (alone x n none s) h hk hperm (by simp [hbody])
      (fun b => decideCharge_gated f1 f2 f3 (hbound ▸ hgate)) rfl
  · have hcode := itemCode_lt flags
    have hitem : (BitVec.ofNat 8 (itemCode flags)).toNat = itemCode flags := by simp; omega
    have hbytes : f.body = bytes 6 n ++ bytes 4 amount ++ [BitVec.ofNat 8 (itemCode flags)] := by
      rw [hbody, chargeRequest, byte_eq, itemCode]
    obtain ⟨f1, f2, f3⟩ := charge_fields hbytes hn (by omega)
    rw [hitem] at f3
    have hsize : f.body.length = 11 := by simp [hbytes]
    have hgate := purchaseGate_open (venue := venue) hp (chargeRange_iff.mpr ⟨h1, h2, hcode⟩) ho
    refine ⟨fun x t hm => ?_, fun slot r x hfinds hx => ?_⟩
    · exact takeRequest_missed h hk hperm hsize hm fun b => decideCharge_missed f1 f2 f3 (hbound ▸ hgate)
    · have hrefused := purchaseRefusal_of_refused Iff.rfl hx
      refine takeRequest_decided
        ⟨x, List.replicate 5 0x00 ++ optional byte r.guestMessage, some n, some slot, consumeMessage slot r s⟩ h hk
        hperm hsize (fun b => ?_) (consumeMessage_ports s slot r)
      rw [decideCharge_stopped (s := s.setPorts b) f1 f2 f3 (hbound ▸ hgate) (lookup_of_finds hfinds)
        (hbound ▸ hrefused), consumeMessage_setPorts]

/-- The clauses of an OPEN_TAB. -/
theorem openTab_refused {s : State} {p : Port} {e : TerminalEntry} {f : Frame} {n venue hold : Nat} (h : s.takes p e f)
    (he : e.kind = some .pos) (hb : e.binding = some (.venue venue)) (hn : n < 2 ^ 48) (hk : f.kind = 0x21)
    (hh : hold < 2 ^ 32) (hbody : f.body = bytes 6 n ++ bytes 4 hold) :
    (∀ x, refusedBeforeLookup s venue (100 ≤ hold ∧ hold ≤ 500000) x →
      exec (.openTab p) s = .next ((reportRefusal p f.term x (some n) none s).answered p f x [])) ∧
    (100 ≤ hold → hold ≤ 500000 → s.muster.phase ≠ .muster → (s.venue venue).isOpen = true →
      (∀ x t, lookupMisses s p f n x t → exec (.openTab p) s = .next (t.answered p f x [])) ∧
      ∀ slot r x, s.finds n slot r → refusedAfterLookup s venue r False x →
        exec (.openTab p) s = .next ((reportRefusal p f.term x (some n) (some slot) s).answered p f x [])) := by
  have hperm := isPos_of he hb
  have hbound : e.boundTo = venue := TerminalEntry.boundTo_of hb
  have hsize : f.body.length = 10 := by simp [hbody]
  obtain ⟨f1, f2⟩ := openTab_fields hbody hn hh
  refine ⟨fun x hx => ?_, fun h1 h2 hp ho => ⟨fun x t hm => ?_, fun slot r x hfinds hx => ?_⟩⟩
  · have hgate := purchaseGate_of_refused holdRange_iff hx
    exact takeRequest_decided (alone x n none s) h hk hperm hsize
      (fun b => decideOpenTab_gated f1 f2 (hbound ▸ hgate)) rfl
  · have hgate := purchaseGate_open (venue := venue) hp (holdRange_iff.mpr ⟨h1, h2⟩) ho
    exact takeRequest_missed h hk hperm hsize hm fun b => decideOpenTab_missed f1 f2 (hbound ▸ hgate)
  · have hgate := purchaseGate_open (venue := venue) hp (holdRange_iff.mpr ⟨h1, h2⟩) ho
    have hrefused := purchaseRefusal_of_refused (alcohol := false) (by simp) hx
    exact takeRequest_decided (alone x n (some slot) s) h hk hperm hsize
      (fun b => decideOpenTab_stopped (s := s.setPorts b) f1 f2 (hbound ▸ hgate) (lookup_of_finds hfinds)
        (hbound ▸ hrefused)) rfl

/-- Settles O44: the clauses of a CHARGE and of an OPEN_TAB. -/
theorem purchaseRefusedByItsChecks : Obligations.PurchaseRefusedByItsChecks := by
  intro s p e f n venue h he hb hn
  exact ⟨fun hk => charge_refused h he hb hn hk, fun hk hold hh hbody => openTab_refused h he hb hn hk hh hbody⟩

end Sys2Proof.Machine
end

section
/-! RETIRE_RECORD: O20. What the steps of a retirement leave in the revocation list, the index, the folios and the
notices. -/

namespace Sys2Proof.Table

variable {α : Type}

/-- A table without the entries of a list of keys. -/
def dropAll (t : Table α) (ks : List Nat) : Table α := ks.foldl drop t

theorem find_dropAll {t : Table α} (ks : List Nat) (h : wf t = true) (i : Nat) :
    find (dropAll t ks) i = if i ∈ ks then none else find t i := by
  induction ks generalizing t with
  | nil => simp [dropAll]
  | cons k ks ih =>
    have h1 : find (dropAll t (k :: ks)) i = if i ∈ ks then none else find (drop t k) i := ih (wf_drop k h)
    rw [h1, find_drop k i h]
    by_cases hk : i = k <;> by_cases hks : i ∈ ks <;> simp [hk, hks]

end Sys2Proof.Table

namespace Sys2Proof.Machine

/-! ### The revocation list -/

/-- A full list drops as many of its oldest entries as overflow it (R5). -/
theorem pushRevocation_eq {l : List Revocation} (v : Revocation) (h : l.length ≤ 2048) :
    pushRevocation l v = (l ++ [v]).drop (l.length + 1 - 2048) := by
  unfold pushRevocation
  split
  · rename_i hlt
    simp only [Config.revocationSize] at hlt
    rw [show l.length + 1 - 2048 = 0 by omega, List.drop_zero]
  · rename_i hge
    simp only [Config.revocationSize] at hge
    rw [show l.length + 1 - 2048 = 1 by omega, List.drop_append_of_le_length (by omega)]

theorem length_pushRevocation {l : List Revocation} (v : Revocation) (h : l.length ≤ 2048) :
    (pushRevocation l v).length = min (l.length + 1) 2048 := by
  rw [pushRevocation_eq v h, List.length_drop, List.length_append, List.length_singleton]
  omega

/-- The revocations that retire a list of credentials (R18). -/
def retirements (slot time : Nat) (l : List Credential) : List Revocation :=
  l.map fun c => { number := c.number, slot := slot, reason := .retired, time := time }

/-- A list cut to its last `n` entries after each entry that joins it is the whole list, cut once. -/
theorem drop_append_drop {α : Type} {n : Nat} (l vs : List α) (v : α) (h : l.length ≤ n) :
    ((l ++ [v]).drop (l.length + 1 - n) ++ vs).drop (min (l.length + 1) n + vs.length - n) =
      (l ++ v :: vs).drop (l.length + (vs.length + 1) - n) := by
  have hle : l.length + 1 - n ≤ (l ++ [v]).length := by simp
  have hsum : l.length + 1 - n + (min (l.length + 1) n + vs.length - n) = l.length + (vs.length + 1) - n := by omega
  rw [← List.drop_append_of_le_length hle, List.drop_drop, hsum, List.append_assoc, List.singleton_append]

theorem revokeAll_revoked (slot : Nat) (l : List Credential) {s : State} (h : s.store.revoked.length ≤ 2048) :
    (revokeAll slot l s).store.revoked =
      (s.store.revoked ++ retirements slot s.clock.runTime l).drop (s.store.revoked.length + l.length - 2048) := by
  induction l generalizing s with
  | nil => simp [retirements, show s.store.revoked.length - 2048 = 0 by omega]
  | cons c l ih =>
    have hlen := length_pushRevocation
      { number := c.number, slot := slot, reason := .retired, time := s.clock.runTime } h
    have hrev := revoke_revoked slot c.number .retired s
    have hcut := drop_append_drop s.store.revoked (retirements slot s.clock.runTime l)
      { number := c.number, slot := slot, reason := .retired, time := s.clock.runTime } h
    have hcount : (retirements slot s.clock.runTime l).length = l.length := List.length_map _
    rw [hcount] at hcut
    rw [revokeAll_cons, ih (by rw [hrev, hlen]; omega), hrev, hlen, revoke_clock, pushRevocation_eq _ h, hcut]
    rfl

/-! ### The index -/

theorem revokeAll_index (slot : Nat) (l : List Credential) (s : State) :
    (revokeAll slot l s).store.index = s.store.index.dropAll (l.map Credential.number) := by
  induction l generalizing s with
  | nil => rfl
  | cons c l ih =>
    rw [revokeAll_cons, ih, revoke_index]
    rfl

/-- The numbers that leave the index with a record. -/
def Record.numbers (r : Record) : List Nat :=
  r.credentials.map Credential.number ++ (r.reservation.map Reservation.number).toList

theorem Record.mem_numbers {r : Record} {n : Nat} : n ∈ r.numbers ↔
    (∃ c ∈ r.credentials, c.number = n) ∨ ∃ v, r.reservation = some v ∧ v.number = n := by
  simp [Record.numbers]

theorem retireCredentials_index {slot : Nat} {r : Record} {s : State} (h : s.record slot = some r) :
    (retireCredentials slot r s).store.index = s.store.index.dropAll r.numbers := by
  rw [retireCredentials_eq h]
  unfold Record.numbers
  cases r.reservation with
  | none => simp [revokeAll_index]
  | some v => simp [endReservation_store, revokeAll_index, Table.dropAll, List.foldl_append]

theorem retireCredentials_revoked {slot : Nat} {r : Record} {s : State} (h : s.record slot = some r) :
    (retireCredentials slot r s).store.revoked = (revokeAll slot r.credentials s).store.revoked := by
  rw [retireCredentials_eq h]
  cases r.reservation with
  | none => rfl
  | some v => simp [endReservation_store]

/-! ### The notices -/

@[simp] theorem report_notice_pending (c : CapacityTable) (s : State) :
    (report c s).notice.pending = s.notice.pending := by
  rw [report, changeNotices_eq]

@[simp] theorem leaveIndex_notice_pending (n : Nat) (s : State) :
    (leaveIndex n s).notice.pending = s.notice.pending := by
  unfold leaveIndex
  split
  · simp
  · rfl

/-- A revocation raises REVOKE_OVERFLOW at a full list, and nothing otherwise (R5). -/
theorem appendRevocation_notice_pending (v : Revocation) (s : State) :
    (appendRevocation v s).notice.pending =
      if s.store.revoked.length < 2048 then s.notice.pending
      else s.notice.pending ||| Condition.revokeOverflow.bit := by
  by_cases h : s.store.revoked.length < 2048
  · rw [appendRevocation_room v h, report_notice_pending, if_pos h]
  · rw [appendRevocation, if_neg (show ¬ s.store.revoked.length < Config.revocationSize from h), raise_notice_pending,
      if_neg h]

theorem revoke_notice_pending (slot n : Nat) (reason : RevocationReason) (s : State) :
    (revoke slot n reason s).notice.pending =
      if s.store.revoked.length < 2048 then s.notice.pending
      else s.notice.pending ||| Condition.revokeOverflow.bit := by
  cases hr : s.record slot <;>
    simp only [revoke, hr, appendRevocation_notice_pending, leaveIndex_store, leaveIndex_notice_pending,
      State.putRecord_notice, State.putRecord_store_eq]

theorem revokeAll_notice_pending (slot : Nat) (l : List Credential) {s : State} (h : s.store.revoked.length ≤ 2048) :
    (revokeAll slot l s).notice.pending =
      if 2048 < s.store.revoked.length + l.length then s.notice.pending ||| Condition.revokeOverflow.bit
      else s.notice.pending := by
  induction l generalizing s with
  | nil => simp [show ¬ 2048 < s.store.revoked.length by omega]
  | cons c l ih =>
    have hlen : (revoke slot c.number .retired s).store.revoked.length = min (s.store.revoked.length + 1) 2048 := by
      rw [revoke_revoked, length_pushRevocation _ h]
    rw [revokeAll_cons, ih (by omega), hlen, revoke_notice_pending, List.length_cons]
    by_cases hfull : s.store.revoked.length < 2048
    · have hsum : min (s.store.revoked.length + 1) 2048 + l.length = s.store.revoked.length + (l.length + 1) := by omega
      rw [if_pos hfull, hsum]
    · rw [if_neg hfull, if_pos (show 2048 < s.store.revoked.length + (l.length + 1) by omega)]
      split
      · rw [BitVec.or_assoc, BitVec.or_self]
      · rfl

theorem retireCredentials_notice_pending {slot : Nat} {r : Record} {s : State} (h : s.record slot = some r) :
    (retireCredentials slot r s).notice.pending = (revokeAll slot r.credentials s).notice.pending := by
  rw [retireCredentials_eq h]
  cases r.reservation with
  | none => rfl
  | some v => simp [endReservation]

/-- The parts of the notice unit that no event of a retirement writes. -/
structure NoticeKept (s t : State) : Prop where
  tabLevel : t.notice.levels.tabs = s.notice.levels.tabs
  lastRefusal : t.notice.lastRefusal = s.notice.lastRefusal
  silentPorts : t.notice.silentPorts = s.notice.silentPorts
  errorPorts : t.notice.errorPorts = s.notice.errorPorts

namespace NoticeKept

variable {s t u : State}

theorem of_eq (h : t.notice = s.notice) : NoticeKept s t := by
  constructor <;> rw [h]

theorem trans (h : NoticeKept s t) (k : NoticeKept t u) : NoticeKept s u where
  tabLevel := k.tabLevel.trans h.tabLevel
  lastRefusal := k.lastRefusal.trans h.lastRefusal
  silentPorts := k.silentPorts.trans h.silentPorts
  errorPorts := k.errorPorts.trans h.errorPorts

/-- An event of the NOTICE line writes the line and the pulse owed alone. -/
theorem notices (before : State) (h : NoticeKept s t) : NoticeKept s (changeNotices before t) := by
  rw [changeNotices_eq]
  exact ⟨h.tabLevel, h.lastRefusal, h.silentPorts, h.errorPorts⟩

theorem raise (c : Condition) (h : NoticeKept s t) : NoticeKept s (raise c t) :=
  notices t ⟨h.tabLevel, h.lastRefusal, h.silentPorts, h.errorPorts⟩

theorem report {c : CapacityTable} (hc : c ≠ .tabs) (h : NoticeKept s t) : NoticeKept s (report c t) := by
  refine notices t ⟨?_, h.lastRefusal, h.silentPorts, h.errorPorts⟩
  cases c with
  | tabs => exact absurd rfl hc
  | records | credentials | revocations => exact h.tabLevel

theorem putRecord (slot : Nat) (r : Record) (h : NoticeKept s t) : NoticeKept s (t.putRecord slot r) :=
  ⟨h.tabLevel, h.lastRefusal, h.silentPorts, h.errorPorts⟩

theorem leaveIndex (n : Nat) (h : NoticeKept s t) : NoticeKept s (leaveIndex n t) := by
  unfold Machine.leaveIndex
  split
  · exact report (by decide) (h.trans (of_eq rfl))
  · exact h

theorem appendRevocation (v : Revocation) (h : NoticeKept s t) : NoticeKept s (appendRevocation v t) := by
  unfold Machine.appendRevocation
  split
  · exact report (by decide) (h.trans (of_eq rfl))
  · exact raise _ (h.trans (of_eq rfl))

theorem revoke (slot n : Nat) (reason : RevocationReason) (h : NoticeKept s t) :
    NoticeKept s (revoke slot n reason t) := by
  cases hr : t.record slot with
  | none =>
    simp only [Machine.revoke, hr]
    exact (h.leaveIndex n).appendRevocation _
  | some r =>
    simp only [Machine.revoke, hr]
    exact ((h.putRecord slot _).leaveIndex n).appendRevocation _

theorem endReservation (slot : Nat) (r : Record) (v : Reservation) (h : NoticeKept s t) :
    NoticeKept s (endReservation slot r v t) :=
  (h.putRecord slot _).leaveIndex v.number

theorem retireCredentials (slot : Nat) (r : Record) : NoticeKept s (retireCredentials slot r s) :=
  retireCredentials_keeps (P := NoticeKept s) (fun n _ h => h.revoke slot n .retired)
    (fun r' v _ _ h => h.endReservation slot r' v) r (of_eq rfl)

theorem leaveWatch (slot : Nat) (h : NoticeKept s t) : NoticeKept s (leaveWatch slot t) := by
  rcases leaveWatch_cases slot t with hw | hw <;> rw [hw]
  · exact notices t ⟨h.tabLevel, h.lastRefusal, h.silentPorts, h.errorPorts⟩
  · exact h

end NoticeKept

theorem leaveWatch_notice_pending (slot : Nat) (s : State) : (leaveWatch slot s).notice.pending = s.notice.pending := by
  rcases leaveWatch_cases slot s with h | h <;> rw [h]
  rw [setWatch, changeNotices_eq]

/-! ### The count -/

theorem ByClass.get_set {α : Type} (b : ByClass α) (c c' : PersonClass) (v : α) :
    (b.set c v).get c' = if c' = c then v else b.get c' := by
  cases c <;> cases c' <;> rfl

theorem ByLocation.get_set {α : Type} (b : ByLocation α) (l l' : Location) (v : α) :
    (b.set l v).get l' = if l' = l then v else b.get l' := by
  cases l <;> cases l' <;> rfl

theorem cell_setCell_other (m : ByClass (ByLocation Nat)) (c c' : PersonClass) {l l' : Location} (n : Nat)
    (h : l' ≠ l) : cell (setCell m c l n) c' l' = cell m c' l' := by
  rw [cell, setCell, ByClass.get_set]
  split
  · rw [ByLocation.get_set, if_neg h, ‹c' = c›, cell]
  · rfl

/-- A count of neither ABOARD nor ASHORE has no part in the two conditions of R70. -/
theorem conditions_subCell {m : ByClass (ByLocation Nat)} {c : PersonClass} {l : Location}
    (h : l = .notEmbarked ∨ l = .disembarked) :
    allAboard (subCell m c l) = allAboard m ∧ allClear (subCell m c l) = allClear m := by
  have ha : Location.ashore ≠ l := by rcases h with rfl | rfl <;> decide
  have hb : Location.aboard ≠ l := by rcases h with rfl | rfl <;> decide
  simp only [allAboard, allClear, subCell, cell_setCell_other _ _ _ _ ha, cell_setCell_other _ _ _ _ hb, and_self]

/-- The reconciliation test raises nothing where neither condition changes (R71). -/
theorem reconcile_same {m : ByClass (ByLocation Nat)} {s : State} (ha : allAboard s.passage.counts = allAboard m)
    (hc : allClear s.passage.counts = allClear m) : reconcile m s = s := by
  simp [reconcile, raiseReconciled, ha, hc]

/-! ### The retirement -/

theorem leaveCabin?_roles (slot : Nat) (n : Option Nat) (s : State) :
    (leaveCabin? slot n s).access.roles = s.access.roles := by
  cases n <;> rfl

theorem leaveCabin?_policies (slot : Nat) (n : Option Nat) (s : State) :
    (leaveCabin? slot n s).access.policies = s.access.policies := by
  cases n <;> rfl

theorem loseMember_folio {s : State} {k : Nat} {f : Folio} (hf : s.folio k = some f) (hw : Table.wf s.folios = true)
    (j : Nat) : (loseMember k s).folio j =
      if j = k then (if f.state = .closed ∧ f.members ≤ 1 then none else some { f with members := f.members - 1 })
      else s.folio j := by
  have hlast : f.members - 1 = 0 ↔ f.members ≤ 1 := by omega
  simp only [loseMember, hf, hlast]
  by_cases hc : f.state = .closed ∧ f.members ≤ 1
  · rw [if_pos hc, if_pos hc]
    exact Table.find_drop k j hw
  · rw [if_neg hc, if_neg hc]
    exact Table.find_put s.folios k j _

/-- A retirement from a location that is neither ABOARD nor ASHORE: the count leaves without a reconciliation. -/
theorem vacateSlot_quiet {slot : Nat} {r : Record} (s : State)
    (h : r.location = .notEmbarked ∨ r.location = .disembarked) :
    vacateSlot slot r s = freeRecord slot (loseMember r.folio
      ((leaveWatch slot (leaveCabin? slot r.secondCabin (leaveCabin? slot r.homeCabin s))).setCounts
        (subCell s.passage.counts r.cls r.location))) := by
  have hcounts : (leaveWatch slot (leaveCabin? slot r.secondCabin (leaveCabin? slot r.homeCabin s))).passage.counts =
      s.passage.counts := by simp
  obtain ⟨ha, hc⟩ := conditions_subCell (m := s.passage.counts) (c := r.cls) h
  simp only [vacateSlot, hcounts]
  rw [reconcile_same ha hc]

section
variable {s : State} {slot : Nat} {r : Record}

theorem vacateSlot_notice_pending (h : r.location = .notEmbarked ∨ r.location = .disembarked) :
    (vacateSlot slot r s).notice.pending = s.notice.pending := by
  rw [vacateSlot_quiet s h, freeRecord, report_notice_pending]
  simp [State.setCounts, leaveWatch_notice_pending]

theorem vacateSlot_noticeKept (h : r.location = .notEmbarked ∨ r.location = .disembarked) :
    NoticeKept s (vacateSlot slot r s) := by
  rw [vacateSlot_quiet s h]
  refine NoticeKept.report (by decide) (NoticeKept.trans ?_ (.of_eq (loseMember_notice _ _)))
  exact NoticeKept.trans (.leaveWatch slot (.of_eq (by simp))) (.of_eq rfl)

theorem retire_noticeKept (h : r.location = .notEmbarked ∨ r.location = .disembarked) :
    NoticeKept s (retire slot r s) :=
  (NoticeKept.retireCredentials slot r).trans (vacateSlot_noticeKept h)

theorem retire_recordLevel : (retire slot r s).notice.levels.get .records = (retire slot r s).level .records := by
  rw [retire_eq, vacateSlot, freeRecord, report, changeNotices_eq]
  rfl

theorem retire_folio {f : Folio} (hf : s.folio r.folio = some f) (hw : Table.wf s.folios = true) (k : Nat) :
    (retire slot r s).folio k =
      if k = r.folio then
        (if f.state = .closed ∧ f.members ≤ 1 then none else some { f with members := f.members - 1 })
      else s.folio k := by
  obtain ⟨u, hu, hfolios⟩ : ∃ u : State, (retire slot r s).folio k = (loseMember r.folio u).folio k ∧
      u.folios = s.folios := ⟨_, rfl, by simp⟩
  rw [hu, loseMember_folio (by rwa [State.folio, hfolios]) (by rwa [hfolios]), State.folio, hfolios]
  rfl

theorem retire_index (h : s.record slot = some r) :
    (retire slot r s).store.index = s.store.index.dropAll r.numbers := by
  simp [retire_eq, retireCredentials_index h]

theorem revokeAll_setManagement (l : List Credential) (m : ManagementPort) :
    revokeAll slot l (s.setManagement m) = (revokeAll slot l s).setManagement m := by
  induction l generalizing s with
  | nil => rfl
  | cons c l ih => rw [revokeAll_cons, revoke_setManagement, ih, revokeAll_cons]

theorem retireCredentials_setManagement (h : s.record slot = some r) (m : ManagementPort) :
    retireCredentials slot r (s.setManagement m) = (retireCredentials slot r s).setManagement m := by
  rw [retireCredentials_eq h, retireCredentials_eq (s := s.setManagement m) h, revokeAll_setManagement]
  cases r.reservation with
  | none => rfl
  | some v => exact endReservation_setManagement _ m slot _ v

theorem leaveWatch_setManagement (m : ManagementPort) :
    leaveWatch slot (s.setManagement m) = (leaveWatch slot s).setManagement m := by
  by_cases h : (s.passage.watch.any fun e => decide (e.slot = slot)) = true <;>
    simp only [leaveWatch, State.setManagement_passage, h, if_true, if_false, setWatch_setManagement,
      Bool.false_eq_true]

theorem retire_setManagement (h : s.record slot = some r) (m : ManagementPort) :
    retire slot r (s.setManagement m) = (retire slot r s).setManagement m := by
  rw [retire_eq, retire_eq, retireCredentials_setManagement h]
  simp only [vacateSlot, leaveCabin_of_setManagement, leaveWatch_setManagement, State.setManagement_passage,
    State.setCounts_setManagement, reconcile_setManagement, loseMember_setManagement]
  rfl

end

/-! ### The ordered checks -/

theorem opensTabs_iff {s : State} {slot : Nat} :
    s.opensTabs slot = true ↔ ∃ e ∈ s.tabs.entries, e.2.opener = slot := by
  simp [State.opensTabs]

theorem retireRefusal_setManagement (slot : Nat) (r : Record) (s : State) (m : ManagementPort) :
    retireRefusal slot r (s.setManagement m) = retireRefusal slot r s := rfl

/-- The refusal of a RETIRE_RECORD is that of the first check that fails (R17). -/
theorem retireRefusal_of_firstRefusal {s : State} {slot : Nat} {r : Record} {f : Folio} {code : ReplyCode}
    (hf : s.folio r.folio = some f)
    (h : firstRefusal
      [(r.location = .aboard ∨ r.location = .ashore, .wrongState), (∃ e ∈ s.tabs.entries, e.2.opener = slot, .tabsOpen),
        (f.members ≤ 1 ∧ f.state ≠ .closed, .folioOpen)] code) : retireRefusal slot r s = some code := by
  rw [retireRefusal, hf]
  exact check_of_firstRefusal Iff.rfl h fun h => check_of_firstRefusal opensTabs_iff h fun h =>
    check_of_firstRefusal Iff.rfl h False.elim

theorem retireRefusal_none {s : State} {slot : Nat} {r : Record} {f : Folio}
    (hl : r.location = .notEmbarked ∨ r.location = .disembarked) (ht : ∀ e ∈ s.tabs.entries, e.2.opener ≠ slot)
    (hf : s.folio r.folio = some f) (hm : 1 < f.members ∨ f.state = .closed) : retireRefusal slot r s = none := by
  have h1 : ¬ (r.location = .aboard ∨ r.location = .ashore) := by rcases hl with h | h <;> simp [h]
  have h2 : ¬ s.opensTabs slot = true := fun h => by
    obtain ⟨e, he, ho⟩ := opensTabs_iff.mp h
    exact ht e he ho
  have h3 : ¬ (f.members ≤ 1 ∧ f.state ≠ .closed) := by
    rintro ⟨h, hc⟩
    rcases hm with hm | hm
    · omega
    · exact hc hm
  rw [retireRefusal, if_neg h1, if_neg h2, hf]
  exact if_neg h3

/-- Settles O20: the retirement field by field, and the ordered checks. -/
theorem retireRecordFreesTheSlot : Obligations.RetireRecordFreesTheSlot := by
  refine ⟨?_, fun s slot r f code hready hslot hr hf hfirst => ?_⟩
  · intro s slot r f hready hslot hr hl htabs hlen hf hm hw hwi hwf hwc
    have hpass := retireRefusal_none hl htabs hf hm
    have hkept : NoticeKept s (retire slot r s) := retire_noticeKept hl
    have hindex : ∀ n, (retire slot r s).store.index.find n =
        if n ∈ r.numbers then none else s.store.index.find n := fun n => by
      rw [retire_index hr, Table.find_dropAll _ hwi]
    refine ⟨retire slot r s, ?_, ?_, ?_, ?_, ?_, ?_, hkept.tabLevel, hkept.lastRefusal, hkept.silentPorts,
      hkept.errorPorts, ?_, ?_, ?_, ?_, ?_, ?_, ?_, ?_, ?_, ?_, ?_, ?_, ?_, ?_, ?_, ?_, ?_, ?_, ?_⟩
    · refine manage_checked hready (by simp) (readSlot_body hslot) (fun m => ?_) (by simp) (by simp [retire_eq])
        (by simp)
      rw [withRecord_some (r := r) (by simpa using hr), retireRefusal_setManagement, hpass, retire_setManagement hr]
      rfl
    · simp [retire_record hw]
    · intro k hk
      simp [retire_record hw, hk]
    · have h1 : (retire slot r s).store.revoked = (revokeAll slot r.credentials s).store.revoked := by
        rw [← retireCredentials_revoked hr, retire_eq, vacateSlot_store]
      rw [h1, revokeAll_revoked slot r.credentials hlen, retirements]
    · rw [retire_eq, vacateSlot_notice_pending hl, retireCredentials_notice_pending hr,
        revokeAll_notice_pending slot r.credentials hlen]
    · rw [retire_recordLevel]
      have hset : (retire slot r s).settings = s.settings := by simp [retire_eq]
      simp [State.level, thresholdCount, hset]
      rfl
    · intro c hc
      rw [hindex, if_pos (Record.mem_numbers.mpr (.inl ⟨c, hc, rfl⟩))]
    · intro v hv
      rw [hindex, if_pos (Record.mem_numbers.mpr (.inr ⟨v, hv, rfl⟩))]
    · intro n hcred hres
      rw [hindex, if_neg]
      rw [Record.mem_numbers]
      rintro (⟨c, hc, h⟩ | ⟨v, hv, h⟩)
      · exact hcred c hc h
      · exact hres v hv h
    · rw [retire_eq, vacateSlot_counts, retireCredentials_passage]
      rfl
    · rw [retire_eq, vacateSlot_watch, retireCredentials_passage]
    · intro n
      rw [retire_cabin slot r hwc]
      split <;> rfl
    · intro n
      rw [retire_cabin slot r hwc]
      split <;> exact ⟨rfl, rfl⟩
    · rw [retire_folio hf hwf, if_pos rfl]
    · intro k hk
      rw [retire_folio hf hwf, if_neg hk]
    all_goals simp [retire_eq, leaveCabin?_roles, leaveCabin?_policies]
  · have hrefused := retireRefusal_of_firstRefusal hf hfirst
    refine manage_checked hready (by simp) (readSlot_body hslot) (fun m => ?_) rfl rfl rfl
    rw [withRecord_some (r := r) (by simpa using hr), retireRefusal_setManagement, hrefused]
    rfl

end Sys2Proof.Machine
end

section
/-! The decisions of a lock: UNLOCK at a cabin lock and at a zone lock, and LOCK_MODE: O23, O24 and O25. -/

namespace Sys2Proof.Machine

/-! ### The checks of UNLOCK -/

section
variable {s : State} {slot c z role : Nat} {r : Record} {b : Binding}

/-- The location passes the fourth check of UNLOCK (R43). -/
def Record.unlocksFrom (r : Record) (s : State) : Prop :=
  r.location = .aboard ∨ (r.location = .ashore ∧ (s.access.policies.get r.cls).ashoreCheck = false)

theorem unlockLocation_none (h : r.unlocksFrom s) : unlockLocation r s = none := by
  rcases h with h | ⟨h, hc⟩
  · simp [unlockLocation, h]
  · simp [unlockLocation, h, hc]

theorem unlockResult_of_location {b : Option Binding} {d : Result} (h : unlockLocation r s = some d) :
    unlockResult slot r b s = d := by
  simp [unlockResult, h]

theorem unlockResult_notEmbarked {b : Option Binding} (h : r.location = .notEmbarked) :
    unlockResult slot r b s = .denyNotEmbarked :=
  unlockResult_of_location (by simp [unlockLocation, h])

theorem unlockResult_disembarked {b : Option Binding} (h : r.location = .disembarked) :
    unlockResult slot r b s = .denyDeparted :=
  unlockResult_of_location (by simp [unlockLocation, h])

theorem unlockResult_ashore {b : Option Binding} (h : r.location = .ashore)
    (hc : (s.access.policies.get r.cls).ashoreCheck = true) : unlockResult slot r b s = .denyAshore :=
  unlockResult_of_location (by simp [unlockLocation, h, hc])

theorem unlockResult_cabin (h : r.unlocksFrom s) :
    unlockResult slot r (some (.cabin c)) s = cabinDecision slot r c s := by
  simp [unlockResult, unlockLocation_none h]

theorem unlockResult_zone (h : r.unlocksFrom s) : unlockResult slot r (some (.zone z)) s = zoneDecision r z s := by
  simp [unlockResult, unlockLocation_none h, Binding.number]

theorem roleOf_some (h : r.role = some role) : roleOf r s = s.role role := by
  simp [roleOf, h]

theorem cabinDecision_held (hl : r.life = .held) (h : r.cls = .crew ∨ slot ∉ (s.cabin c).occupants) :
    cabinDecision slot r c s = .denyHeld := by
  simp [cabinDecision, hl, h]

theorem cabinDecision_occupant (h : r.life = .active ∨ r.cls ≠ .crew) (ho : slot ∈ (s.cabin c).occupants) :
    cabinDecision slot r c s = occupantResult (s.cabin c).mode := by
  rcases h with h | h <;> simp [cabinDecision, h, ho]

theorem cabinDecision_stranger (hl : r.life = .active) (hc : r.cls ≠ .crew) (ho : slot ∉ (s.cabin c).occupants) :
    cabinDecision slot r c s = .denyNotOccupant := by
  simp [cabinDecision, hl, hc, ho]

theorem cabinDecision_crew (hl : r.life = .active) (hc : r.cls = .crew) (ho : slot ∉ (s.cabin c).occupants)
    (hr : r.role = some role) :
    cabinDecision slot r c s = crewResult (s.role role) (s.cabin c) s.muster.phase := by
  simp [cabinDecision, hl, hc, ho, roleOf_some hr]

theorem occupantResult_lockout : occupantResult .lockout = .denyLockout := rfl

theorem occupantResult_open {m : CabinMode} (h : m ≠ .lockout) : occupantResult m = .ok := by
  cases m with
  | lockout => exact absurd rfl h
  | normal | privacy | service => rfl

theorem zoneDecision_held (hl : r.life = .held) : zoneDecision r z s = .denyHeld := by
  simp [zoneDecision, hl]

theorem zoneDecision_active (hl : r.life = .active) :
    zoneDecision r z s = if r.cls = .crew ∧ (roleOf r s).zones.getLsbD z = true then .ok else .denyZone := by
  simp [zoneDecision, hl]

end

section
variable {role : Role} {cabin : Cabin} {phase : Phase}

theorem crewResult_outside (h : role.cabin = false ∨ role.zones.getLsbD cabin.zone = false) :
    crewResult role cabin phase = .denyZone := by
  rcases h with h | h <;> simp [crewResult, h]

theorem crewResult_open (hc : role.cabin = true) (hz : role.zones.getLsbD cabin.zone = true)
    (hm : cabin.mode = .normal ∨ cabin.mode = .service) : crewResult role cabin phase = .ok := by
  rcases hm with hm | hm <;> simp [crewResult, hc, hz, hm]

theorem crewResult_privacy (hc : role.cabin = true) (hz : role.zones.getLsbD cabin.zone = true)
    (hm : cabin.mode = .privacy) : crewResult role cabin phase =
      if role.privacyOverride = true ∨ (role.sweep = true ∧ phase = .muster) then .ok else .denyPrivacy := by
  simp [crewResult, hc, hz, hm]

theorem crewResult_lockout (hc : role.cabin = true) (hz : role.zones.getLsbD cabin.zone = true)
    (hm : cabin.mode = .lockout) : crewResult role cabin phase =
      if role.lockoutOverride = true ∨ (role.sweep = true ∧ phase = .muster) then .ok else .denyLockout := by
  simp [crewResult, hc, hz, hm]

end

/-! ### The take of an UNLOCK -/

theorem isLock_cabin {e : TerminalEntry} {c : Nat} (hk : e.kind = some .lock) (hb : e.binding = some (.cabin c)) :
    isLock e = true := by
  simp [isLock, hk, hb]

theorem isLock_zone {e : TerminalEntry} {z : Nat} (hk : e.kind = some .lock) (hb : e.binding = some (.zone z)) :
    isLock e = true := by
  simp [isLock, hk, hb]

section
variable {s : State} {p : Port} {e : TerminalEntry} {f : Frame} {n slot : Nat} {r : Record}

theorem decideUnlock_found (hn : f.field 0 6 = n) (hl : lookup s n = .found slot r) :
    decideUnlock p e f s =
      { result := unlockResult slot r e.binding s
        body := unlockBody r.guestMessage (modeAtTake e.binding s)
        credential := some n
        slot := some slot
        state := consumeMessage slot r s } := by
  simp only [decideUnlock, hn, hl]

theorem decideUnlock_missed (hn : f.field 0 6 = n) (h : ∀ slot r, lookup s n ≠ .found slot r) :
    decideUnlock p e f s = notFound p f n (lookup s n) (unlockBody none (modeAtTake e.binding s)) s := by
  unfold decideUnlock
  cases hl : lookup s n with
  | found slot r => exact absurd hl (h slot r)
  | pending | revoked | unknown => simp only [hn, hl]

theorem unlock_field (hbody : f.body = bytes 6 n) (hn : n < 2 ^ 48) : f.field 0 6 = n :=
  Frame.field_eq (front := []) (rest := []) (by simpa using hbody) rfl hn

/-- An UNLOCK whose number finds a record is answered with the decision on the record (R43 to R49). -/
theorem unlock_found {x : Result} (h : s.takes p e f) (hlock : isLock e = true) (hk : f.kind = 0x10)
    (hbody : f.body = bytes 6 n) (hfinds : s.finds n slot r) (hx : unlockResult slot r e.binding s = x) :
    exec (.unlock p) s = .next (unlockRefused s p f n slot r x (modeAtTake e.binding s)) := by
  have hn : f.field 0 6 = n := unlock_field hbody hfinds.2.1
  subst hx
  refine takeRequest_decided
    ⟨unlockResult slot r e.binding s, unlockBody r.guestMessage (modeAtTake e.binding s), some n, some slot,
      consumeMessage slot r s⟩ h hk hlock (by simp [hbody]) (fun b => ?_) (consumeMessage_ports s slot r)
  rw [decideUnlock_found (s := s.setPorts b) hn (lookup_of_finds hfinds), consumeMessage_setPorts]
  rfl

/-- An UNLOCK that opens reports nothing. -/
theorem unlockRefused_ok (mode : Option CabinMode) :
    unlockRefused s p f n slot r .ok mode =
      (consumeMessage slot r s).answered p f .ok
        (optional byte r.guestMessage ++ optional (fun m => byte (cabinModeCode m)) mode) := by
  rw [unlockRefused, reportRefusal_ok rfl]

/-- An UNLOCK whose number finds no record is answered with the mode of the bound cabin alone (R49). -/
theorem unlock_missed {x : Result} {t : State} (h : s.takes p e f) (hlock : isLock e = true) (hk : f.kind = 0x10)
    (hbody : f.body = bytes 6 n) (hn : n < 2 ^ 48) (hm : lookupMisses s p f n x t) :
    exec (.unlock p) s = .next (t.answered p f x (unlockBody none (modeAtTake e.binding s))) :=
  takeRequest_missed h hk hlock (by simp [hbody]) hm fun _ => decideUnlock_missed (unlock_field hbody hn)

end

/-- Settles O23: each clause names the check that decides at a cabin lock, those before it having passed. -/
theorem unlockAtACabinLock : Obligations.UnlockAtACabinLock := by
  intro s p e f n c htakes he hb hk hbody cabin
  have hlock := isLock_cabin he hb
  have hmode : modeAtTake e.binding s = some cabin.mode := by rw [hb]; rfl
  refine ⟨fun x t hn hm => ?_, fun slot r hfinds => ?_⟩
  · have h := unlock_missed htakes hlock hk hbody hn hm
    rwa [hmode] at h
  intro opened refused here sweeps privacy lockout
  have hresult : ∀ {x}, unlockResult slot r (some (.cabin c)) s = x → exec (.unlock p) s = .next (refused x) := by
    intro x hx
    have h := unlock_found htakes hlock hk hbody hfinds (by rw [hb, hx])
    rwa [hmode] at h
  have hdecided : ∀ {x}, here → cabinDecision slot r c s = x → exec (.unlock p) s = .next (refused x) :=
    fun hhere hx => hresult ((unlockResult_cabin hhere).trans hx)
  have hopened : refused .ok = opened := unlockRefused_ok _
  refine ⟨fun hl => hresult (unlockResult_notEmbarked hl), fun hl => hresult (unlockResult_disembarked hl),
    fun hl hc => hresult (unlockResult_ashore hl hc), fun hh hl ho => hdecided hh (cabinDecision_held hl ho),
    fun hh hl ho => ⟨fun hm => ?_, fun hm => ?_⟩, fun hh hl hc ho => hdecided hh (cabinDecision_stranger hl hc ho),
    fun role hh hl hc ho hr => ?_⟩
  · rw [← hopened]
    exact hdecided hh ((cabinDecision_occupant hl ho).trans (occupantResult_open hm))
  · exact hdecided hh ((cabinDecision_occupant hl ho).trans (by rw [hm, occupantResult_lockout]))
  · have hcrew : ∀ {x}, crewResult (s.role role) cabin s.muster.phase = x → exec (.unlock p) s = .next (refused x) :=
      fun hx => hdecided hh ((cabinDecision_crew hl hc ho hr).trans hx)
    rw [← hopened]
    refine ⟨fun hz => hcrew (crewResult_outside hz), fun hcab hz => ⟨fun hm => hcrew (crewResult_open hcab hz hm),
      fun hm => ⟨fun hp => ?_, fun hp => ?_⟩, fun hm => ⟨fun hp => ?_, fun hp => ?_⟩⟩⟩
    · exact hcrew ((crewResult_privacy hcab hz hm).trans (if_pos hp))
    · exact hcrew ((crewResult_privacy hcab hz hm).trans (if_neg hp))
    · exact hcrew ((crewResult_lockout hcab hz hm).trans (if_pos hp))
    · exact hcrew ((crewResult_lockout hcab hz hm).trans (if_neg hp))

/-- Settles O24: each clause names the check that decides at a zone lock, those before it having passed. -/
theorem unlockAtAZoneLock : Obligations.UnlockAtAZoneLock := by
  intro s p e f n z htakes he hb hk hbody
  have hlock := isLock_zone he hb
  have hmode : modeAtTake e.binding s = none := by rw [hb]; rfl
  refine ⟨fun x t hn hm => ?_, fun slot r hfinds => ?_⟩
  · have h := unlock_missed htakes hlock hk hbody hn hm
    rwa [hmode] at h
  intro refused here
  have hresult : ∀ {x}, unlockResult slot r (some (.zone z)) s = x → exec (.unlock p) s = .next (refused x) := by
    intro x hx
    have h := unlock_found htakes hlock hk hbody hfinds (by rw [hb, hx])
    rwa [hmode] at h
  have hdecided : ∀ {x}, here → zoneDecision r z s = x → exec (.unlock p) s = .next (refused x) :=
    fun hhere hx => hresult ((unlockResult_zone hhere).trans hx)
  refine ⟨fun hl => hresult (unlockResult_notEmbarked hl), fun hl => hresult (unlockResult_disembarked hl),
    fun hl hc => hresult (unlockResult_ashore hl hc), fun hh hl => hdecided hh (zoneDecision_held hl),
    fun role hh hl hc hr hz => ?_, fun role hh hl hc hr hz => ?_, fun hh hl hc => ?_⟩
  · have hopened : refused .ok = _ := unlockRefused_ok none
    have h := hdecided hh ((zoneDecision_active hl).trans (if_pos ⟨hc, by rwa [roleOf_some hr]⟩))
    rwa [hopened] at h
  · refine hdecided hh ((zoneDecision_active hl).trans (if_neg ?_))
    simp [roleOf_some hr, hz]
  · exact hdecided hh ((zoneDecision_active hl).trans (if_neg fun h => hc h.1))

/-! ### LOCK_MODE -/

theorem isCabinLock_of {e : TerminalEntry} {c : Nat} (hk : e.kind = some .lock) (hb : e.binding = some (.cabin c)) :
    isCabinLock e = true := by
  simp [isCabinLock, hk, hb]

/-- A setting of LOCK_MODE other than the two (R36). -/
theorem lockSetting_none {b : Byte} (h0 : b ≠ 0x00) (h1 : b ≠ 0x01) : lockSetting b.toNat = none := by
  unfold lockSetting flagOf
  split
  · exact absurd (BitVec.eq_of_toNat_eq ‹_›) h0
  · exact absurd (BitVec.eq_of_toNat_eq ‹_›) h1
  · rfl

section
variable {s : State} {e : TerminalEntry} {f : Frame} {c : Nat} {on : Bool}

theorem lockMode_setting (h : f.body = flagByte on) : lockSetting (f.field 0 1) = some on := by
  have hcode := flagCode_lt on
  have hfield : f.field 0 1 = flagCode on :=
    Frame.field_eq (front := []) (rest := []) (by simpa [flagByte, byte] using h) rfl (by omega)
  rw [hfield]
  exact flagOf_flagCode on

theorem decideLockMode_range (h : lockSetting (f.field 0 1) = none) : decideLockMode e f s = bare .range s := by
  simp only [decideLockMode, h]

theorem decideLockMode_taken (h : lockSetting (f.field 0 1) = some on) (hb : e.boundTo = c)
    (hm : (s.cabin c).mode = .normal ∨ (s.cabin c).mode = .privacy) :
    decideLockMode e f s =
      { bare .ok (s.putCabin c { s.cabin c with mode := if on then .privacy else .normal }) with
        body := byte (if on then 1 else 0) } := by
  rcases hm with hm | hm <;> cases on <;> simp only [decideLockMode, h, hb, hm] <;> rfl

theorem decideLockMode_denied (h : lockSetting (f.field 0 1) = some on) (hb : e.boundTo = c)
    (hm : (s.cabin c).mode = .service ∨ (s.cabin c).mode = .lockout) :
    decideLockMode e f s = { bare .denyMode s with body := byte (cabinModeCode (s.cabin c).mode) } := by
  rcases hm with hm | hm <;> simp only [decideLockMode, h, hb, hm]

end

/-- Settles O25: a setting of the two by the mode of the cabin, and any other setting. -/
theorem lockModeByModeAtTake : Obligations.LockModeByModeAtTake := by
  intro s p e f c htakes he hb hk
  have hlock := isCabinLock_of he hb
  have hbound : e.boundTo = c := TerminalEntry.boundTo_of hb
  refine ⟨fun on hbody => ⟨fun hm => ?_, fun hm => ?_⟩, fun setting hbody h0 h1 => ?_⟩
  · refine (takeRequest_decided
      { bare .ok (s.putCabin c { s.cabin c with mode := if on then .privacy else .normal }) with
        body := byte (if on then 1 else 0) } htakes hk hlock (by simp [hbody])
      (fun b => decideLockMode_taken (s := s.setPorts b) (lockMode_setting hbody) hbound hm) rfl).trans ?_
    rw [reportRefusal_ok rfl]
    rfl
  · exact takeRequest_decided { bare .denyMode s with body := byte (cabinModeCode (s.cabin c).mode) } htakes hk hlock
      (by simp [hbody]) (fun b => decideLockMode_denied (s := s.setPorts b) (lockMode_setting hbody) hbound hm) rfl
  · have hfield : f.field 0 1 = setting.toNat :=
      Frame.field_eq (front := []) (rest := []) (by simp [hbody, bytes_one_toNat]) rfl setting.isLt
    exact takeRequest_decided (bare .range s) htakes hk hlock (by simp [hbody])
      (fun b => decideLockMode_range (s := s.setPorts b) (by rw [hfield, lockSetting_none h0 h1])) rfl

end Sys2Proof.Machine
end

section
/-! The requests of the host on the access tables: O26 and O27. -/

namespace Sys2Proof.Machine

/-! ### The zones of a run of cabins -/

/-- A load of zones writes the cabin table alone. -/
theorem loadZones_eq (zones : List Nat) (first : Nat) (s : State) :
    loadZones first zones s =
      { s with access := { s.access with cabins := (loadZones first zones s).access.cabins } } := by
  induction zones generalizing first s with
  | nil => rfl
  | cons z zs ih =>
    rw [loadZones, ih]
    rfl

theorem loadZones_setManagement (zones : List Nat) (first : Nat) (s : State) (m : ManagementPort) :
    loadZones first zones (s.setManagement m) = (loadZones first zones s).setManagement m := by
  induction zones generalizing first s with
  | nil => rfl
  | cons z zs ih => exact ih (first + 1) (s.putCabin first { s.cabin first with zone := z })

/-- A cabin takes the zone that stands at its place in the run, and keeps its own outside the run (R30). -/
theorem loadZones_cabin (zones : List Nat) (first : Nat) {s : State} (hw : Table.wf s.access.cabins = true) (n : Nat) :
    (loadZones first zones s).cabin n =
      if h : first ≤ n ∧ n - first < zones.length then { s.cabin n with zone := zones[n - first]'h.2 }
      else s.cabin n := by
  induction zones generalizing first s with
  | nil => simp [loadZones]
  | cons z zs ih =>
    rw [loadZones, ih (first + 1) (State.putCabin_wf _ _ hw), State.putCabin_cabin _ _ hw]
    by_cases hfirst : n = first
    · subst hfirst
      simp
    · by_cases hrun : first + 1 ≤ n ∧ n - (first + 1) < zs.length
      · have hin : first ≤ n ∧ n - first < (z :: zs).length := by
          rw [List.length_cons]
          omega
        have hat : n - first = n - (first + 1) + 1 := by omega
        rw [dif_pos hrun, dif_pos hin, if_neg hfirst]
        simp only [hat, List.getElem_cons_succ]
      · have hout : ¬ (first ≤ n ∧ n - first < (z :: zs).length) := by
          rw [List.length_cons]
          omega
        rw [dif_neg hrun, dif_neg hout, if_neg hfirst]

/-! ### ASSIGN_CABIN and VACATE_CABIN -/

section
variable {s : State} {slot c : Nat} {r : Record}

theorem Record.assigned_home (h : r.homeCabin = none) : r.assigned c = { r with homeCabin := some c } := by
  simp [Record.assigned, h]

theorem Record.assigned_second {home : Nat} (h : r.homeCabin = some home) :
    r.assigned c = { r with secondCabin := some c } := by
  simp [Record.assigned, h]

/-- The refusal of an ASSIGN_CABIN is that of the first check that fails (R31). -/
theorem assignRefusal_of_firstRefusal {code : ReplyCode}
    (h : firstRefusal
      [(r.homeCabin = some c ∨ r.secondCabin = some c, .duplicate), (6 ≤ (s.cabin c).occupants.length, .full),
        (r.homeCabin ≠ none ∧ r.secondCabin ≠ none, .full)] code) : assignRefusal r c s = some code := by
  have hboth : (r.homeCabin.isSome = true ∧ r.secondCabin.isSome = true) ↔
      (r.homeCabin ≠ none ∧ r.secondCabin ≠ none) := by
    rw [Option.isSome_iff_ne_none, Option.isSome_iff_ne_none]
  exact check_of_firstRefusal Record.names_iff h fun h => check_of_firstRefusal Iff.rfl h fun h =>
    check_of_firstRefusal hboth h False.elim

theorem assignRefusal_pass (hn : ¬ (r.homeCabin = some c ∨ r.secondCabin = some c))
    (hroom : (s.cabin c).occupants.length < 6) (hs : r.secondCabin = none) : assignRefusal r c s = none := by
  have hfull : ¬ Config.cabinOccupants ≤ (s.cabin c).occupants.length := by
    simp only [Config.cabinOccupants]
    omega
  rw [assignRefusal, if_neg (mt Record.names_iff.mp hn), if_neg hfull, if_neg (by simp [hs])]

/-- An ASSIGN_CABIN that passes its checks appends the record to the cabin and the cabin to the record (R32). -/
theorem assignCabin_done (h : s.ready) (hslot : slot < 12288) (hc : c < 3072) (hr : s.record slot = some r)
    (hpass : assignRefusal r c s = none) :
    exec (.assignCabin (bytes 2 slot ++ bytes 2 c)) s =
      .next
        (((s.putRecord slot (r.assigned c)).putCabin c
          { s.cabin c with occupants := (s.cabin c).occupants ++ [slot] }).replied 0x21 (bytes 2 slot ++ bytes 2 c)
          .done (byte ((s.cabin c).occupants.length + 1) ++ byte (if r.homeCabin.isNone then 0 else 1))) := by
  refine manage_checked h (by simp) (readSlotCabin_body hslot hc) (fun m => ?_) rfl rfl rfl
  have hpass' : assignRefusal r c (s.setManagement m) = none := hpass
  rw [withRecord_some (r := r) (by simpa using hr), hpass']
  rfl

/-- A VACATE_CABIN of a cabin that the record names takes each out of the other (R33). -/
theorem vacateCabin_done (h : s.ready) (hslot : slot < 12288) (hc : c < 3072) (hr : s.record slot = some r)
    (hw : Table.wf s.access.cabins = true) (hn : r.homeCabin = some c ∨ r.secondCabin = some c) :
    exec (.vacateCabin (bytes 2 slot ++ bytes 2 c)) s =
      .next
        ((leaveCabin slot c (s.putRecord slot (r.vacated c))).replied 0x22 (bytes 2 slot ++ bytes 2 c) .done
          (byte ((s.cabin c).occupants.filter fun o => decide (o ≠ slot)).length)) := by
  refine manage_checked h (by simp) (readSlotCabin_body hslot hc) (fun m => ?_) rfl rfl rfl
  have hleft : (leaveCabin slot c ((s.setManagement m).putRecord slot (r.vacated c))).cabin c =
      { s.cabin c with occupants := (s.cabin c).occupants.filter fun o => decide (o ≠ slot) } :=
    (leaveCabin?_cabin slot (some c) hw c).trans (if_pos rfl)
  rw [withRecord_some (r := r) (by simpa using hr)]
  simp only [Record.names_iff.mpr hn, Bool.not_true, Bool.false_eq_true, if_false, hleft]
  rfl

end

theorem cabinZones_length_le (first : Nat) (zones : List Nat) (h : zones.length ≤ 32) :
    (bytes 2 first ++ byte zones.length ++ zones.flatMap byte).length ≤ 1024 := by
  have hflat : (zones.flatMap byte).length = zones.length := by simp [List.length_flatMap]
  simp only [List.length_append, bytes_length, byte_length, hflat]
  omega

/-- Settles O26: the cabin after the load of its zones, and the requests on one cabin. -/
theorem cabinRequestsAllComplete : Obligations.CabinRequestsAllComplete := by
  refine ⟨fun s first zones hready h1 h2 h3 hz hw => ?_, fun s slot c r hready hslot hc hr =>
    ⟨fun hh h2 hroom => ?_, fun home hh hne h2 hroom => ?_, fun code hcode => ?_, fun hw hn => ?_, fun mode => ?_⟩⟩
  · have heq := loadZones_eq zones first s
    refine ⟨loadZones first zones s, ?_, loadZones_cabin zones first hw, heq⟩
    exact manage_checked hready (cabinZones_length_le first zones h2) (readCabinZones_body h1 h2 h3 hz)
      (fun m => by rw [loadZones_setManagement]; rfl) (by rw [heq]) (by rw [heq]) (by rw [heq])
  · have h := assignCabin_done hready hslot hc hr (assignRefusal_pass (by simp [hh, h2]) hroom h2)
    have hplace : (if r.homeCabin.isNone then 0 else 1) = 0 := by simp [hh]
    rwa [Record.assigned_home hh, hplace] at h
  · have h := assignCabin_done hready hslot hc hr (assignRefusal_pass (by simp [hh, h2, hne]) hroom h2)
    have hplace : (if r.homeCabin.isNone then 0 else 1) = 1 := by simp [hh]
    rwa [Record.assigned_second hh, hplace] at h
  · refine manage_checked hready (by simp) (readSlotCabin_body hslot hc) (fun m => ?_) rfl rfl rfl
    have hrefused : assignRefusal r c (s.setManagement m) = some code := assignRefusal_of_firstRefusal hcode
    rw [withRecord_some (r := r) (by simpa using hr), hrefused]
    rfl
  · exact vacateCabin_done hready hslot hc hr hw hn
  · exact manage_checked hready (by simp) (readCabinMode_body hc) (fun m => rfl) rfl rfl rfl

/-! ### Roles, policies and the reads -/

theorem listBytes_run (f : Nat → List Byte) (first count : Nat) :
    listBytes f (run first count) = byte count ++ (List.range count).flatMap fun i => f (first + i) := by
  simp [listBytes, run, byte, List.flatMap_map]

/-- Settles O27: each request reads its operands, and writes or answers from its table. -/
theorem roleAndPolicyRequestsComplete : Obligations.RoleAndPolicyRequestsComplete := by
  refine fun s => ⟨fun hready => ⟨fun n role hn => ?_, fun slot n old r hslot hn hr hcls hold => ?_,
    fun c check b => ?_⟩, fun hidle => ⟨fun first count h1 h2 h3 => ?_, fun n hn => ?_⟩⟩
  · exact manage_checked hready (by simp [roleBody]) (readRoleLoad_body hn) (fun m => rfl) rfl rfl rfl
  · refine manage_putRecord hready (by simp)
      (readSlotAnd_body hslot (by omega) (show upTo 31 n = some n by simp [upTo]; omega)) fun m => ?_
    rw [withRecord_some (r := r) (by simpa using hr)]
    simp [hcls, hold]
  · exact manage_checked hready (by simp) readClassPolicy_body (fun m => rfl) rfl rfl rfl
  · exact manage_read hidle (by decide) (by simp)
      (readRun_body (by omega) h1 h2 (by simpa [Config.cabins] using h3) (by omega))
      fun m => by rw [listBytes_run]; rfl
  · exact manage_read hidle (by decide) (by simp)
      (readNumber_body (by omega) (decide_eq_true hn)) fun m => rfl

end Sys2Proof.Machine
end

section
/-! The counts of the records: what the count matrix, the muster counts and tallies and the member counts are counts of,
and what each entry of the books does to a count (R53, R89, R101). -/

namespace Sys2Proof.Table

variable {α : Type}

/-- The number of entries whose value meets a test. -/
def count (p : α → Bool) (t : Table α) : Nat := List.countP (fun e => p e.2) t

/-- What the entry at a key, if there is one, adds to a count. -/
def share (p : α → Bool) (o : Option α) : Nat := (o.map fun v => (p v).toNat).getD 0

@[simp] theorem share_none (p : α → Bool) : share p none = 0 := rfl

@[simp] theorem share_some (p : α → Bool) (v : α) : share p (some v) = (p v).toNat := rfl

@[simp] theorem count_nil (p : α → Bool) : count p [] = 0 := rfl

theorem count_cons (p : α → Bool) (k : Nat) (v : α) (t : Table α) :
    count p ((k, v) :: t) = count p t + (p v).toNat := by
  cases h : p v <;> simp [count, h]

/-- A write adds the share of the new value in place of that of the old one. -/
theorem count_put (p : α → Bool) {t : Table α} (k : Nat) (v : α) (hw : wf t = true) :
    count p (put t k v) + share p (find t k) = count p t + (p v).toNat := by
  induction t with
  | nil => simp [put, count_cons]
  | cons e t ih =>
    obtain ⟨j, w⟩ := e
    simp only [put]
    rcases lt_trichotomy k j with hlt | rfl | hgt
    · have hfree : find ((j, w) :: t) k = none := by
        rw [find_cons, if_neg (by omega)]
        exact find_below fun e he => lt_trans hlt (wf_above hw e he)
      rw [if_pos hlt, count_cons p k, hfree, share_none, Nat.add_zero]
    · rw [if_neg (lt_irrefl k), if_pos rfl, find_cons, if_pos rfl, count_cons, count_cons, share_some]
      omega
    · rw [if_neg (by omega), if_neg (by omega), find_cons, if_neg (by omega), count_cons, count_cons]
      have := ih (wf_tail hw)
      omega

/-- The end of an entry takes its share out of a count. -/
theorem count_drop (p : α → Bool) (t : Table α) (k : Nat) :
    count p (drop t k) + share p (find t k) = count p t := by
  induction t with
  | nil => rfl
  | cons e t ih =>
    obtain ⟨j, w⟩ := e
    simp only [drop, find_cons]
    split
    · rw [count_cons, share_some]
    · rw [count_cons, count_cons]
      omega

theorem count_mapValues (p : α → Bool) (f : α → α) (t : Table α) :
    count p (mapValues f t) = count (fun v => p (f v)) t := by
  simp [count, mapValues, List.countP_map, Function.comp_def]

theorem count_eq_zero_of (p : α → Bool) {t : Table α} (h : ∀ v, p v = false) : count p t = 0 :=
  List.countP_eq_zero.mpr fun e _ => by simp [h]

/-- An entry that meets the test is counted. -/
theorem count_pos {p : α → Bool} {t : Table α} {k : Nat} {v : α} (h : find t k = some v) (hp : p v = true) :
    0 < count p t :=
  List.countP_pos_iff.mpr ⟨(k, v), mem_of_find h, hp⟩

end Sys2Proof.Table

namespace Sys2Proof.Machine

/-! ### The books -/

/-- What the laws of the counts read of the state: the records, the count matrix, the mustered counts and the station
tallies, and the folios. -/
structure Ledger where
  records : Table Record
  counts : ByClass (ByLocation Nat)
  mustered : ByClass Nat
  tallies : Table Nat
  folios : Table Folio

def State.ledger (s : State) : Ledger where
  records := s.store.records
  counts := s.passage.counts
  mustered := s.muster.mustered
  tallies := s.muster.tallies
  folios := s.folios

/-- A record of a class stands in a location (R53). -/
def Record.stands (c : PersonClass) (l : Location) (r : Record) : Bool :=
  decide (r.cls = c) && decide (r.location = l)

/-- A record of a class is checked in (R89). -/
def Record.flagged (c : PersonClass) (r : Record) : Bool := decide (r.cls = c) && r.musterFlag

/-- A record is checked in at a station (R89). -/
def Record.tapped (n : Nat) (r : Record) : Bool := decide (r.musteredAt = some n)

/-- A record is linked to a folio (R101). -/
def Record.linked (folio : Nat) (r : Record) : Bool := decide (r.folio = folio)

/-- The muster fields of a record go together (R89). -/
def Record.musterAgrees (r : Record) : Prop :=
  (r.musterFlag = true ↔ r.musteredAt ≠ none) ∧ (r.musterFlag = true → r.location = .aboard)

/-- The count matrix agrees with the records (R53). -/
def Ledger.counted (l : Ledger) : Prop :=
  Table.wf l.records = true ∧ ∀ c x, cell l.counts c x = Table.count (Record.stands c x) l.records

/-- The muster counts and tallies agree with the records, and the muster fields of each record go together (R89). -/
structure Ledger.musters (l : Ledger) : Prop where
  records : Table.wf l.records = true
  tallies : Table.wf l.tallies = true
  agree : ∀ slot r, l.records.find slot = some r → r.musterAgrees
  mustered : ∀ c, l.mustered.get c = Table.count (Record.flagged c) l.records
  tally : ∀ n, l.tallies.value 0 n = Table.count (Record.tapped n) l.records

/-- One folio's member count agrees with the records linked to it (R98, R101). -/
def Folio.countsMembers (f : Folio) (n : Nat) : Prop :=
  f.members = n ∧ f.members ≤ Config.folioMembers ∧ (f.state = .closed → f.members ≠ 0)

/-- The member counts agree with the records, each linked to a folio in use (R98, R101). -/
structure Ledger.members (l : Ledger) : Prop where
  records : Table.wf l.records = true
  folios : Table.wf l.folios = true
  inUse : ∀ slot r, l.records.find slot = some r → l.folios.find r.folio ≠ none
  counts : ∀ k f, l.folios.find k = some f → f.countsMembers (Table.count (Record.linked k) l.records)

theorem State.countsGood_iff (s : State) : s.countsGood ↔ s.ledger.counted := Iff.rfl

theorem State.musterGood_of {s : State} (h : s.ledger.musters) : s.musterGood :=
  ⟨h.records, h.tallies, h.mustered, h.tally⟩

theorem State.ledger_musters {s : State} (hr : s.recordsGood) (hm : s.musterGood) : s.ledger.musters := by
  obtain ⟨hw, hgood⟩ := hr
  obtain ⟨-, hwt, hmustered, htally⟩ := hm
  refine ⟨hw, hwt, fun slot r h => ?_, hmustered, htally⟩
  obtain ⟨hflag, haboard, -⟩ := hgood slot r h
  exact ⟨hflag, haboard⟩

theorem State.membersGood_iff (s : State) : s.membersGood ↔ s.ledger.members :=
  ⟨fun ⟨hw, hwf, huse, hcount⟩ => ⟨hw, hwf, huse, hcount⟩, fun ⟨hw, hwf, huse, hcount⟩ => ⟨hw, hwf, huse, hcount⟩⟩

/-! ### Entries of the books -/

/-- A record rewritten with the fields that are counted kept. -/
structure Record.SameCounts (r r' : Record) : Prop where
  cls : r'.cls = r.cls
  location : r'.location = r.location
  folio : r'.folio = r.folio
  musterFlag : r'.musterFlag = r.musterFlag
  musteredAt : r'.musteredAt = r.musteredAt

/-- A folio rewritten with its members kept, and closed only with members (R98). -/
structure Folio.SameMembers (f f' : Folio) : Prop where
  members : f'.members = f.members
  closed : f'.state = .closed → f.state = .closed ∨ f.members ≠ 0

/-- The mustered count of a class and the tally of a station changed by one function each (R92, R94). -/
def Ledger.recount (l : Ledger) (c : PersonClass) (station : Nat) (f : Nat → Nat) : Ledger :=
  { l with
    mustered := l.mustered.set c (f (l.mustered.get c))
    tallies := l.tallies.putValue 0 station (f (l.tallies.value 0 station)) }

/-- A folio with one member more (R101). -/
def Folio.joined (f : Folio) : Folio := { f with members := f.members + 1 }

/-- What is left of a folio with one member less: a CLOSED folio ends with its last member (R98, R101). -/
def Folio.left (f : Folio) : Option Folio :=
  if f.state = .closed ∧ f.members - 1 = 0 then none else some { f with members := f.members - 1 }

/-- The folio table after a folio loses a member. -/
def loseIn (t : Table Folio) (slot : Nat) : Table Folio :=
  match t.find slot with
  | some f =>
    match f.left with
    | some f' => t.put slot f'
    | none => t.drop slot
  | none => t

/-- A record moved to a location, with its count (R55). -/
def Ledger.moved (l : Ledger) (slot : Nat) (r : Record) (new : Location) : Ledger :=
  { l with
    records := l.records.put slot (r.relocated new)
    counts := addCell (subCell l.counts r.cls r.location) r.cls new }

/-- One entry in the books. The close of a tab rests on the tab's folio being in use, which holds where the open tabs
are secured. -/
inductive Entry (secured : Prop) : Ledger → Ledger → Prop
  | editRecord (l : Ledger) (slot : Nat) (r r' : Record) (h : l.records.find slot = some r) (hk : r.SameCounts r') :
      Entry secured l { l with records := l.records.put slot r' }
  | mapRecords (l : Ledger) (f : Record → Record) (hk : ∀ r : Record, r.SameCounts (f r)) :
      Entry secured l { l with records := l.records.mapValues f }
  | enterMuster (l : Ledger) :
      Entry secured l
        { l with
          records := l.records.mapValues Record.unmustered
          mustered := { guestAdult := 0, guestMinor := 0, crew := 0, visitor := 0 }
          tallies := [] }
  | checkIn (l : Ledger) (slot : Nat) (r : Record) (station : Nat) (h : l.records.find slot = some r)
      (ha : r.location = .aboard) (hf : r.musterFlag = false) :
      Entry secured l
        (Ledger.recount { l with records := l.records.put slot (r.checkedIn station) } r.cls station (· + 1))
  | move (l : Ledger) (slot : Nat) (r : Record) (new : Location) (h : l.records.find slot = some r)
      (hoff : ¬ (r.location = .aboard ∧ r.musterFlag = true)) : Entry secured l (l.moved slot r new)
  | leave (l : Ledger) (slot : Nat) (r : Record) (new : Location) (h : l.records.find slot = some r)
      (hoff : r.location = .aboard ∧ r.musterFlag = true) :
      Entry secured l ((l.moved slot r new).recount r.cls (r.musteredAt.getD 0) (· - 1))
  | issue (l : Ledger) (slot : Nat) (q : IssueFields) (f : Folio) (hfree : l.records.find slot = none)
      (hf : l.folios.find q.folio = some f) (hm : f.members < Config.folioMembers) :
      Entry secured l
        { l with
          records := l.records.put slot (issuedRecord q)
          counts := addCell l.counts q.cls q.location
          folios := l.folios.put q.folio f.joined }
  | retire (l : Ledger) (slot : Nat) (r : Record) (h : l.records.find slot = some r) (hl : r.location ≠ .aboard) :
      Entry secured l
        { l with
          records := l.records.drop slot
          counts := subCell l.counts r.cls r.location
          folios := loseIn l.folios r.folio }
  | relink (l : Ledger) (slot : Nat) (r : Record) (target : Nat) (f : Folio) (h : l.records.find slot = some r)
      (hf : l.folios.find target = some f) (hne : r.folio ≠ target) (hm : f.members < Config.folioMembers) :
      Entry secured l
        { l with
          records := l.records.put slot { r with folio := target }
          folios := loseIn (l.folios.put target f.joined) r.folio }
  | editFolio (l : Ledger) (slot : Nat) (f' : Folio)
      (h : secured → ∃ f, l.folios.find slot = some f ∧ f.SameMembers f') :
      Entry secured l { l with folios := l.folios.put slot f' }
  | mapFolios (l : Ledger) (g : Folio → Folio) (hk : ∀ f : Folio, f.SameMembers (g f)) :
      Entry secured l { l with folios := l.folios.mapValues g }
  | openFolio (l : Ledger) (slot : Nat) (f : Folio) (hfree : l.folios.find slot = none) (hm : f.members = 0)
      (hs : f.state ≠ .closed) : Entry secured l { l with folios := l.folios.put slot f }
  | endFolio (l : Ledger) (slot : Nat) (f : Folio) (h : l.folios.find slot = some f) (hm : f.members = 0) :
      Entry secured l { l with folios := l.folios.drop slot }
  | reset (l : Ledger) : Entry secured l State.reset.ledger

end Sys2Proof.Machine
end

section
/-! O7, first part: every entry of the books keeps the three laws of the counts. -/

namespace Sys2Proof.Table

variable {α : Type}

theorem share_le_count (p : α → Bool) (t : Table α) (k : Nat) : share p (find t k) ≤ count p t := by
  have := count_drop p t k
  omega

/-- A write that keeps the test of a value keeps the count. -/
theorem count_put_same {p : α → Bool} {t : Table α} {k : Nat} {v w : α} (hw : wf t = true) (h : find t k = some v)
    (hp : p w = p v) : count p (put t k w) = count p t := by
  have := count_put p k w hw
  rw [h, share_some, hp] at this
  omega

/-- In the canonical form a table finds what it lists. -/
theorem find_of_mem {t : Table α} {k : Nat} {v : α} (hw : wf t = true) (h : (k, v) ∈ t) : find t k = some v := by
  induction t with
  | nil => cases h
  | cons e t ih =>
    obtain ⟨j, w⟩ := e
    rw [find_cons]
    rcases List.mem_cons.mp h with he | ht
    · obtain ⟨rfl, rfl⟩ := Prod.mk.inj he
      rw [if_pos rfl]
    · have := wf_above hw _ ht
      rw [if_neg (by simp only at this; omega)]
      exact ih (wf_tail hw) ht

/-- A count of 0, where no entry that the table finds meets the test. -/
theorem count_eq_zero {p : α → Bool} {t : Table α} (hw : wf t = true)
    (h : ∀ k v, find t k = some v → p v = false) : count p t = 0 :=
  List.countP_eq_zero.mpr fun e he => by simp [h e.1 e.2 (find_of_mem hw he)]

/-- A write frees no key. -/
theorem find_put_ne_none {t : Table α} {i : Nat} (k : Nat) (v : α) (h : find t i ≠ none) :
    find (put t k v) i ≠ none := by
  rw [find_put]
  split
  · exact Option.some_ne_none _
  · exact h

theorem count_mapValues_same {p : α → Bool} {f : α → α} (t : Table α) (hp : ∀ v, p (f v) = p v) :
    count p (mapValues f t) = count p t := by
  rw [count_mapValues]
  simp only [hp]

end Sys2Proof.Table

namespace Sys2Proof.Machine

/-! ### The tests of a record -/

namespace Record.SameCounts

variable {r r' : Record}

theorem stands (h : r.SameCounts r') (c : PersonClass) (x : Location) : r'.stands c x = r.stands c x := by
  simp [Record.stands, h.cls, h.location]

theorem flagged (h : r.SameCounts r') (c : PersonClass) : r'.flagged c = r.flagged c := by
  simp [Record.flagged, h.cls, h.musterFlag]

theorem tapped (h : r.SameCounts r') (n : Nat) : r'.tapped n = r.tapped n := by simp [Record.tapped, h.musteredAt]

theorem linked (h : r.SameCounts r') (k : Nat) : r'.linked k = r.linked k := by simp [Record.linked, h.folio]

theorem musterAgrees (h : r.SameCounts r') (hr : r.musterAgrees) : r'.musterAgrees := by
  rw [Record.musterAgrees, h.musterFlag, h.musteredAt, h.location]
  exact hr

end Record.SameCounts

theorem toNat_decide (p : Prop) [Decidable p] : (decide p).toNat = if p then 1 else 0 := by
  by_cases h : p <;> simp [h]

theorem Record.stands_toNat (r : Record) (c : PersonClass) (x : Location) :
    (r.stands c x).toNat = if c = r.cls ∧ x = r.location then 1 else 0 := by
  simp only [Record.stands, eq_comm (a := r.cls), eq_comm (a := r.location), ← Bool.decide_and, toNat_decide]

theorem Record.flagged_toNat (r : Record) (c : PersonClass) :
    (r.flagged c).toNat = if c = r.cls ∧ r.musterFlag = true then 1 else 0 := by
  cases h : r.musterFlag <;> by_cases hc : c = r.cls <;> simp [Record.flagged, h, hc, eq_comm (a := r.cls)]

theorem Record.tapped_toNat (r : Record) (n : Nat) : (r.tapped n).toNat = if r.musteredAt = some n then 1 else 0 := by
  simp only [Record.tapped, toNat_decide]

theorem Record.linked_toNat (r : Record) (k : Nat) : (r.linked k).toNat = if k = r.folio then 1 else 0 := by
  simp only [Record.linked, eq_comm (a := r.folio), toNat_decide]

theorem Record.relocated_cls (r : Record) (new : Location) : (r.relocated new).cls = r.cls := by
  unfold Record.relocated
  split <;> rfl

theorem Record.relocated_location (r : Record) (new : Location) : (r.relocated new).location = new := by
  unfold Record.relocated
  split <;> rfl

theorem Record.relocated_folio (r : Record) (new : Location) : (r.relocated new).folio = r.folio := by
  unfold Record.relocated
  split <;> rfl

/-! ### The count matrix -/

theorem cell_setCell (m : ByClass (ByLocation Nat)) (c c' : PersonClass) (x x' : Location) (n : Nat) :
    cell (setCell m c x n) c' x' = if c' = c ∧ x' = x then n else cell m c' x' := by
  rw [cell, setCell, ByClass.get_set]
  by_cases hc : c' = c
  · subst hc
    by_cases hx : x' = x <;> simp [ByLocation.get_set, hx, cell]
  · simp [hc, cell]

theorem cell_addCell (m : ByClass (ByLocation Nat)) (c c' : PersonClass) (x x' : Location) :
    cell (addCell m c x) c' x' = cell m c' x' + if c' = c ∧ x' = x then 1 else 0 := by
  rw [addCell, cell_setCell]
  split
  · rename_i h
    rw [h.1, h.2]
  · rfl

theorem cell_subCell (m : ByClass (ByLocation Nat)) (c c' : PersonClass) (x x' : Location) :
    cell (subCell m c x) c' x' = cell m c' x' - if c' = c ∧ x' = x then 1 else 0 := by
  rw [subCell, cell_setCell]
  split
  · rename_i h
    rw [h.1, h.2]
  · rfl

/-- The records and the count matrix after a move, and the matrix after no other change (R55). -/
theorem Ledger.counted_moved {l : Ledger} {slot : Nat} {r : Record} {new : Location} (hl : l.counted)
    (h : l.records.find slot = some r) : (l.moved slot r new).counted := by
  obtain ⟨hw, hcells⟩ := hl
  refine ⟨Table.wf_put _ _ hw, fun c x => ?_⟩
  have hput := Table.count_put (Record.stands c x) slot (r.relocated new) hw
  have hle := Table.share_le_count (Record.stands c x) l.records slot
  rw [h, Table.share_some, r.stands_toNat c x] at hput hle
  rw [Record.stands_toNat, r.relocated_cls, r.relocated_location] at hput
  simp only [Ledger.moved, cell_addCell, cell_subCell, hcells c x]
  omega

/-- Every entry of the books keeps the count matrix agreeing with the records. -/
theorem Entry.keeps_counted {secured : Prop} {l m : Ledger} (he : Entry secured l m) (hl : l.counted) : m.counted := by
  have ⟨hw, hcells⟩ := hl
  cases he with
  | editRecord slot r r' h hk =>
    exact ⟨Table.wf_put _ _ hw, fun c x => (hcells c x).trans (Table.count_put_same hw h (hk.stands c x)).symm⟩
  | mapRecords f hk =>
    exact ⟨Table.wf_mapValues _ hw, fun c x =>
      (hcells c x).trans (Table.count_mapValues_same _ fun r => (hk r).stands c x).symm⟩
  | enterMuster =>
    exact ⟨Table.wf_mapValues _ hw, fun c x =>
      (hcells c x).trans (Table.count_mapValues_same (f := Record.unmustered) _ fun _ => rfl).symm⟩
  | checkIn slot r station h =>
    exact ⟨Table.wf_put _ _ hw, fun c x =>
      (hcells c x).trans (Table.count_put_same (w := r.checkedIn station) hw h rfl).symm⟩
  | move slot r new h => exact Ledger.counted_moved hl h
  | leave slot r new h => exact Ledger.counted_moved hl h
  | issue slot q f hfree =>
    refine ⟨Table.wf_put _ _ hw, fun c x => ?_⟩
    have hput := Table.count_put (Record.stands c x) slot (issuedRecord q) hw
    rw [hfree, Table.share_none, Record.stands_toNat] at hput
    simp only [cell_addCell, hcells c x]
    exact hput.symm
  | retire slot r h =>
    refine ⟨Table.wf_drop _ hw, fun c x => ?_⟩
    have hdrop := Table.count_drop (Record.stands c x) l.records slot
    rw [h, Table.share_some, Record.stands_toNat] at hdrop
    simp only [cell_subCell, hcells c x]
    omega
  | relink slot r target f h =>
    exact ⟨Table.wf_put _ _ hw, fun c x =>
      (hcells c x).trans (Table.count_put_same (w := { r with folio := target }) hw h rfl).symm⟩
  | editFolio | mapFolios | openFolio | endFolio => exact hl
  | reset => exact ⟨rfl, by intro c x; cases c <;> cases x <;> rfl⟩

/-! ### The muster counts -/

/-- A write of a record whose muster fields are counted as before. -/
theorem Ledger.musters_put {l m : Ledger} {slot : Nat} {r : Record} (hl : l.musters)
    (hm : m.records = l.records.put slot r) (hmustered : m.mustered = l.mustered) (htallies : m.tallies = l.tallies)
    (hr : r.musterAgrees)
    (hflag : ∀ c, (r.flagged c).toNat = Table.share (Record.flagged c) (l.records.find slot))
    (htap : ∀ n, (r.tapped n).toNat = Table.share (Record.tapped n) (l.records.find slot)) : m.musters where
  records := hm ▸ Table.wf_put _ _ hl.records
  tallies := htallies ▸ hl.tallies
  agree k r' h := by
    rw [hm, Table.find_put] at h
    split at h
    · cases h
      exact hr
    · exact hl.agree k r' h
  mustered c := by
    have := Table.count_put (Record.flagged c) slot r hl.records
    rw [hflag c] at this
    rw [hm, hmustered, hl.mustered c]
    omega
  tally n := by
    have := Table.count_put (Record.tapped n) slot r hl.records
    rw [htap n] at this
    rw [hm, htallies, hl.tally n]
    omega

/-- A record that is flagged joins the counts of the muster, and one no longer flagged leaves them: the two functions
that the counts and tallies go through follow the two shares. -/
theorem Ledger.musters_recount {l m : Ledger} {slot : Nat} {r r' : Record} {station : Nat} {f : Nat → Nat}
    (hl : l.musters) (h : l.records.find slot = some r) (hm : m.records = l.records.put slot r')
    (hmustered : m.mustered = l.mustered) (htallies : m.tallies = l.tallies) (hr : r'.musterAgrees)
    (hflag : ∀ c n, (r.flagged c).toNat ≤ n →
      n + (r'.flagged c).toNat = (if c = r.cls then f n else n) + (r.flagged c).toNat)
    (htap : ∀ k n, (r.tapped k).toNat ≤ n →
      n + (r'.tapped k).toNat = (if k = station then f n else n) + (r.tapped k).toNat) :
    (m.recount r.cls station f).musters where
  records := by
    show Table.wf m.records = true
    exact hm ▸ Table.wf_put _ _ hl.records
  tallies := Table.wf_putValue _ _ _ (htallies ▸ hl.tallies)
  agree k x hx := by
    replace hx : m.records.find k = some x := hx
    rw [hm, Table.find_put] at hx
    split at hx
    · cases hx
      exact hr
    · exact hl.agree k x hx
  mustered c := by
    have hput := Table.count_put (Record.flagged c) slot r' hl.records
    have hle := Table.share_le_count (Record.flagged c) l.records slot
    rw [h, Table.share_some] at hput hle
    have hf := hflag c _ hle
    simp only [Ledger.recount, ByClass.get_set, hm, hmustered]
    by_cases hc : c = r.cls
    · rw [if_pos hc] at hf ⊢
      rw [hl.mustered, ← hc]
      omega
    · rw [if_neg hc] at hf ⊢
      rw [hl.mustered]
      omega
  tally k := by
    have hput := Table.count_put (Record.tapped k) slot r' hl.records
    have hle := Table.share_le_count (Record.tapped k) l.records slot
    rw [h, Table.share_some] at hput hle
    have hf := htap k _ hle
    simp only [Ledger.recount, hm, htallies]
    by_cases hk : k = station
    · rw [if_pos hk] at hf
      rw [hk, Table.value_putValue_same _ _ _ hl.tallies, hl.tally, ← hk]
      omega
    · rw [if_neg hk] at hf
      rw [Table.value_putValue_other _ _ _ hk, hl.tally]
      omega

theorem ByClass.get_zero (c : PersonClass) :
    ByClass.get { guestAdult := 0, guestMinor := 0, crew := 0, visitor := 0 } c = 0 := by
  cases c <;> rfl

/-- Every entry of the books keeps the muster counts and tallies agreeing with the records. -/
theorem Entry.keeps_musters {secured : Prop} {l m : Ledger} (he : Entry secured l m) (hl : l.musters) : m.musters := by
  cases he with
  | editRecord slot r r' h hk =>
    exact Ledger.musters_put hl rfl rfl rfl (hk.musterAgrees (hl.agree slot r h))
      (fun c => by rw [h, Table.share_some, hk.flagged]) fun n => by rw [h, Table.share_some, hk.tapped]
  | mapRecords f hk =>
    refine ⟨Table.wf_mapValues _ hl.records, hl.tallies, fun k x hx => ?_, fun c => ?_, fun n => ?_⟩
    · rw [Table.find_mapValues] at hx
      obtain ⟨r, hr, rfl⟩ := Option.map_eq_some_iff.mp hx
      exact (hk r).musterAgrees (hl.agree k r hr)
    · exact (hl.mustered c).trans (Table.count_mapValues_same _ fun r => (hk r).flagged c).symm
    · exact (hl.tally n).trans (Table.count_mapValues_same _ fun r => (hk r).tapped n).symm
  | enterMuster =>
    refine ⟨Table.wf_mapValues _ hl.records, rfl, fun k x hx => ?_, fun c => ?_, fun n => ?_⟩
    · rw [Table.find_mapValues] at hx
      obtain ⟨r, -, rfl⟩ := Option.map_eq_some_iff.mp hx
      simp [Record.musterAgrees, Record.unmustered]
    · rw [ByClass.get_zero, Table.count_mapValues,
        Table.count_eq_zero_of _ fun r => by simp [Record.flagged, Record.unmustered]]
    · rw [Table.count_mapValues, Table.count_eq_zero_of _ fun r => by simp [Record.tapped, Record.unmustered]]
      rfl
  | checkIn slot r station h ha hf =>
    have hat : r.musteredAt = none := by
      by_contra hn
      rw [← ne_eq, ← (hl.agree slot r h).1, hf] at hn
      cases hn
    refine Ledger.musters_recount hl h rfl rfl rfl ⟨by simp [Record.checkedIn], fun _ => ha⟩ (fun c n _ => ?_)
      fun k n _ => ?_
    · simp only [Record.flagged_toNat, Record.checkedIn, hf]
      by_cases hc : c = r.cls <;> simp [hc]
    · simp only [Record.tapped_toNat, Record.checkedIn, hat, Option.some.injEq, eq_comm (a := station)]
      by_cases hk : k = station <;> simp [hk]
  | move slot r new h hoff =>
    have hagree := hl.agree slot r h
    have hflag : r.musterFlag = false := by
      by_contra hn
      rw [Bool.not_eq_false] at hn
      exact hoff ⟨hagree.2 hn, hn⟩
    have hmoved : r.relocated new = { r with location := new } := if_neg hoff
    refine Ledger.musters_put hl rfl rfl rfl ?_ (fun c => ?_) fun n => ?_
    · rw [hmoved]
      exact ⟨hagree.1, fun hf => absurd hf (by simp [hflag])⟩
    · rw [h, Table.share_some, hmoved]
      rfl
    · rw [h, Table.share_some, hmoved]
      rfl
  | leave slot r new h hoff =>
    obtain ⟨station, hat⟩ := Option.ne_none_iff_exists'.mp ((hl.agree slot r h).1.mp hoff.2)
    have hmoved : r.relocated new = { r with location := new, musterFlag := false, musteredAt := none } := if_pos hoff
    refine Ledger.musters_recount hl h rfl rfl rfl ?_ (fun c n hn => ?_) fun k n hn => ?_
    · simp [hmoved, Record.musterAgrees]
    · simp only [Record.flagged_toNat, hmoved, hoff.2, and_true] at hn ⊢
      by_cases hc : c = r.cls
      · simp only [hc, if_true, and_false, Bool.false_eq_true, if_false] at hn ⊢
        omega
      · simp [hc]
    · simp only [Record.tapped_toNat, hmoved, hat, Option.some.injEq, Option.getD_some,
        eq_comm (a := station)] at hn ⊢
      by_cases hk : k = station
      · simp only [hk, if_true, reduceCtorEq, if_false] at hn ⊢
        omega
      · simp [hk]
  | issue slot q f hfree =>
    refine Ledger.musters_put hl rfl rfl rfl (by simp [Record.musterAgrees, issuedRecord]) (fun c => ?_) fun n => ?_
    · rw [hfree, Record.flagged_toNat]
      simp [issuedRecord]
    · rw [hfree, Record.tapped_toNat]
      simp [issuedRecord]
  | retire slot r h hoff =>
    have hagree := hl.agree slot r h
    have hflag : r.musterFlag = false := by
      by_contra hn
      rw [Bool.not_eq_false] at hn
      exact hoff (hagree.2 hn)
    have hat : r.musteredAt = none := by
      by_contra hn
      rw [← ne_eq, ← hagree.1, hflag] at hn
      cases hn
    refine ⟨Table.wf_drop _ hl.records, hl.tallies, fun k x hx => ?_, fun c => ?_, fun n => ?_⟩
    · rw [Table.find_drop _ _ hl.records] at hx
      split at hx
      · cases hx
      · exact hl.agree k x hx
    · have hdrop := Table.count_drop (Record.flagged c) l.records slot
      rw [h, Table.share_some, Record.flagged_toNat, hflag] at hdrop
      simpa using (hl.mustered c).trans hdrop.symm
    · have hdrop := Table.count_drop (Record.tapped n) l.records slot
      rw [h, Table.share_some, Record.tapped_toNat, hat] at hdrop
      simpa using (hl.tally n).trans hdrop.symm
  | relink slot r target f h =>
    exact Ledger.musters_put hl rfl rfl rfl (hl.agree slot r h) (fun c => by rw [h]; rfl) fun n => by rw [h]; rfl
  | editFolio | mapFolios | openFolio | endFolio =>
    exact ⟨hl.records, hl.tallies, hl.agree, hl.mustered, hl.tally⟩
  | reset =>
    exact ⟨rfl, rfl, by simp [State.ledger, State.reset], ByClass.get_zero, fun _ => rfl⟩

/-! ### The member counts -/

theorem Folio.SameMembers.countsMembers {f f' : Folio} {n : Nat} (h : f.SameMembers f') (hf : f.countsMembers n) :
    f'.countsMembers n := by
  obtain ⟨hn, hle, hclosed⟩ := hf
  refine ⟨h.members.trans hn, h.members ▸ hle, fun hc => ?_⟩
  rw [h.members]
  exact (h.closed hc).elim hclosed id

theorem Folio.countsMembers.joined {f : Folio} {n : Nat} (hf : f.countsMembers n)
    (hm : f.members < Config.folioMembers) : f.joined.countsMembers (n + 1) :=
  ⟨congrArg (· + 1) hf.1, hm, fun _ => Nat.succ_ne_zero _⟩

/-- A folio with a member less, where the member was counted: it counts the others, or had no other. -/
theorem Folio.left_cases {f : Folio} {n : Nat} (hf : f.countsMembers (n + 1)) :
    (∃ f', f.left = some f' ∧ f'.countsMembers n) ∨ (f.left = none ∧ n = 0) := by
  obtain ⟨hn, hle, -⟩ := hf
  by_cases h : f.state = .closed ∧ f.members - 1 = 0
  · exact .inr ⟨if_pos h, by omega⟩
  · refine .inl ⟨_, if_neg h, by simp only; omega, by simp only; omega, fun hc => ?_⟩
    rw [not_and] at h
    exact h hc

theorem wf_loseIn {t : Table Folio} (slot : Nat) (h : Table.wf t = true) : Table.wf (loseIn t slot) = true := by
  unfold loseIn
  split
  · split
    · exact Table.wf_put _ _ h
    · exact Table.wf_drop _ h
  · exact h

theorem find_loseIn {t : Table Folio} (slot k : Nat) (h : Table.wf t = true) :
    (loseIn t slot).find k = if k = slot then (t.find slot).bind Folio.left else t.find k := by
  unfold loseIn
  split
  · rename_i f hf
    cases hl : f.left with
    | some f' => simp only [Table.find_put, hf, Option.bind_some, hl]
    | none => simp only [Table.find_drop _ _ h, hf, Option.bind_some, hl]
  · rename_i hf
    split
    · rename_i hk
      rw [hk, hf]
      rfl
    · rfl

/-- A record leaves the books or moves to another folio: its old folio loses a member. The folio table `t` counts the
records as the books `l` do, with the moved record counted at both folios. -/
theorem Ledger.members_lose {m : Ledger} {t : Table Folio} {old : Nat} (hw : Table.wf m.records = true)
    (hwt : Table.wf t = true) (hfolios : m.folios = loseIn t old)
    (huse : ∀ slot r, m.records.find slot = some r → t.find r.folio ≠ none)
    (hcount : ∀ k f, t.find k = some f →
      f.countsMembers (Table.count (Record.linked k) m.records + if k = old then 1 else 0)) : m.members where
  records := hw
  folios := hfolios ▸ wf_loseIn old hwt
  inUse slot r h := by
    rw [hfolios, find_loseIn _ _ hwt]
    have hr := huse slot r h
    split
    · rename_i hold
      rw [hold] at hr
      obtain ⟨f, hf⟩ := Option.ne_none_iff_exists'.mp hr
      have hc := hcount old f hf
      rw [if_pos rfl] at hc
      have hpos := Table.count_pos (p := Record.linked old) h (by simp [Record.linked, hold])
      rw [hf, Option.bind_some]
      rcases Folio.left_cases hc with ⟨f', hf', -⟩ | ⟨-, hz⟩
      · rw [hf']
        exact Option.some_ne_none _
      · omega
    · exact hr
  counts k f h := by
    rw [hfolios, find_loseIn _ _ hwt] at h
    split at h
    · rename_i hold
      obtain ⟨f0, hf0, hleft⟩ := Option.bind_eq_some_iff.mp h
      have hc := hcount old f0 hf0
      rw [if_pos rfl] at hc
      rcases Folio.left_cases hc with ⟨f', hf', hcf⟩ | ⟨hnone, -⟩
      · rw [hf'] at hleft
        cases hleft
        exact hold ▸ hcf
      · rw [hnone] at hleft
        cases hleft
    · rename_i hold
      simpa [hold] using hcount k f h

/-- A write of a record whose folio is in use, with the members of every folio counted again. -/
theorem Ledger.members_put {l m : Ledger} {slot : Nat} {r : Record} (hl : l.members)
    (hm : m.records = l.records.put slot r) (hwf : Table.wf m.folios = true)
    (huse : ∀ k, (k = r.folio ∨ l.folios.find k ≠ none) → m.folios.find k ≠ none)
    (hcount : ∀ k f, m.folios.find k = some f → f.countsMembers (Table.count (Record.linked k) m.records)) :
    m.members where
  records := hm ▸ Table.wf_put _ _ hl.records
  folios := hwf
  inUse k x hx := by
    rw [hm, Table.find_put] at hx
    split at hx
    · cases hx
      exact huse _ (.inl rfl)
    · exact huse _ (.inr (hl.inUse k x hx))
  counts := hcount

/-- A write of a record linked as before. -/
theorem Ledger.members_put_same {l m : Ledger} {slot : Nat} {r r' : Record} (hl : l.members)
    (h : l.records.find slot = some r) (hm : m.records = l.records.put slot r') (hf : m.folios = l.folios)
    (hr : r'.folio = r.folio) : m.members := by
  refine Ledger.members_put hl hm (hf ▸ hl.folios) (fun k hk => ?_) fun k f hk => ?_
  · rw [hf]
    rcases hk with rfl | hk
    · exact hr ▸ hl.inUse slot r h
    · exact hk
  · rw [hf] at hk
    rw [hm, Table.count_put_same hl.records h (by simp [Record.linked, hr])]
    exact hl.counts k f hk

/-- A change of the folios alone that leaves a folio in every slot in use. -/
theorem Ledger.members_folios {l m : Ledger} (hl : l.members) (hm : m.records = l.records)
    (hwf : Table.wf m.folios = true)
    (huse : ∀ slot r, l.records.find slot = some r → m.folios.find r.folio ≠ none)
    (hcount : ∀ k f, m.folios.find k = some f → f.countsMembers (Table.count (Record.linked k) l.records)) :
    m.members :=
  ⟨hm ▸ hl.records, hwf, hm ▸ huse, hm ▸ hcount⟩

theorem issuedRecord_folio (q : IssueFields) : (issuedRecord q).folio = q.folio := rfl

/-- A record that names a folio is one of its members. -/
theorem Ledger.members.pos {l : Ledger} (hl : l.members) {slot : Nat} {r : Record} {f : Folio}
    (hr : l.records.find slot = some r) (hf : l.folios.find r.folio = some f) : f.members ≠ 0 := by
  have hpos := Table.count_pos (p := Record.linked r.folio) hr (by simp [Record.linked])
  have hn := (hl.counts _ f hf).1
  omega

/-- Every entry of the books, the open tabs secured, keeps the member counts agreeing with the records. -/
theorem Entry.keeps_members {l m : Ledger} (he : Entry True l m) (hl : l.members) : m.members := by
  cases he with
  | editRecord slot r r' h hk => exact Ledger.members_put_same hl h rfl rfl hk.folio
  | mapRecords f hk =>
    refine ⟨Table.wf_mapValues _ hl.records, hl.folios, fun k x hx => ?_, fun k f hf => ?_⟩
    · rw [Table.find_mapValues] at hx
      obtain ⟨r, hr, rfl⟩ := Option.map_eq_some_iff.mp hx
      exact (hk r).folio ▸ hl.inUse k r hr
    · rw [Table.count_mapValues_same _ fun r => (hk r).linked k]
      exact hl.counts k f hf
  | enterMuster =>
    refine ⟨Table.wf_mapValues _ hl.records, hl.folios, fun k x hx => ?_, fun k f hf => ?_⟩
    · rw [Table.find_mapValues] at hx
      obtain ⟨r, hr, rfl⟩ := Option.map_eq_some_iff.mp hx
      exact hl.inUse k r hr
    · rw [Table.count_mapValues_same (p := Record.linked k) (f := Record.unmustered) _ fun r => rfl]
      exact hl.counts k f hf
  | checkIn slot r station h => exact Ledger.members_put_same hl h rfl rfl rfl
  | move slot r new h | leave slot r new h => exact Ledger.members_put_same hl h rfl rfl (r.relocated_folio new)
  | issue slot q f hfree hf hm =>
    refine Ledger.members_put hl rfl (Table.wf_put _ _ hl.folios) (fun k hk => ?_) fun k g hk => ?_
    · rw [Table.find_put]
      split
      · exact Option.some_ne_none _
      · rename_i hne
        exact hk.resolve_left hne
    · have hput := Table.count_put (Record.linked k) slot (issuedRecord q) hl.records
      rw [hfree, Table.share_none, Record.linked_toNat, Nat.add_zero, issuedRecord_folio] at hput
      rw [Table.find_put] at hk
      split at hk
      · rename_i hkq
        cases hk
        rw [if_pos hkq] at hput
        rw [hput]
        exact (hkq ▸ hl.counts _ f hf).joined hm
      · rename_i hkq
        rw [if_neg hkq, Nat.add_zero] at hput
        rw [hput]
        exact hl.counts k g hk
  | retire slot r h =>
    refine Ledger.members_lose (Table.wf_drop _ hl.records) hl.folios rfl (fun k x hx => ?_) fun k f hf => ?_
    · rw [Table.find_drop _ _ hl.records] at hx
      split at hx
      · cases hx
      · exact hl.inUse k x hx
    · have hdrop := Table.count_drop (Record.linked k) l.records slot
      rw [h, Table.share_some, Record.linked_toNat] at hdrop
      rw [hdrop]
      exact hl.counts k f hf
  | relink slot r target f h hf hne hm =>
    refine Ledger.members_lose (Table.wf_put _ _ hl.records) (Table.wf_put _ _ hl.folios) rfl
      (fun k x hx => ?_) fun k g hk => ?_
    · rw [Table.find_put] at hx
      split at hx
      · cases hx
        simp
      · exact Table.find_put_ne_none _ _ (hl.inUse k x hx)
    · have hput := Table.count_put (Record.linked k) slot { r with folio := target } hl.records
      rw [h, Table.share_some, Record.linked_toNat, Record.linked_toNat] at hput
      rw [hput]
      rw [Table.find_put] at hk
      split at hk
      · rename_i hkt
        cases hk
        rw [if_pos hkt]
        exact (hkt ▸ hl.counts _ f hf).joined hm
      · rename_i hkt
        rw [if_neg hkt]
        exact hl.counts k g hk
  | editFolio slot f' h =>
    obtain ⟨f, hf, hk⟩ := h trivial
    refine Ledger.members_folios hl rfl (Table.wf_put _ _ hl.folios) 
      (fun k r hr => Table.find_put_ne_none _ _ (hl.inUse k r hr)) fun k g hg => ?_
    rw [Table.find_put] at hg
    split at hg
    · rename_i hkf
      cases hg
      exact hk.countsMembers (hkf ▸ hl.counts slot f hf)
    · exact hl.counts k g hg
  | mapFolios g hk =>
    refine Ledger.members_folios hl rfl (Table.wf_mapValues _ hl.folios) (fun k r hr => ?_) fun k f hf => ?_
    · rw [Table.find_mapValues, ne_eq, Option.map_eq_none_iff]
      exact hl.inUse k r hr
    · rw [Table.find_mapValues] at hf
      obtain ⟨f0, hf0, rfl⟩ := Option.map_eq_some_iff.mp hf
      exact (hk f0).countsMembers (hl.counts k f0 hf0)
  | openFolio slot f hfree hm hs =>
    refine Ledger.members_folios hl rfl (Table.wf_put _ _ hl.folios) 
      (fun k r hr => Table.find_put_ne_none _ _ (hl.inUse k r hr)) fun k g hg => ?_
    rw [Table.find_put] at hg
    split at hg
    · rename_i hkf
      cases hg
      have hzero : Table.count (Record.linked k) l.records = 0 := Table.count_eq_zero hl.records fun j r hr => by
        have huse := hl.inUse j r hr
        refine decide_eq_false fun hrk => huse ?_
        rw [hrk, hkf, hfree]
      exact ⟨hm.trans hzero.symm, hm ▸ Nat.zero_le _, fun hc => absurd hc hs⟩
    · exact hl.counts k g hg
  | endFolio slot f h hm =>
    refine Ledger.members_folios hl rfl (Table.wf_drop _ hl.folios) (fun k r hr => ?_) fun k g hg => ?_
    · rw [Table.find_drop _ _ hl.folios]
      split
      · rename_i hrs
        exact absurd hm (hl.pos hr (hrs ▸ h))
      · exact hl.inUse k r hr
    · rw [Table.find_drop _ _ hl.folios] at hg
      split at hg
      · cases hg
      · exact hl.counts k g hg
  | reset => exact ⟨rfl, rfl, by simp [State.ledger, State.reset], by simp [State.ledger, State.reset]⟩

end Sys2Proof.Machine
end

section
/-! O7, second part: the entries that each command makes in the books. -/

namespace Sys2Proof.Machine

/-! ### What makes no entry -/

theorem State.ledger_congr {s t : State} (hr : t.store.records = s.store.records)
    (hc : t.passage.counts = s.passage.counts) (hm : t.muster = s.muster) (hf : t.folios = s.folios) :
    t.ledger = s.ledger := by
  simp only [State.ledger, hr, hc, hm, hf]

section
variable (s : State)

@[simp] theorem raise_ledger (c : Condition) : (raise c s).ledger = s.ledger := rfl
@[simp] theorem report_ledger (t : CapacityTable) : (report t s).ledger = s.ledger := rfl
@[simp] theorem State.putCabin_ledger (n : Nat) (c : Cabin) : (s.putCabin n c).ledger = s.ledger := rfl
@[simp] theorem State.putIndex_ledger (n : Nat) (e : IndexEntry) : (s.putIndex n e).ledger = s.ledger := rfl

@[simp] theorem setLineMode_ledger (m : LineMode) : (setLineMode m s).ledger = s.ledger := by
  unfold setLineMode
  split <;> rfl

@[simp] theorem endPulse_ledger : (endPulse s).ledger = s.ledger := by
  unfold endPulse
  split
  · split <;> rfl
  · rfl

@[simp] theorem endHoldoff_ledger : (endHoldoff s).ledger = s.ledger := by
  unfold endHoldoff
  split
  · split <;> rfl
  · rfl

@[simp] theorem reportRefusal_ledger (p : Port) (term : Nat) (r : Result) (c slot : Option Nat) :
    (reportRefusal p term r c slot s).ledger = s.ledger := by
  unfold reportRefusal
  split <;> rfl

@[simp] theorem reconcile_ledger (m : ByClass (ByLocation Nat)) : (reconcile m s).ledger = s.ledger :=
  State.ledger_congr (by simp) (by simp) (by simp) (by simp)

@[simp] theorem enterCutoff_ledger : (enterCutoff s).ledger = s.ledger :=
  State.ledger_congr (by simp) (by simp) (by simp) (by simp)

@[simp] theorem leaveIndex_ledger (n : Nat) : (leaveIndex n s).ledger = s.ledger := by
  unfold leaveIndex
  split <;> rfl

@[simp] theorem appendRevocation_ledger (v : Revocation) : (appendRevocation v s).ledger = s.ledger := by
  unfold appendRevocation
  split <;> rfl

@[simp] theorem expireWatchdog_ledger : (expireWatchdog s).ledger = s.ledger := by
  unfold expireWatchdog
  split
  · split <;> rfl
  · rfl

@[simp] theorem discardFrame_ledger (p : Port) : (discardFrame p s).ledger = s.ledger := by
  unfold discardFrame
  dsimp only
  split <;> rfl

@[simp] theorem dropPartFrame_ledger (p : Port) : (dropPartFrame p s).ledger = s.ledger := discardFrame_ledger _ p

@[simp] theorem endGap_ledger (p : Port) : (endGap p s).ledger = s.ledger := by
  unfold endGap
  split
  · exact dropPartFrame_ledger s p
  · rfl

@[simp] theorem arrive_ledger (p : Port) (f : Frame) : (arrive p f s).ledger = s.ledger := by
  unfold arrive
  dsimp only
  split
  · rfl
  · exact reportRefusal_ledger _ _ _ _ _ _

@[simp] theorem settle_ledger (p : Port) : (settle p s).ledger = s.ledger := by
  unfold settle
  split
  · dsimp only
    split
    · exact arrive_ledger _ _ _
    · exact discardFrame_ledger _ _
  · rfl

@[simp] theorem huntByte_ledger (p : Port) (b : Byte) : (huntByte p b s).ledger = s.ledger := by
  unfold huntByte
  split <;> rfl

@[simp] theorem frameByte_ledger (p : Port) (bs : List Byte) (b : Byte) (stopGood : Bool) :
    (frameByte p bs b stopGood s).ledger = s.ledger := by
  unfold frameByte
  split
  · exact dropPartFrame_ledger s p
  · split
    · exact dropPartFrame_ledger s p
    · split <;> rfl

@[simp] theorem receive_ledger (p : Port) (b : Byte) (stopGood : Bool) :
    (receive p b stopGood s).ledger = s.ledger := by
  unfold receive
  dsimp only
  split <;> simp

@[simp] theorem expireSilence_ledger (p : Port) : (expireSilence p s).ledger = s.ledger := by
  unfold expireSilence
  split
  · split <;> rfl
  · rfl

@[simp] theorem resetService_ledger : (resetService s).ledger = s.ledger := by
  unfold resetService
  split <;> rfl

@[simp] theorem takeUnlisted_ledger (kind : Byte) (body : List Byte) :
    (takeUnlisted kind body s).ledger = s.ledger := by
  unfold takeUnlisted
  split
  · rfl
  · split <;> rfl

@[simp] theorem takeUnknownKind_ledger (p : Port) : (takeUnknownKind p s).ledger = s.ledger := by
  unfold takeUnknownKind
  split
  · split
    · rfl
    · exact reportRefusal_ledger _ _ _ _ _ _
  · rfl

@[simp] theorem notFound_ledger (p : Port) (f : Frame) (n : Nat) (l : Lookup) (body : List Byte) :
    (notFound p f n l body s).state.ledger = s.ledger := by
  unfold notFound
  split <;> rfl

@[simp] theorem loadZones_ledger (n : Nat) (zs : List Nat) : (loadZones n zs s).ledger = s.ledger := by
  rw [loadZones_eq]
  rfl

end

theorem writeDiscarded_ledger {bytes : List Byte} {s t : State} (h : exec (.writeDiscarded bytes) s = .next t) :
    t.ledger = s.ledger := by
  cases h
  cases bytes with
  | nil => rfl
  | cons first rest =>
    dsimp only
    split
    · unfold discardUntaken
      split <;> rfl
    · rfl
    · rfl

theorem readReply_ledger {bytes : List Byte} {s t : State} (h : exec (.readReply bytes) s = .next t) :
    t.ledger = s.ledger := by
  cases h
  cases bytes with
  | nil => rfl
  | cons first rest =>
    dsimp only
    split <;> rfl

/-! ### A change of location -/

/-- The state after the first two effects of a change of location: the record, its count and its place in the muster
(R55, R94). -/
def State.relocated (s : State) (slot : Nat) (r : Record) (new : Location) : State :=
  { s with
    store := { s.store with records := s.store.records.put slot (r.relocated new) }
    passage := { s.passage with counts := addCell (subCell s.passage.counts r.cls r.location) r.cls new }
    muster :=
      if r.location = .aboard ∧ r.musterFlag = true then s.muster.recount r.cls (r.musteredAt.getD 0) (· - 1)
      else s.muster }

/-- The third effect: TAB_ASHORE for the opener of tabs that leaves ABOARD (R55). -/
def raiseTabAshore (slot : Nat) (r : Record) (s : State) : State :=
  if r.location = .aboard ∧ s.opensTabs slot = true then raise .tabAshore s else s

/-- The fourth effect: the watch hit, if there is one, into the watch set (R66, R67). -/
def enterHit (slot : Nat) (hit : Option Hit) (s : State) : State :=
  match hit with
  | some h => enterWatch slot h s
  | none => s

section
variable (slot : Nat) (r : Record) (new : Location) (s : State)

theorem relocated_eq :
    (if r.location = .aboard then
        leaveMuster slot { r with location := new }
          ((s.putRecord slot { r with location := new }).setCounts
            (addCell (subCell s.passage.counts r.cls r.location) r.cls new))
      else
        (s.putRecord slot { r with location := new }).setCounts
          (addCell (subCell s.passage.counts r.cls r.location) r.cls new)) =
      s.relocated slot r new := by
  by_cases hl : r.location = .aboard
  · by_cases hf : r.musterFlag = true
    · simp [State.relocated, Record.relocated, leaveMuster, State.setCounts, State.putRecord, hl, hf]
    · simp [State.relocated, Record.relocated, leaveMuster, State.setCounts, State.putRecord, hl, hf]
  · simp [State.relocated, Record.relocated, State.setCounts, State.putRecord, hl]

/-- A change of location is its five effects, in order (R55). -/
theorem changeLocation_eq :
    changeLocation slot r new s =
      reconcile s.passage.counts
        (enterHit slot (watchHit r.watchMode r.location new) (raiseTabAshore slot r (s.relocated slot r new))) := by
  unfold changeLocation
  dsimp only
  rw [relocated_eq]
  rfl

@[simp] theorem raiseTabAshore_ledger : (raiseTabAshore slot r s).ledger = s.ledger := by
  unfold raiseTabAshore
  split <;> rfl

theorem enterWatch_ledger (h : Hit) : (enterWatch slot h s).ledger = s.ledger := by
  unfold enterWatch
  split
  · rfl
  · split <;> rfl

@[simp] theorem enterHit_ledger (hit : Option Hit) : (enterHit slot hit s).ledger = s.ledger := by
  cases hit with
  | none => rfl
  | some h => exact enterWatch_ledger slot s h

theorem changeLocation_ledger : (changeLocation slot r new s).ledger = (s.relocated slot r new).ledger := by
  rw [changeLocation_eq, reconcile_ledger, enterHit_ledger, raiseTabAshore_ledger]

end

/-! ### Chains of entries -/

/-- A chain of entries in the books, from what one state reads to what another does. -/
def Books (secured : Prop) (s t : State) : Prop := Relation.ReflTransGen (Entry secured) s.ledger t.ledger

namespace Books

variable {secured : Prop} {s t u : State}

theorem refl : Books secured s s := Relation.ReflTransGen.refl

theorem quiet (h : t.ledger = s.ledger) : Books secured s t := by
  rw [Books, h]

theorem one (h : Entry secured s.ledger t.ledger) : Books secured s t := Relation.ReflTransGen.single h

theorem trans (h : Books secured s t) (k : Books secured t u) : Books secured s u := Relation.ReflTransGen.trans h k

theorem thenQuiet (h : Books secured s t) (k : u.ledger = t.ledger) : Books secured s u := h.trans (quiet k)

/-- What every entry keeps, a chain of entries keeps. -/
theorem keeps {P : Ledger → Prop} (he : ∀ l m, Entry secured l m → P l → P m) (h : Books secured s t)
    (hs : P s.ledger) : P t.ledger := by
  have key : ∀ {l m}, Relation.ReflTransGen (Entry secured) l m → P l → P m := fun h hl => by
    induction h with
    | refl => exact hl
    | tail _ hk ih => exact he _ _ hk ih
  exact key h hs

theorem editRecord {slot : Nat} {r r' : Record} (h : s.record slot = some r) (hk : r.SameCounts r') :
    Books secured s (s.putRecord slot r') :=
  one (.editRecord s.ledger slot r r' h hk)

/-- An edit of a record, and what makes no entry after it. -/
theorem editRecordThen {slot : Nat} {r r' : Record} (h : s.record slot = some r)
    (ht : t.ledger = (s.putRecord slot r').ledger) (hk : r.SameCounts r') : Books secured s t :=
  (editRecord h hk).thenQuiet ht

theorem editFolio {slot : Nat} {f f' : Folio} (h : s.folio slot = some f) (hk : f.SameMembers f') :
    Books secured s (s.putFolio slot f') :=
  one (.editFolio s.ledger slot f' fun _ => ⟨f, h, hk⟩)

theorem checked {α : Type} {p : Parsed α} {run : α → Decision}
    (h : ∀ a, p = .good a → Books secured s (run a).state) :
    Books secured s (checked p s run).state := by
  cases p with
  | good a => exact h a rfl
  | badRequest => exact refl
  | range => exact refl

theorem withRecord {slot : Nat} {run : Record → Decision}
    (h : ∀ r, s.record slot = some r → Books secured s (run r).state) :
    Books secured s (withRecord slot s run).state := by
  unfold Machine.withRecord
  split
  · exact h _ ‹_›
  · exact refl

theorem withFolio {slot : Nat} {run : Folio → Decision}
    (h : ∀ f, s.folio slot = some f → Books secured s (run f).state) :
    Books secured s (withFolio slot s run).state := by
  unfold Machine.withFolio
  split
  · exact h _ ‹_›
  · exact refl

/-- A check that refuses, and what the request does when the check passes. -/
theorem refuseIf {c : Prop} [Decidable c] {code : ReplyCode} {d : Decision} (h : ¬ c → Books secured s d.state) :
    Books secured s (if c then refuse code s else d).state := by
  split
  · exact refl
  · exact h ‹_›

/-- A request that rewrites one record of a slot, with the fields that are counted kept. -/
theorem editRequest {α : Type} {p : Parsed α} {slot : α → Nat} {reply : α → Record → List Byte}
    {edit : α → Record → Record} (hk : ∀ (a : α) (r : Record), r.SameCounts (edit a r)) :
    Books secured s
      (Machine.checked p s fun a =>
        Machine.withRecord (slot a) s fun r => done (reply a r) (s.putRecord (slot a) (edit a r))).state :=
  checked fun a _ => withRecord fun r h => editRecord h (hk a r)

/-- A request that makes no entry. -/
theorem quietRequest {α : Type} {p : Parsed α} {run : α → Decision} (h : ∀ a, (run a).state.ledger = s.ledger) :
    Books secured s (Machine.checked p s run).state :=
  checked fun a _ => quiet (h a)

theorem manage {d : State → Decision} (kind : Byte) (body : List Byte) (h : ∀ s, Books secured s (d s).state)
    (s : State) : Books secured s (manage kind body d s) := by
  unfold Machine.manage
  split
  · have ht : Books secured s (takeWrite kind body s) := quiet rfl
    refine (ht.trans ?_ : Books secured s (_ : Decision).state).thenQuiet rfl
    split
    · exact refl
    · exact h _
  · exact quiet rfl

theorem takeRequest {d : TerminalEntry → Frame → State → Verdict} {p : Port} (kind : Byte)
    (permitted : TerminalEntry → Bool) (size : Nat)
    (h : ∀ e f, Books secured (takeFrame p s) (d e f (takeFrame p s)).state) :
    Books secured s (takeRequest p kind permitted size d s) := by
  have ht : Books secured s (takeFrame p s) := quiet rfl
  have ha : ∀ (f : Frame) (v : Verdict), Books secured s v.state → Books secured s (answer p f v) := fun f v hv =>
    hv.thenQuiet (reportRefusal_ledger v.state p f.term v.result v.credential v.slot)
  unfold Machine.takeRequest
  split
  · split
    · dsimp only
      split
      · exact ha _ _ ht
      · exact ha _ _ (ht.trans (h _ _))
    · exact quiet rfl
  · exact quiet rfl

theorem forEach {α : Type} {f : α → State → State} (h : ∀ a s, Books secured s (f a s)) (l : List α)
    (s : State) : Books secured s (forEach f l s) := by
  induction l generalizing s with
  | nil => exact refl
  | cons a l ih => exact (h a s).trans (ih _)

end Books

end Sys2Proof.Machine
end

section
/-! O7, third part: the books of every command, and the three laws. -/

namespace Sys2Proof.Machine

/-! ### Records and folios rewritten -/

theorem Record.shown_sameCounts (r : Record) : r.SameCounts r.shown := by
  unfold Record.shown
  split <;> exact ⟨rfl, rfl, rfl, rfl, rfl⟩

theorem Record.assigned_sameCounts (r : Record) (n : Nat) : r.SameCounts (r.assigned n) := by
  unfold Record.assigned
  split <;> exact ⟨rfl, rfl, rfl, rfl, rfl⟩

theorem Record.vacated_sameCounts (r : Record) (n : Nat) : r.SameCounts (r.vacated n) := by
  unfold Record.vacated
  split <;> exact ⟨rfl, rfl, rfl, rfl, rfl⟩

namespace Folio.SameMembers

variable {f g h : Folio}

theorem of_state (hm : g.members = f.members) (hs : g.state = f.state) : f.SameMembers g :=
  ⟨hm, fun hc => .inl (hs.symm.trans hc)⟩

theorem of_open (hm : g.members = f.members) (hs : g.state ≠ .closed) : f.SameMembers g :=
  ⟨hm, fun hc => absurd hc hs⟩

theorem trans (hfg : f.SameMembers g) (hgh : g.SameMembers h) : f.SameMembers h where
  members := hgh.members.trans hfg.members
  closed hc := (hgh.closed hc).elim hfg.closed fun hm => .inr (hfg.members ▸ hm)

theorem refl (f : Folio) : f.SameMembers f := of_state rfl rfl

theorem reevaluated (f : Folio) : f.SameMembers f.reevaluated.1 := by
  have ha : f.SameMembers f.reactivated := of_open rfl (by simp [Folio.reactivated])
  have hc : f.SameMembers (f.suspendedFor .ceiling) := of_open rfl (by simp [Folio.suspendedFor])
  unfold Folio.reevaluated
  split
  · split
    · exact hc
    · exact refl f
  · split
    · exact ha
    · split
      · exact refl f
      · exact hc
  · split
    · exact ha
    · exact refl f
  · exact refl f

theorem posted (f : Folio) (g : Figures) (graced : Bool) : f.SameMembers (f.posted g graced) := by
  unfold Folio.posted
  split
  · exact refl f
  · cases graced
    · exact of_state rfl rfl
    · exact of_open rfl (by simp)

end Folio.SameMembers

section
variable {secured : Prop} {s : State}

/-! ### The shared operations -/

theorem revoke_books (slot n : Nat) (reason : RevocationReason) (s : State) :
    Books secured s (revoke slot n reason s) := by
  unfold revoke
  dsimp only
  split
  · rename_i r hr
    exact .editRecordThen hr ((appendRevocation_ledger _ _).trans (leaveIndex_ledger _ _)) ⟨rfl, rfl, rfl, rfl, rfl⟩
  · exact .quiet (by rw [appendRevocation_ledger, leaveIndex_ledger])

theorem endReservation_books {slot : Nat} {r r' : Record} (v : Reservation) (h : s.record slot = some r')
    (hr : r'.SameCounts r) : Books secured s (endReservation slot r v s) :=
  .editRecordThen h (leaveIndex_ledger _ _) ⟨hr.cls, hr.location, hr.folio, hr.musterFlag, hr.musteredAt⟩

theorem consumeMessage_books {slot : Nat} {r : Record} (h : s.record slot = some r) :
    Books secured s (consumeMessage slot r s) := by
  unfold consumeMessage
  split
  · exact .refl
  · exact .editRecord h r.shown_sameCounts

theorem setLastPassage_books (slot : Nat) (p : Option Passage) (s : State) :
    Books secured s (setLastPassage slot p s) := by
  unfold setLastPassage
  split
  · rename_i r hr
    exact .editRecord hr ⟨rfl, rfl, rfl, rfl, rfl⟩
  · exact .refl

theorem postToRecord_books (slot : Nat) (g : Figures) (s : State) : Books secured s (postToRecord slot g s) := by
  unfold postToRecord
  split
  · rename_i r hr
    exact .editRecord hr ⟨rfl, rfl, rfl, rfl, rfl⟩
  · exact .refl

theorem storeReevaluated_books {slot : Nat} {f' : Folio}
    (h : secured → ∃ f, s.folio slot = some f ∧ f.SameMembers f') :
    Books secured s (storeReevaluated slot f' s) := by
  have hput : Books secured s (s.putFolio slot f'.reevaluated.1) := .one (.editFolio s.ledger slot _ fun hs => by
    obtain ⟨f, hf, hk⟩ := h hs
    exact ⟨f, hf, hk.trans (.reevaluated f')⟩)
  unfold storeReevaluated
  dsimp only
  split
  · exact hput.thenQuiet (raise_ledger _ _)
  · exact hput

theorem changeLocation_books {slot : Nat} {r : Record} (new : Location) (h : s.record slot = some r) :
    Books secured s (changeLocation slot r new s) := by
  refine .one ?_
  rw [changeLocation_ledger]
  by_cases hoff : r.location = .aboard ∧ r.musterFlag = true
  · have he : (s.relocated slot r new).ledger =
        (s.ledger.moved slot r new).recount r.cls (r.musteredAt.getD 0) (· - 1) := by
      simp only [State.relocated, if_pos hoff]
      rfl
    exact he ▸ .leave s.ledger slot r new h hoff
  · have he : (s.relocated slot r new).ledger = s.ledger.moved slot r new := by
      simp only [State.relocated, if_neg hoff]
      rfl
    exact he ▸ .move s.ledger slot r new h hoff

theorem loseMember_folios (slot : Nat) (s : State) : (loseMember slot s).folios = loseIn s.folios slot := by
  cases hf : s.folio slot with
  | none =>
    have hf' : s.folios.find slot = none := hf
    simp only [loseMember, hf, loseIn, hf']
  | some f =>
    have hf' : s.folios.find slot = some f := hf
    simp only [loseMember, hf, loseIn, hf', Folio.left]
    split <;> rfl

/-- A folio that loses a member is the only change of the books. -/
theorem loseMember_ledger (slot : Nat) (s : State) :
    (loseMember slot s).ledger = { s.ledger with folios := loseIn s.ledger.folios slot } := by
  simp [State.ledger, loseMember_folios]

theorem gainMember_folio {slot : Nat} {f : Folio} (h : s.folio slot = some f) :
    gainMember slot s = s.putFolio slot f.joined :=
  gainMember_some h

/-! ### The record store -/

theorem decideIssue_books (body : List Byte) (s : State) : Books secured s (decideIssue body s).state :=
  .checked fun q _ => .withFolio fun f hf => .refuseIf fun _ => .refuseIf fun hm => by
    split
    · exact .refl
    · rename_i slot hfree
      obtain ⟨-, -, hnone, -⟩ := Table.lowestFree_spec hfree
      refine .one ?_
      have he : (issueInto slot q s).ledger =
          { s.ledger with
            records := s.store.records.put slot (issuedRecord q)
            counts := addCell s.passage.counts q.cls q.location
            folios := s.folios.put q.folio f.joined } := by
        rw [issueInto, gainMember_folio (s := s.putRecord slot (issuedRecord q)) (f := f) hf, report_ledger,
          reconcile_ledger]
        rfl
      exact he ▸ .issue s.ledger slot q f hnone hf (Nat.lt_of_not_le hm)

theorem decideReserve_books (body : List Byte) (s : State) : Books secured s (decideReserve body s).state :=
  .checked fun q _ => .withRecord fun r h => by
    split
    · exact .refl
    · exact .editRecordThen h ((report_ledger _ _).trans (State.putIndex_ledger _ _ _)) ⟨rfl, rfl, rfl, rfl, rfl⟩

theorem confirmInto_books (slot : Nat) (v : Reservation) (s : State) : Books secured s (confirmInto slot v s) := by
  unfold confirmInto
  split
  · rename_i r hr
    exact .editRecordThen hr (State.putIndex_ledger _ _ _) ⟨rfl, rfl, rfl, rfl, rfl⟩
  · exact .refl

theorem decideConfirm_books (body : List Byte) (s : State) : Books secured s (decideConfirm body s).state :=
  .checked fun q _ => .withRecord fun r h => by
    split
    · exact .refl
    · refine .refuseIf fun _ => ?_
      split
      · exact (revoke_books _ _ _ s).trans (confirmInto_books _ _ _)
      · exact confirmInto_books _ _ s

theorem decideCancel_books (body : List Byte) (s : State) : Books secured s (decideCancel body s).state :=
  .checked fun q _ => .withRecord fun r h => by
    split
    · exact .refl
    · exact .refuseIf fun _ => endReservation_books _ h ⟨rfl, rfl, rfl, rfl, rfl⟩

theorem expireReservation_books (slot : Nat) (s : State) : Books secured s (expireReservation slot s) := by
  unfold expireReservation
  split
  · rename_i r hr
    split
    · split
      · exact (endReservation_books _ hr ⟨rfl, rfl, rfl, rfl, rfl⟩).thenQuiet (raise_ledger _ _)
      · exact .refl
    · exact .refl
  · exact .refl

theorem decideRevoke_books (body : List Byte) (s : State) : Books secured s (decideRevoke body s).state :=
  .checked fun q _ => by
    split
    · exact revoke_books _ _ _ s
    · exact .refl
    · split <;> exact .refl

theorem decideRemoveRevoked_books (body : List Byte) (s : State) :
    Books secured s (decideRemoveRevoked body s).state :=
  .quietRequest fun n => by split <;> rfl

theorem decideHold_books (body : List Byte) (s : State) : Books secured s (decideHold body s).state :=
  .checked fun _ _ => .withRecord fun _ h => .refuseIf fun _ => .editRecord h ⟨rfl, rfl, rfl, rfl, rfl⟩

theorem decideRelease_books (body : List Byte) (s : State) : Books secured s (decideRelease body s).state :=
  .checked fun _ _ => .withRecord fun _ h => .refuseIf fun _ => .editRecord h ⟨rfl, rfl, rfl, rfl, rfl⟩

/-- The first steps of a retirement rewrite the record with the fields that are counted kept. -/
theorem retireCredentials_books {slot : Nat} {r : Record} (h : s.record slot = some r) :
    Books secured s (retireCredentials slot r s) := by
  have hall : Books secured s (revokeAll slot r.credentials s) := by
    have key : ∀ (l : List Credential) (t : State), Books secured t (revokeAll slot l t) := fun l => by
      induction l with
      | nil => exact fun t => .refl
      | cons c l ih => exact fun t => (revoke_books slot c.number .retired t).trans (ih _)
    exact key _ s
  rw [retireCredentials_eq h]
  split
  · exact hall.trans (endReservation_books _ (revokeAll_own h) ⟨rfl, rfl, rfl, rfl, rfl⟩)
  · exact hall

theorem vacateSlot_ledger (slot : Nat) (r : Record) (s : State) :
    (vacateSlot slot r s).ledger =
      { s.ledger with
        records := s.store.records.drop slot
        counts := subCell s.passage.counts r.cls r.location
        folios := loseIn s.folios r.folio } := by
  have hf : (vacateSlot slot r s).folios = loseIn s.folios r.folio := by
    simp [vacateSlot, freeRecord, loseMember_folios]
  simp [State.ledger, hf]

theorem decideRetire_books (body : List Byte) (s : State) : Books secured s (decideRetire body s).state :=
  .checked fun slot _ => .withRecord fun r h => by
    split
    · exact .refl
    · rename_i hnone
      have hoff : r.location ≠ .aboard := fun ha => by simp [retireRefusal, ha] at hnone
      have hr := retireCredentials_record h
      refine (retireCredentials_books h).trans (.one ?_)
      rw [done, retire_eq, vacateSlot_ledger]
      exact .retire _ slot { r with credentials := [], reservation := none } hr hoff

theorem decideSetMessage_books (body : List Byte) (s : State) : Books secured s (decideSetMessage body s).state :=
  .editRequest fun _ _ => ⟨rfl, rfl, rfl, rfl, rfl⟩

theorem decideSetWatch_books (body : List Byte) (s : State) : Books secured s (decideSetWatch body s).state :=
  .editRequest fun _ _ => ⟨rfl, rfl, rfl, rfl, rfl⟩

theorem decideSetFinal_books (body : List Byte) (s : State) : Books secured s (decideSetFinal body s).state :=
  .editRequest fun _ _ => ⟨rfl, rfl, rfl, rfl, rfl⟩

theorem decideSetTier_books (body : List Byte) (s : State) : Books secured s (decideSetTier body s).state :=
  .editRequest fun _ _ => ⟨rfl, rfl, rfl, rfl, rfl⟩

theorem decideSetCap_books (body : List Byte) (s : State) : Books secured s (decideSetCap body s).state :=
  .editRequest fun _ _ => ⟨rfl, rfl, rfl, rfl, rfl⟩

theorem decideSetStation_books (body : List Byte) (s : State) : Books secured s (decideSetStation body s).state :=
  .editRequest fun _ _ => ⟨rfl, rfl, rfl, rfl, rfl⟩

/-! ### Cabins, roles, locations, time and phases -/

theorem decideAssignCabin_books (body : List Byte) (s : State) : Books secured s (decideAssignCabin body s).state :=
  .checked fun q _ => .withRecord fun r h => by
    split
    · exact .refl
    · exact (Books.editRecord h (r.assigned_sameCounts q.2)).thenQuiet (State.putCabin_ledger _ _ _)

theorem decideVacateCabin_books (body : List Byte) (s : State) : Books secured s (decideVacateCabin body s).state :=
  .checked fun q _ => .withRecord fun r h => .refuseIf fun _ =>
    (Books.editRecord h (r.vacated_sameCounts q.2)).thenQuiet (State.putCabin_ledger _ _ _)

theorem decideSetRole_books (body : List Byte) (s : State) : Books secured s (decideSetRole body s).state :=
  .checked fun _ _ => .withRecord fun _ h => .refuseIf fun _ => .editRecord h ⟨rfl, rfl, rfl, rfl, rfl⟩

theorem decideSetLocation_books (body : List Byte) (s : State) : Books secured s (decideSetLocation body s).state :=
  .checked fun q _ => .withRecord fun r h => by
    split
    · exact .refl
    · exact (changeLocation_books q.2 h).trans (setLastPassage_books _ _ _)

theorem rollOver_books (day : Int) (s : State) : Books secured s (rollOver day s) := by
  have hr : Entry secured s.ledger { s.ledger with records := s.store.records.mapValues Record.nextDay } :=
    .mapRecords s.ledger _ fun _ => ⟨rfl, rfl, rfl, rfl, rfl⟩
  have hf : Entry secured { s.ledger with records := s.store.records.mapValues Record.nextDay }
      (rollOver day s).ledger :=
    .mapFolios _ _ fun f => .of_state (g := f.nextDay) rfl rfl
  exact Relation.ReflTransGen.tail (.single hr) hf

theorem rolloverTest_books (s : State) : Books secured s (rolloverTest s).1 := by
  rcases rolloverTest_cases s with ⟨t, l, -, -, -, h⟩ | ⟨-, h⟩ <;> rw [h]
  · exact rollOver_books _ s
  · exact .refl

theorem decideSetTime_books (body : List Byte) (s : State) : Books secured s (decideSetTime body s).state :=
  .checked fun t _ => by
    have h1 : Books secured s (setShipTime t s) := .quiet rfl
    cases hs : s.clock.status with
    | unset =>
      simp only [done]
      exact .quiet rfl
    | set =>
      simp only [done]
      exact h1.trans (rolloverTest_books _)

theorem sail_ledger (s : State) : (sail s).ledger = s.ledger := by
  unfold sail
  split <;> rfl

theorem decideSetPhase_books (body : List Byte) (s : State) : Books secured s (decideSetPhase body s).state :=
  .checked fun p _ => by
    unfold phaseChange
    split
    case h_1 | h_2 | h_4 => exact .quiet rfl
    case h_3 => exact .quiet (enterCutoff_ledger _)
    case h_5 => exact .quiet (sail_ledger s)
    case h_6 | h_7 | h_8 => exact .one (.enterMuster s.ledger)
    case h_9 => exact .refl

theorem decideEndMuster_books (body : List Byte) (s : State) : Books secured s (decideEndMuster body s).state :=
  .checked fun _ _ => .refuseIf fun _ => .quiet (by
    unfold done leaveMusterPhase
    dsimp only
    split
    · exact enterCutoff_ledger _
    · rfl)

/-! ### Folios and tabs -/

theorem decideLink_books (body : List Byte) (s : State) : Books secured s (decideLink body s).state :=
  .checked fun q _ => .withRecord fun r h => .withFolio fun f hf => by
    split
    · exact .refl
    · rename_i hnone
      simp only [linkRefusal, check_none_iff, and_true] at hnone
      obtain ⟨hne, -, -, hm⟩ := hnone
      have he : (relink q.1 r q.2 s).ledger =
          { s.ledger with
            records := s.store.records.put q.1 { r with folio := q.2 }
            folios := loseIn (s.folios.put q.2 f.joined) r.folio } := by
        rw [relink, loseMember_ledger, gainMember_folio (s := s.putRecord q.1 { r with folio := q.2 }) (f := f) hf]
        rfl
      exact .one (he ▸ .relink s.ledger q.1 r q.2 f h hf hne (Nat.lt_of_not_le hm))

theorem decideOpenFolio_books (body : List Byte) (s : State) : Books secured s (decideOpenFolio body s).state :=
  .checked fun q _ => by
    split
    · exact .refl
    · rename_i slot hfree
      obtain ⟨-, -, hnone, -⟩ := Table.lowestFree_spec hfree
      exact .one (.openFolio s.ledger slot (openedFolio q) hnone rfl (by simp [openedFolio]))

theorem decideCloseFolio_books (body : List Byte) (s : State) : Books secured s (decideCloseFolio body s).state :=
  .checked fun slot _ => .withFolio fun f hf => by
    split
    · exact .refl
    · split
      · exact .one (.endFolio s.ledger slot f hf ‹_›)
      · exact .editFolio hf ⟨rfl, fun _ => .inr ‹_›⟩

theorem decideReopenFolio_books (body : List Byte) (s : State) : Books secured s (decideReopenFolio body s).state :=
  .checked fun _ _ => .withFolio fun _ hf => .refuseIf fun _ => .editFolio hf (.of_open rfl (by simp))

theorem decideSuspendFolio_books (body : List Byte) (s : State) : Books secured s (decideSuspendFolio body s).state :=
  .checked fun _ _ => .withFolio fun _ hf => .refuseIf fun _ =>
    .editFolio hf (.of_open rfl (by simp [Folio.suspendedFor]))

theorem decideResumeFolio_books (body : List Byte) (s : State) : Books secured s (decideResumeFolio body s).state :=
  .checked fun _ _ => .withFolio fun _ hf => .refuseIf fun _ => by
    split
    · exact .editFolio hf (.of_open rfl (by simp [Folio.reactivated]))
    · split
      · exact .editFolio hf (.of_open rfl (by simp))
      · exact .refl

theorem decideSetLimits_books (body : List Byte) (s : State) : Books secured s (decideSetLimits body s).state :=
  .checked fun _ _ => .withFolio fun f hf => .refuseIf fun _ =>
    storeReevaluated_books fun _ => ⟨f, hf, .of_state rfl rfl⟩

theorem hostPosting_books {slot : Nat} {f posted : Folio} (b : Bool) (hf : s.folio slot = some f)
    (hp : f.SameMembers posted) : Books secured s (hostPosting slot f posted b s).state :=
  .refuseIf fun _ => .refuseIf fun _ => storeReevaluated_books fun _ => ⟨f, hf, hp⟩

theorem decidePayment_books (body : List Byte) (s : State) : Books secured s (decidePayment body s).state :=
  .checked fun _ _ => .withFolio fun _ hf => hostPosting_books _ hf (.of_state rfl rfl)

theorem decideRefund_books (body : List Byte) (s : State) : Books secured s (decideRefund body s).state :=
  .checked fun _ _ => .withFolio fun _ hf => hostPosting_books _ hf (.of_state rfl rfl)

theorem decideAdjustment_books (body : List Byte) (s : State) : Books secured s (decideAdjustment body s).state :=
  .checked fun _ _ => .withFolio fun _ hf => hostPosting_books _ hf (.of_state rfl rfl)

theorem decideAddPrepaid_books (body : List Byte) (s : State) : Books secured s (decideAddPrepaid body s).state :=
  .checked fun _ _ => .withFolio fun _ hf => .refuseIf fun _ => .editFolio hf (.of_state rfl rfl)

theorem releaseTab_books (entry : Nat) (t : Tab) (s : State) : Books secured s (releaseTab entry t s) := by
  unfold releaseTab
  dsimp only
  split
  · rename_i f hf
    have hstore : Books secured (freeTab entry s) (storeReevaluated t.folio (f.released t.hold) (freeTab entry s)) :=
      storeReevaluated_books fun _ => ⟨f, hf, .of_state rfl rfl⟩
    exact hstore.thenQuiet (report_ledger _ _)
  · exact .quiet rfl

theorem expireTab_books (entry : Nat) (s : State) : Books secured s (expireTab entry s) := by
  unfold expireTab
  split
  · split
    · exact (releaseTab_books entry _ s).thenQuiet (raise_ledger _ _)
    · exact .refl
  · exact .refl

theorem decideHostVoidTab_books (body : List Byte) (s : State) : Books secured s (decideHostVoidTab body s).state :=
  .checked fun _ _ => by
    split
    · exact .refl
    · exact releaseTab_books _ _ s

/-! ### Settings and services -/

theorem applySetting_books (v : SettingValue) (s : State) : Books secured s (applySetting v s) := by
  cases v with
  | rolloverHour n =>
    have h1 : Books secured s { s with settings := { s.settings with rolloverHour := n } } := .quiet rfl
    exact h1.trans (rolloverTest_books _)
  | lineMode m => exact .quiet (setLineMode_ledger s m)
  | reservationCode | blankingCode | watchdogCode | policy | standaloneLimit | enables | refusalMask | threshold
      | latchMode | ackMode | pulseCode | holdoff =>
    exact .quiet rfl

theorem decideOpenService_books (body : List Byte) (s : State) : Books secured s (decideOpenService body s).state :=
  .checked fun _ _ => .refuseIf fun _ => .refuseIf fun _ => .quiet rfl

theorem decideResumeService_books (body : List Byte) (s : State) :
    Books secured s (decideResumeService body s).state :=
  .checked fun _ _ => .refuseIf fun _ => .quiet rfl

theorem decideServiceReset_books (body : List Byte) (s : State) : Books secured s (decideServiceReset body s).state :=
  .quietRequest fun _ => resetService_ledger _

theorem decideReadNotices_books (body : List Byte) (s : State) : Books secured s (decideReadNotices body s).state :=
  .quietRequest fun _ => by cases s.settings.ackMode <;> rfl

theorem decideTerminalEnabled_books (body : List Byte) (s : State) :
    Books secured s (decideTerminalEnabled body s).state :=
  .checked fun _ _ => .refuseIf fun _ => .quiet rfl

/-! ### Requests of the terminals -/

theorem decideUnlock_books (p : Port) (e : TerminalEntry) (f : Frame) (s : State) :
    Books secured s (decideUnlock p e f s).state := by
  unfold decideUnlock
  dsimp only
  split
  · exact consumeMessage_books (lookup_found ‹_›)
  · exact .quiet (notFound_ledger _ _ _ _ _ _)

theorem decideLockMode_books (e : TerminalEntry) (f : Frame) (s : State) :
    Books secured s (decideLockMode e f s).state := by
  unfold decideLockMode
  split
  · exact .refl
  · dsimp only
    split <;> exact .quiet rfl

/-- A folio that a purchase passes is in use: one that is FREE refuses it (R129). -/
theorem folioOf_inUse {r : Record} {alcohol : Bool} {v : Venue} (h : purchaseRefusal r alcohol v (folioOf r s) = none) :
    s.folio r.folio = some (folioOf r s) := by
  cases hf : s.folio r.folio with
  | some f => simp [folioOf, hf]
  | none =>
    have hfree : folioOf r s = Folio.free := by simp [folioOf, hf]
    rw [hfree] at h
    unfold purchaseRefusal at h
    split at h
    · cases h
    · split at h
      · cases h
      · split at h <;> cases h

theorem declineLimit_books {slot : Nat} {f : Folio} (x : Int) (e : Nat)
    (h : secured → s.folio slot = some f) : Books secured s (declineLimit slot f x e s) := by
  unfold declineLimit
  split
  · have hput : Books secured s (s.putFolio slot (f.suspendedFor .limit)) :=
      .one (.editFolio s.ledger slot _ fun hs => ⟨f, h hs, .of_open rfl (by simp [Folio.suspendedFor])⟩)
    exact hput.thenQuiet (raise_ledger _ _)
  · exact .refl

theorem postCharge_books {slot folio : Nat} {f : Folio} (g : Figures) (graced : Bool) (h : s.folio folio = some f) :
    Books secured s (postCharge slot folio f g graced s) := by
  unfold postCharge
  dsimp only
  split
  · exact postToRecord_books _ _ _
  · exact (storeReevaluated_books fun _ => ⟨f, h, .posted f g graced⟩).trans (postToRecord_books _ _ _)

theorem computeCharge_books {slot : Nat} {r : Record} {f : Folio} (amount : Nat) (flags : ItemFlags) (v : Venue)
    (message : Option Nat) (h : s.folio r.folio = some f) :
    Books secured s (computeCharge slot r amount flags v f message s).2.2 := by
  unfold computeCharge
  dsimp only
  split
  · exact .refl
  · dsimp only
    split
    · exact declineLimit_books _ _ fun _ => h
    · exact postCharge_books _ _ h
    · exact postCharge_books _ _ h

theorem decideCharge_books (p : Port) (e : TerminalEntry) (f : Frame) (s : State) :
    Books secured s (decideCharge p e f s).state := by
  unfold decideCharge
  dsimp only
  split
  · exact .refl
  · exact .refl
  · split
    · rename_i slot r hl
      have h1 : Books secured s (consumeMessage slot r s) := consumeMessage_books (lookup_found hl)
      split
      · exact h1
      · refine h1.trans (computeCharge_books _ _ _ _ ?_)
        rw [r.shown_sameCounts.folio, State.folio, consumeMessage_folios]
        exact folioOf_inUse ‹_›
    · exact .quiet (notFound_ledger _ _ _ _ _ _)

theorem openTab_books (entry : Nat) (t : Tab) {f : Folio} (h : s.folio t.folio = some f) :
    Books secured s (openTab entry t f s) := by
  have hopen : Books secured s
      { s with tabs := { entries := s.tabs.entries.put entry t, nextNumber := nextTabNumber t.number } } := .quiet rfl
  have hstore := hopen.trans (storeReevaluated_books (slot := t.folio)
    (f' := { f with holds := f.holds + t.hold, openTabs := f.openTabs + 1 }) fun _ => ⟨f, h, .of_state rfl rfl⟩)
  exact hstore.thenQuiet (report_ledger _ _)

theorem decideOpenTab_books (p : Port) (e : TerminalEntry) (f : Frame) (s : State) :
    Books secured s (decideOpenTab p e f s).state := by
  unfold decideOpenTab
  dsimp only
  split
  · exact .refl
  · split
    · rename_i slot r hl
      split
      · exact .refl
      · split
        · exact .refl
        · exact .refl
        · rename_i hp _ _ entry _ _
          have hf : s.folio (openedTab slot r e.boundTo (f.field 6 4) s).folio = some (folioOf r s) := folioOf_inUse hp
          exact openTab_books entry _ hf
    · exact .quiet (notFound_ledger _ _ _ _ _ _)

/-- The open tabs are secured on folios in use (R109, R141). -/
def State.tabsSecured (s : State) : Prop := ∀ e ∈ s.tabs.entries, s.folio e.2.folio ≠ none

theorem tab_mem {n entry : Nat} {t : Tab} (h : s.tab n = some (entry, t)) : (entry, t) ∈ s.tabs.entries :=
  List.mem_of_find?_eq_some h

theorem postClose_books {entry : Nat} {t : Tab} {f : Folio} (g : Figures) (graced : Bool)
    (h : secured → s.folio t.folio = some f) : Books secured s (postClose entry t f g graced s) := by
  have hfree : Books secured s (freeTab entry s) := .quiet rfl
  have hpost : Books secured (freeTab entry s)
      (storeReevaluated t.folio ((f.released t.hold).posted g graced) (freeTab entry s)) :=
    storeReevaluated_books fun hs =>
      ⟨f, h hs, (Folio.SameMembers.of_state (f := f) (g := f.released t.hold) rfl rfl).trans (.posted _ g graced)⟩
  exact ((hfree.trans hpost).trans (postToRecord_books _ _ _)).thenQuiet (report_ledger _ _)

theorem computeClose_books {entry : Nat} {t : Tab} {f : Folio} (amount : Nat) (flags : ItemFlags) (v : Venue)
    (r : Record) (h : secured → s.folio t.folio = some f) :
    Books secured s (computeClose entry t amount flags v r f s).state := by
  unfold computeClose
  dsimp only
  split
  · exact .refl
  · split
    · exact .refl
    · split
      · exact declineLimit_books _ _ h
      · exact postClose_books _ _ h

theorem decideCloseTab_books (e : TerminalEntry) (f : Frame) {s : State} (h : secured → s.tabsSecured) :
    Books secured s (decideCloseTab e f s).state := by
  unfold decideCloseTab
  dsimp only
  split
  · exact .refl
  · split
    · exact .refl
    · split
      · exact .refl
      · rename_i entry t ht
        split
        · exact .refl
        · split
          · exact releaseTab_books _ _ s
          · split
            · refine computeClose_books _ _ _ _ fun hs => ?_
              obtain ⟨g, hg⟩ := Option.ne_none_iff_exists'.mp (h hs _ (tab_mem ht))
              simp [tabFolio, hg]
            · exact .refl

theorem decideVoidTab_books (e : TerminalEntry) (f : Frame) (s : State) :
    Books secured s (decideVoidTab e f s).state := by
  unfold decideVoidTab
  split
  · exact .refl
  · split
    · exact .refl
    · exact releaseTab_books _ _ s

theorem passEffect_books {slot : Nat} {r : Record} (gangway : Nat) (d : Direction) (o : Result × Option Location)
    (h : s.record slot = some r) : Books secured s (passEffect slot r gangway d o s) := by
  unfold passEffect
  dsimp only
  split
  · exact (changeLocation_books _ h).trans (setLastPassage_books _ _ _)
  · split
    · exact setLastPassage_books _ _ s
    · exact .refl

theorem decideGangway_books (p : Port) (e : TerminalEntry) (f : Frame) (s : State) :
    Books secured s (decideGangway p e f s).state := by
  unfold decideGangway
  dsimp only
  split
  · exact .refl
  · split
    · exact .refl
    · split
      · have hr := lookup_found ‹_›
        exact (consumeMessage_books hr).trans (passEffect_books _ _ _ (consumeMessage_record hr))
      · exact .quiet (notFound_ledger _ _ _ _ _ _)

theorem decideMusterTap_books (p : Port) (e : TerminalEntry) (f : Frame) (s : State) :
    Books secured s (decideMusterTap p e f s).state := by
  unfold decideMusterTap
  dsimp only
  split
  · exact .refl
  · split
    · rename_i slot r hl
      have hr := lookup_found hl
      have h1 : Books secured s (consumeMessage slot r s) := consumeMessage_books hr
      split
      · rename_i hacc
        simp only [tapAccepted, Bool.and_eq_true, decide_eq_true_eq, Bool.not_eq_true'] at hacc
        refine h1.trans (.one ?_)
        exact .checkIn _ slot r.shown e.boundTo (consumeMessage_record hr)
          (r.shown_sameCounts.location.trans hacc.1) (r.shown_sameCounts.musterFlag.trans hacc.2)
      · exact h1
    · exact .quiet (notFound_ledger _ _ _ _ _ _)

theorem decideLookup_books (p : Port) (e : TerminalEntry) (f : Frame) (s : State) :
    Books secured s (decideLookup p e f s).state := by
  unfold decideLookup
  dsimp only
  split
  · exact .refl
  · exact .quiet (notFound_ledger _ _ _ _ _ _)

end

/-! ### Every command -/

theorem sweep_books {secured : Prop} (s : State) : Books secured s (sweep s) := by
  have hlinks : Books secured s (sweepLinks s) := .forEach (fun p s => .quiet (by simp)) _ s
  have hres := hlinks.trans (.forEach expireReservation_books (Table.keys (sweepLinks s).store.records) _)
  have htabs := hres.trans (.forEach expireTab_books (Table.keys (sweepLinks s).tabs.entries) _)
  have hports := htabs.trans (.forEach (fun p s => .quiet (expireSilence_ledger s p)) (List.finRange 6) _)
  exact hports.thenQuiet ((endHoldoff_ledger _).trans ((endPulse_ledger _).trans (expireWatchdog_ledger _)))

theorem advance_books {secured : Prop} (s : State) : Books secured s (advance s) := by
  rcases advance_cases s with ⟨-, h⟩ | ⟨-, h⟩ <;> rw [h]
  · exact .quiet rfl
  · exact (Books.quiet rfl : Books secured s (tick s)).trans (rolloverTest_books _)

/-- Every command is a chain of entries in the books, the open tabs secured where the chain says so. -/
theorem exec_books {secured : Prop} {i : Instr} {s t : State} (hs : secured → s.tabsSecured)
    (h : exec i s = .next t) : Books secured s t := by
  cases i
  case writeDiscarded => exact .quiet (writeDiscarded_ledger h)
  case readReply => exact .quiet (readReply_ledger h)
  case runTimeAdvance =>
    obtain rfl : advance (sweep s) = t := Host.Outcome.next.inj h
    exact (sweep_books s).trans (advance_books _)
  all_goals cases h
  case frameArrival p => exact .quiet (settle_ledger s p)
  case interByteGap p => exact .quiet (endGap_ledger s p)
  case receivedByte p b g => exact .quiet (receive_ledger s p b g)
  case portSilenceExpiry p => exact .quiet (expireSilence_ledger s p)
  case unknownRequestKind p => exact .quiet (takeUnknownKind_ledger s p)
  case unknownKind kind body => exact .quiet (takeUnlisted_ledger s kind body)
  case serverWatchdogExpiry => exact .quiet (expireWatchdog_ledger s)
  case pulseEnd => exact .quiet (endPulse_ledger s)
  case holdoffEnd => exact .quiet (endHoldoff_ledger s)
  case powerOnReset => exact .one (.reset s.ledger)
  case reservationExpiry slot => exact expireReservation_books slot s
  case tabExpiry entry => exact expireTab_books entry s
  case rollover => exact rolloverTest_books s
  case ping => exact .takeRequest _ _ _ fun _ _ => .refl
  case unlock p => exact .takeRequest _ _ _ fun e f => decideUnlock_books p e f _
  case lockMode => exact .takeRequest _ _ _ fun e f => decideLockMode_books e f _
  case charge p => exact .takeRequest _ _ _ fun e f => decideCharge_books p e f _
  case openTab p => exact .takeRequest _ _ _ fun e f => decideOpenTab_books p e f _
  case closeTab => exact .takeRequest _ _ _ fun e f => decideCloseTab_books e f hs
  case voidTab => exact .takeRequest _ _ _ fun e f => decideVoidTab_books e f _
  case gangway p => exact .takeRequest _ _ _ fun e f => decideGangway_books p e f _
  case musterTap p => exact .takeRequest _ _ _ fun e f => decideMusterTap_books p e f _
  case lookup p => exact .takeRequest _ _ _ fun e f => decideLookup_books p e f _
  case issueRecord body => exact .manage _ _ (decideIssue_books body) s
  case reserveCredential body => exact .manage _ _ (decideReserve_books body) s
  case confirmCredential body => exact .manage _ _ (decideConfirm_books body) s
  case cancelCredential body => exact .manage _ _ (decideCancel_books body) s
  case revokeCredential body => exact .manage _ _ (decideRevoke_books body) s
  case removeRevoked body => exact .manage _ _ (decideRemoveRevoked_books body) s
  case holdRecord body => exact .manage _ _ (decideHold_books body) s
  case releaseRecord body => exact .manage _ _ (decideRelease_books body) s
  case retireRecord body => exact .manage _ _ (decideRetire_books body) s
  case setMessage body => exact .manage _ _ (decideSetMessage_books body) s
  case setWatch body => exact .manage _ _ (decideSetWatch_books body) s
  case setFinal body => exact .manage _ _ (decideSetFinal_books body) s
  case setTier body => exact .manage _ _ (decideSetTier_books body) s
  case setCap body => exact .manage _ _ (decideSetCap_books body) s
  case setStation body => exact .manage _ _ (decideSetStation_books body) s
  case setCabinZones body => exact .manage _ _ (fun _ => .quietRequest fun q => loadZones_ledger _ q.1 q.2) s
  case assignCabin body => exact .manage _ _ (decideAssignCabin_books body) s
  case vacateCabin body => exact .manage _ _ (decideVacateCabin_books body) s
  case setRole body => exact .manage _ _ (decideSetRole_books body) s
  case setLocation body => exact .manage _ _ (decideSetLocation_books body) s
  case setTime body => exact .manage _ _ (decideSetTime_books body) s
  case setPhase body => exact .manage _ _ (decideSetPhase_books body) s
  case endMuster body => exact .manage _ _ (decideEndMuster_books body) s
  case openFolio body => exact .manage _ _ (decideOpenFolio_books body) s
  case closeFolio body => exact .manage _ _ (decideCloseFolio_books body) s
  case reopenFolio body => exact .manage _ _ (decideReopenFolio_books body) s
  case suspendFolio body => exact .manage _ _ (decideSuspendFolio_books body) s
  case resumeFolio body => exact .manage _ _ (decideResumeFolio_books body) s
  case setLimits body => exact .manage _ _ (decideSetLimits_books body) s
  case postPayment body => exact .manage _ _ (decidePayment_books body) s
  case postRefund body => exact .manage _ _ (decideRefund_books body) s
  case postAdjustment body => exact .manage _ _ (decideAdjustment_books body) s
  case addPrepaid body => exact .manage _ _ (decideAddPrepaid_books body) s
  case linkRecord body => exact .manage _ _ (decideLink_books body) s
  case hostVoidTab body => exact .manage _ _ (decideHostVoidTab_books body) s
  case setTerminalEnabled body => exact .manage _ _ (decideTerminalEnabled_books body) s
  case openService body => exact .manage _ _ (decideOpenService_books body) s
  case resumeService body => exact .manage _ _ (decideResumeService_books body) s
  case serviceReset body => exact .manage _ _ (decideServiceReset_books body) s
  case setSetting body => exact .manage _ _ (fun s => .checked fun v _ => applySetting_books v s) s
  case readNotices body => exact .manage _ _ (decideReadNotices_books body) s
  case readRecord body =>
    exact .manage _ _ (fun s => .quietRequest fun slot => by cases s.record slot <;> rfl) s
  case readFolio body =>
    exact .manage _ _ (fun s => .quietRequest fun slot => by cases s.folio slot <;> rfl) s
  case readTab body => exact .manage _ _ (fun s => .quietRequest fun n => by cases s.tab n <;> rfl) s
  case findCredential | readRevoked | readCabin | readRole | readCounts | scan | readTime | readMuster | readVenue
      | readTier | listTabs | readTerminals | readSettings | readService | setCabinMode | loadRole | setClassPolicy
      | readWatch | loadVenue | setVenueOpen | loadTier | loadTerminal | portReset | readPort | ackNotices =>
    exact .manage _ _ (fun _ => .quietRequest fun _ => rfl) s

/-- A step is a chain of entries in the books. -/
theorem step_books {secured : Prop} {s t : State} (hs : secured → s.tabsSecured) (h : step s = .next t) :
    Books secured s t := by
  unfold step at h
  split at h
  · cases h
    exact .refl
  · rename_i c rest _
    have hrest : Books secured s { s with pending := rest } := .quiet rfl
    exact hrest.trans (exec_books (s := { s with pending := rest }) hs h)

theorem tabsSecured_of {s : State} (ht : s.tabsGood) (hm : s.membersGood) : s.tabsSecured := by
  obtain ⟨-, -, -, -, htabs⟩ := ht
  obtain ⟨-, -, huse, -⟩ := hm
  intro e he
  obtain ⟨-, -, r, hr, hfolio⟩ := htabs e he
  exact hfolio ▸ huse _ r hr

/-- Settles O7: a step is a chain of entries in the books, and each entry keeps the three laws; the muster counts lean
on the muster fields of each record, and the member counts on the folios that the open tabs are secured on. -/
theorem stepKeepsCountsWithRecords : Obligations.StepKeepsCountsWithRecords := by
  refine ⟨fun s t hs h => ?_, fun s t hr hs h => ?_, fun s t ht hs h => ?_⟩
  · rw [State.countsGood_iff] at hs ⊢
    exact (step_books (secured := False) False.elim h).keeps (fun _ _ => Entry.keeps_counted) hs
  · exact State.musterGood_of
      ((step_books (secured := False) False.elim h).keeps (fun _ _ => Entry.keeps_musters) (State.ledger_musters hr hs))
  · rw [State.membersGood_iff] at hs ⊢
    exact (step_books (fun _ => tabsSecured_of ht (s.membersGood_iff.mpr hs)) h).keeps
      (fun _ _ => Entry.keeps_members) hs

end Sys2Proof.Machine
end

section
/-! Locations, the watch set and the phases: O31, O32 and O34. -/

namespace Sys2Proof.Machine

/-! ### The two conditions -/

/-- Settles O31: the cells that R70 names are the cells that the two tests read. -/
theorem reconciliationConditions : Obligations.ReconciliationConditions := by
  refine fun m => ⟨?_, ?_⟩
  · simp only [allAboard, Bool.and_eq_true, decide_eq_true_eq, and_assoc]
    rfl
  · simp only [allClear, allAboard, Bool.and_eq_true, decide_eq_true_eq, and_assoc]
    rfl

/-! ### SET_LOCATION and READ_WATCH -/

theorem readLocation_body {slot : Nat} (h : slot < 12288) (l : Location) :
    readSlotAnd locationOf (bytes 2 slot ++ byte (locationCode l)) = .good (slot, l) :=
  readSlotAnd_body h (by cases l <;> decide) (by cases l <;> rfl)

/-- Settles O32: each request reads its operands, and its effect leaves the management port as it was. -/
theorem setLocationAndReadWatchComplete : Obligations.SetLocationAndReadWatchComplete := by
  refine fun s => ⟨fun slot r new hready hslot hr => ⟨fun hne => ?_, fun heq => ?_⟩,
    fun count hidle h1 h2 => ?_⟩
  · refine manage_checked hready (by simp) (readLocation_body hslot new) (fun m => ?_) (by simp) (by simp) (by simp)
    rw [withRecord_some (r := r) (by simpa using hr), if_neg hne, changeLocation_setManagement,
      setLastPassage_setManagement]
    rfl
  · refine manage_checked hready (by simp) (readLocation_body hslot new) (fun m => ?_) rfl rfl rfl
    rw [withRecord_some (r := r) (by simpa using hr), if_pos heq]
    rfl
  · refine manage_effect hidle (.inr (by decide)) (by simp) (fun m => ?_) rfl rfl rfl
    have hread : readNumber 1 (fun c => decide (1 ≤ c) && decide (c ≤ 16)) (byte count) = .good count :=
      readNumber_body (by omega) (by simp [h1, h2])
    rw [decideReadWatch, hread]
    simp only [checked, done, State.setManagement_passage, setWatch_setManagement, List.length_drop]
    rfl

/-! ### The phases -/

/-- The test at entry to CUTOFF raises each condition that holds (R72). -/
theorem enterCutoff_eq (s : State) :
    enterCutoff s =
      if allClear s.passage.counts = true then
        raise .allClear (if allAboard s.passage.counts = true then raise .allAboard s else s)
      else if allAboard s.passage.counts = true then raise .allAboard s else s := by
  simp only [enterCutoff, raiseReconciled, Bool.not_false, Bool.and_true]

section
variable {s : State} {p : Phase}

theorem phaseChange_plain
    (h : (s.muster.phase = .atSea ∧ p = .inPort) ∨ (s.muster.phase = .inPort ∧ p = .atSea) ∨
      (s.muster.phase = .cutoff ∧ p = .inPort)) :
    phaseChange p s = done (byte (phaseCode s.muster.phase)) (setPhase p s) := by
  rcases h with ⟨h, rfl⟩ | ⟨h, rfl⟩ | ⟨h, rfl⟩ <;> simp only [phaseChange, h]

theorem phaseChange_cutoff (h : s.muster.phase = .inPort) :
    phaseChange .cutoff s = done (byte (phaseCode s.muster.phase)) (enterCutoff (setPhase .cutoff s)) := by
  simp only [phaseChange, h]

theorem phaseChange_sail (h : s.muster.phase = .cutoff) :
    phaseChange .atSea s = done (byte (phaseCode s.muster.phase) ++ ashoreCells s.passage.counts) (sail s) := by
  simp only [phaseChange, h]

theorem phaseChange_muster (h : s.muster.phase ≠ .muster) :
    phaseChange .muster s = done (byte (phaseCode s.muster.phase)) (enterMuster s) := by
  cases hp : s.muster.phase with
  | muster => exact absurd hp h
  | atSea | inPort | cutoff => simp only [phaseChange, hp]

theorem phaseChange_refused
    (h : s.muster.phase = .muster ∨ s.muster.phase = p ∨ (s.muster.phase = .atSea ∧ p = .cutoff)) :
    phaseChange p s = refuse .wrongState s := by
  rcases h with h | h | ⟨h, rfl⟩
  · cases p <;> simp only [phaseChange, h]
  · cases p <;> simp only [phaseChange, h]
  · simp only [phaseChange, h]

end

theorem sail_setManagement (s : State) (m : ManagementPort) : sail (s.setManagement m) = (sail s).setManagement m := by
  unfold sail
  rw [State.setManagement_passage]
  split <;> rfl

/-- A change of phase does not look at the management port. -/
theorem phaseChange_setManagement (p : Phase) (s : State) (m : ManagementPort) :
    phaseChange p (s.setManagement m) =
      { phaseChange p s with state := (phaseChange p s).state.setManagement m } := by
  have hcutoff : enterCutoff (setPhase .cutoff (s.setManagement m)) =
      (enterCutoff (setPhase .cutoff s)).setManagement m := enterCutoff_setManagement (setPhase .cutoff s) m
  unfold phaseChange
  rw [State.setManagement_muster]
  split
  case h_3 => rw [hcutoff]; rfl
  case h_5 => rw [sail_setManagement]; rfl
  all_goals rfl

/-- SET_PHASE is the change of phase that it names, with the reply of that change. -/
theorem setPhase_eq {s : State} {p : Phase} {d : Decision} (h : s.ready) (hd : phaseChange p s = d)
    (hm : d.state.management = s.management) (hw : d.state.settings = s.settings) (hc : d.state.clock = s.clock) :
    exec (.setPhase (byte (phaseCode p))) s =
      .next (d.state.replied 0x3A (byte (phaseCode p)) d.code d.body) := by
  subst hd
  have hread (t : State) : decideSetPhase (byte (phaseCode p)) t = phaseChange p t :=
    congrArg (fun r => checked r t fun p => phaseChange p t) readPhase_body
  exact manage_effect h.1 (.inl h.2) (show (byte (phaseCode p)).length ≤ 1024 by simp)
    (fun m => (hread _).trans (phaseChange_setManagement p s m)) hm (by rw [hw]) (by rw [hc])

theorem raise_setPhase (c : Condition) (p : Phase) (s : State) : raise c (setPhase p s) = setPhase p (raise c s) := rfl

theorem sail_eq (s : State) :
    sail s = if allAboard s.passage.counts = true then setPhase .atSea s
      else raise .ashoreAtSailing (setPhase .atSea s) := by
  rw [raise_setPhase]
  unfold sail
  split <;> rfl

/-- The saved phase restored, with the test at entry to CUTOFF (R72, R87). -/
theorem leaveMusterPhase_eq (p : Phase) (s : State) :
    let back : State := { s with muster := { s.muster with phase := p, savedPhase := none } }
    let first := if p = .cutoff ∧ allAboard s.passage.counts = true then raise .allAboard back else back
    leaveMusterPhase p s =
      if p = .cutoff ∧ allClear s.passage.counts = true then raise .allClear first else first := by
  intro back first
  by_cases hp : p = .cutoff
  · have h : leaveMusterPhase p s = enterCutoff back := if_pos hp
    rw [h, enterCutoff_eq]
    simp only [first, hp, true_and, back]
  · have h : leaveMusterPhase p s = back := if_neg hp
    simp only [h, first, hp, false_and, if_false]

theorem leaveMusterPhase_setManagement (p : Phase) (s : State) (m : ManagementPort) :
    leaveMusterPhase p (s.setManagement m) = (leaveMusterPhase p s).setManagement m := by
  unfold leaveMusterPhase
  dsimp only
  split
  · exact enterCutoff_setManagement { s with muster := { s.muster with phase := p, savedPhase := none } } m
  · rfl

theorem leaveMusterPhase_frame (p : Phase) (s : State) :
    (leaveMusterPhase p s).management = s.management ∧ (leaveMusterPhase p s).settings = s.settings ∧
      (leaveMusterPhase p s).clock = s.clock := by
  unfold leaveMusterPhase
  dsimp only
  split
  · exact ⟨by simp, by simp, by simp⟩
  · exact ⟨rfl, rfl, rfl⟩

/-- Settles O34: SET_PHASE by the change of phase that it names, END_MUSTER by the phase that it restores. -/
theorem phaseRequestsComplete : Obligations.PhaseRequestsComplete := by
  refine ⟨fun s new hready => ?_, fun s hready => ⟨fun p hphase hsaved => ?_, fun hphase => ?_⟩⟩
  · intro body moved before
    refine ⟨fun h => ?_, fun hp hn => ?_, fun hp hn => ?_, fun hp hn => ?_, fun h => ?_⟩
    · exact setPhase_eq hready (phaseChange_plain h) rfl rfl rfl
    · subst hn
      intro first last
      have hlast : enterCutoff (setPhase .cutoff s) = last := enterCutoff_eq _
      rw [← hlast]
      exact setPhase_eq hready (phaseChange_cutoff hp) (by simp [done, setPhase]) (by simp [done, setPhase])
        (by simp [done, setPhase])
    · subst hn
      intro cells
      have hsail : sail s = if allAboard s.passage.counts = true then moved else raise .ashoreAtSailing moved :=
        sail_eq s
      rw [← hsail]
      refine setPhase_eq hready (phaseChange_sail hp) ?_ ?_ ?_ <;>
        (simp only [done, hsail]; split <;> rfl)
    · subst hn
      exact setPhase_eq hready (phaseChange_muster hp) rfl rfl rfl
    · exact setPhase_eq hready (phaseChange_refused h) rfl rfl rfl
  · intro back counts first last
    have hlast : leaveMusterPhase p s = last := leaveMusterPhase_eq p s
    obtain ⟨hm, hw, hc⟩ := leaveMusterPhase_frame p s
    rw [← hlast]
    refine manage_checked hready (by simp) readNothing_body (fun m => ?_) hm (by rw [hw]) (by rw [hc])
    have hrestored : restoredPhase (s.setManagement m) = p := by simp [restoredPhase, hsaved]
    rw [if_neg (by simp [hphase]), hrestored, leaveMusterPhase_setManagement]
    rfl
  · refine manage_checked hready (by simp) readNothing_body (fun m => ?_) rfl rfl rfl
    rw [if_pos (by simpa using hphase)]
    rfl

end Sys2Proof.Machine
end

section
/-! The ninth check of GANGWAY: O28. -/

namespace Sys2Proof.Machine

theorem passEffect_setPorts (slot : Nat) (r : Record) (g : Nat) (d : Direction) (o : Result × Option Location)
    (s : State) (b : Vector PortBlock 6) :
    passEffect slot r g d o (s.setPorts b) = (passEffect slot r g d o s).setPorts b := by
  obtain ⟨x, new⟩ := o
  cases new with
  | some l => simp only [passEffect, State.setPorts_clock, changeLocation_setPorts, setLastPassage_setPorts]
  | none =>
    simp only [passEffect, State.setPorts_clock, setLastPassage_setPorts]
    split <;> rfl

theorem passEffect_ports (slot : Nat) (r : Record) (g : Nat) (d : Direction) (o : Result × Option Location)
    (s : State) : (passEffect slot r g d o s).ports = s.ports := by
  obtain ⟨x, new⟩ := o
  cases new with
  | some l => simp [passEffect]
  | none =>
    simp only [passEffect]
    split <;> simp

section
variable {s : State} {p : Port} {e : TerminalEntry} {f : Frame} {n g slot : Nat} {r : Record} {d : Direction}

/-- The take of a GANGWAY that finds a record: it is judged by the checks from the fifth on, and has the effect of its
pass (R58 to R63). -/
theorem gangway_judged {o : Result × Option Location} (h : s.takes p e f) (he : e.kind = some .gangway)
    (hb : e.binding = some (.gangway g)) (hk : f.kind = 0x30) (hbody : f.body = bytes 6 n ++ byte (directionCode d))
    (hfinds : s.finds n slot r) (hp : ¬ (s.muster.phase = .atSea ∨ s.muster.phase = .muster))
    (ho : gangwayOutcome r g d s = o) :
    exec (.gangway p) s =
      .next
        ((reportRefusal p f.term o.1 (some n) (some slot)
          (passEffect slot r.shown g d o (consumeMessage slot r s))).answered p f o.1
            (passReply r (o.2.getD r.location))) := by
  obtain ⟨hn, hd⟩ := gangway_fields hbody hfinds.2.1
  refine takeRequest_decided
    ⟨o.1, passReply r (o.2.getD r.location), some n, some slot,
      passEffect slot r.shown g d o (consumeMessage slot r s)⟩
    h hk (isGangway_of he hb) (by simp [hbody]) (fun b => ?_) ?_
  · have ho' : gangwayOutcome r g d (s.setPorts b) = o := ho
    have hbound : e.boundTo = g := TerminalEntry.boundTo_of hb
    simp only [decideGangway, hn, hd, State.setPorts_muster, if_neg hp, lookup_setPorts, lookup_of_finds hfinds, hbound,
      ho', consumeMessage_setPorts, passEffect_setPorts]
    rfl
  · simp [passEffect_ports]

/-- A pass that moves the record (R61). -/
theorem passEffect_moved (new : Location) :
    passEffect slot r.shown g d (.ok, some new) (consumeMessage slot r s) =
      setLastPassage slot (some { gangway := g, direction := d, time := s.clock.runTime })
        (changeLocation slot r.shown new (consumeMessage slot r s)) := by
  simp only [passEffect, consumeMessage_clock]

/-- A denial moves nothing and writes no passage (R60). -/
theorem passEffect_denied {x : Result} (hx : x ≠ .passbackNoted) : passEffect slot r.shown g d (x, none) s = s := by
  simp only [passEffect, if_neg hx]

/-- A passback noted writes the last passage alone (R62). -/
theorem passEffect_noted :
    passEffect slot r.shown g d (.passbackNoted, none) (consumeMessage slot r s) =
      setLastPassage slot (some { gangway := g, direction := d, time := s.clock.runTime })
        (consumeMessage slot r s) := by
  simp only [passEffect, if_true, consumeMessage_clock]

/-- The pass of a record that the fifth to the eighth check let through (R61, R62). -/
theorem gangwayOutcome_ninth
    (hphase : s.muster.phase = .inPort ∨
      (s.muster.phase = .cutoff ∧ (d = .inbound ∨ r.cls = .crew ∨ r.cls = .visitor)))
    (hwindow : ∀ l, r.lastPassage = some l →
      l.gangway ≠ g ∨ l.direction ≠ d ∨ l.time + blankingWindow s.settings.blankingCode ≤ s.clock.runTime)
    (hheld : d = .inbound ∨ r.life = .active) (hloc : r.location ≠ .disembarked) :
    gangwayOutcome r g d s = passOutcome r d s := by
  have hrepeat : ¬ isRepeat r g d s = true := by
    rw [isRepeat_iff]
    rintro ⟨t, hl, ht⟩
    have := hwindow _ hl
    simp only [ne_eq, not_true_eq_false, false_or] at this
    omega
  have hlife : ¬ (r.life = .held ∧ d = .outbound) := by
    rintro ⟨hh, rfl⟩
    simp [hh] at hheld
  rw [gangwayOutcome_open hphase, if_neg hrepeat, if_neg hloc, if_neg hlife]

theorem passOutcome_moves {new : Location}
    (h : (d = .inbound ∧ (r.location = .notEmbarked ∨ r.location = .ashore) ∧ new = .aboard) ∨
      (d = .outbound ∧ r.location = .aboard ∧ new = if r.final then .disembarked else .ashore)) :
    passOutcome r d s = (.ok, some new) := by
  rcases h with ⟨rfl, hl | hl, rfl⟩ | ⟨rfl, hl, rfl⟩ <;> simp only [passOutcome, hl]

theorem passOutcome_passback
    (h : (d = .inbound ∧ r.location = .aboard) ∨ (d = .outbound ∧ r.location = .ashore)) :
    passOutcome r d s =
      if (s.access.policies.get r.cls).passback = .hard then (.denyPassback, none) else (.passbackNoted, none) := by
  cases hb : (s.access.policies.get r.cls).passback <;> rcases h with ⟨rfl, hl⟩ | ⟨rfl, hl⟩ <;>
    simp [passOutcome, hl, hb]

end

/-- Settles O28: the checks before the ninth pass, and the pass by location and direction gives each clause. -/
theorem gangwayDecidesTheNinthCheck : Obligations.GangwayDecidesTheNinthCheck := by
  intro s p e f n slot g r d htakes he hb hk hbody hfinds hphase hwindow hheld shown passage
  have hp : ¬ (s.muster.phase = .atSea ∨ s.muster.phase = .muster) := by
    rcases hphase with h | ⟨h, -⟩ <;> simp [h]
  have hpass {o : Result × Option Location} (hloc : r.location ≠ .disembarked) (ho : passOutcome r d s = o) :=
    gangway_judged htakes he hb hk hbody hfinds hp
      ((gangwayOutcome_ninth hphase hwindow hheld hloc).trans ho)
  refine ⟨fun new h => ?_, fun h => ⟨fun hsoft => ?_, fun hhard => ?_⟩, fun hd hl => ?_⟩
  · have hloc : r.location ≠ .disembarked := by rcases h with ⟨-, hl | hl, -⟩ | ⟨-, hl, -⟩ <;> simp [hl]
    rw [hpass hloc (passOutcome_moves h), reportRefusal_ok rfl, passEffect_moved]
    rfl
  · have hloc : r.location ≠ .disembarked := by rcases h with ⟨-, hl⟩ | ⟨-, hl⟩ <;> simp [hl]
    rw [hpass hloc ((passOutcome_passback h).trans (if_neg (by simp [hsoft]))), reportRefusal_ok rfl, passEffect_noted]
    rfl
  · have hloc : r.location ≠ .disembarked := by rcases h with ⟨-, hl⟩ | ⟨-, hl⟩ <;> simp [hl]
    rw [hpass hloc ((passOutcome_passback h).trans (if_pos hhard)), passEffect_denied (by decide)]
    rfl
  · subst hd
    rw [hpass (o := (.denyNotEmbarked, none)) (by simp [hl]) (by simp only [passOutcome, hl]),
      passEffect_denied (by decide), ← hl]
    rfl

end Sys2Proof.Machine
end

section
/-! What a change of location moves, and the reconciliation test: O30. -/

namespace Sys2Proof.Machine

/-! ### The pending bits that a condition raises -/

theorem conditionCode_lt (c : Condition) : conditionCode c < 17 := by cases c <;> decide

theorem conditionCode_injective : Function.Injective conditionCode :=
  Function.LeftInverse.injective (g := Condition.ofNat) fun c => by cases c <;> rfl

@[simp] theorem Condition.bit_at (c c' : Condition) : c.bit.getLsbD (conditionCode c') = decide (c' = c) := by
  have hbit : c.bit = BitVec.twoPow 17 (conditionCode c) := rfl
  rw [hbit, BitVec.getLsbD_twoPow, decide_eq_true (conditionCode_lt c), Bool.true_and]
  simp only [conditionCode_injective.eq_iff, eq_comm]

theorem raise_pending_at (c c' : Condition) (s : State) :
    (raise c s).notice.pending.getLsbD (conditionCode c') =
      (s.notice.pending.getLsbD (conditionCode c') || decide (c' = c)) := by
  simp

theorem setWatch_notice_pending (w : List WatchEntry) (s : State) :
    (setWatch w s).notice.pending = s.notice.pending := by
  rw [setWatch, changeNotices_eq]

/-! ### The reconciliation test -/

/-- The reconciliation test writes the notice unit alone. -/
theorem reconcile_notice (before : ByClass (ByLocation Nat)) (s : State) :
    reconcile before s = { s with notice := (reconcile before s).notice } := by
  unfold reconcile raiseReconciled
  dsimp only
  split
  · split <;> split <;> rfl
  · rfl

theorem reconcile_pending_at (before : ByClass (ByLocation Nat)) (s : State) (c : Condition) :
    (reconcile before s).notice.pending.getLsbD (conditionCode c) =
      (s.notice.pending.getLsbD (conditionCode c) ||
        (decide (s.muster.phase = .cutoff) &&
          ((decide (c = .allAboard) && (allAboard s.passage.counts && !allAboard before)) ||
            (decide (c = .allClear) && (allClear s.passage.counts && !allClear before))))) := by
  by_cases hphase : s.muster.phase = .cutoff
  · simp only [reconcile, if_true, raiseReconciled, hphase, decide_true, Bool.true_and]
    cases allAboard s.passage.counts && !allAboard before <;> cases allClear s.passage.counts && !allClear before <;>
      simp [Bool.or_assoc]
  · simp [reconcile, hphase]

/-- The test made on a state whose phase and whose two conditions are those of the state before (R71). -/
theorem reconciled_reconcile {s u : State} (hphase : u.muster.phase = s.muster.phase)
    (hpending : ∀ c, c = .allAboard ∨ c = .allClear →
      u.notice.pending.getLsbD (conditionCode c) = s.notice.pending.getLsbD (conditionCode c)) :
    reconciled s (reconcile s.passage.counts u) := by
  refine ⟨?_, ?_⟩ <;>
    simp [reconcile_pending_at, hpending, hphase, and_comm]

/-! ### The watch set -/

section
variable (slot : Nat) (h : Hit) (s : State)

theorem enterWatch_seen (hin : ∃ e ∈ s.passage.watch, e.slot = slot) :
    enterWatch slot h s = setWatch (s.passage.watch.map fun e => if e.slot = slot then e.flagged h else e) s :=
  if_pos (by simpa using hin)

theorem enterWatch_room (hin : ∀ e ∈ s.passage.watch, e.slot ≠ slot) (hroom : s.passage.watch.length < 64) :
    enterWatch slot h s =
      setWatch (s.passage.watch ++
        [{ slot := slot, wentAshore := decide (h = .wentAshore), cameAboard := decide (h = .cameAboard) }]) s := by
  rw [enterWatch, if_neg (by simpa using hin), if_pos (c := _ < Config.watchSize) hroom]
  cases h <;> rfl

theorem enterWatch_overflow (hin : ∀ e ∈ s.passage.watch, e.slot ≠ slot) (hfull : 64 ≤ s.passage.watch.length) :
    enterWatch slot h s = raise .watchOverflow s := by
  rw [enterWatch, if_neg (by simpa using hin), if_neg (c := _ < Config.watchSize) (Nat.not_lt.mpr hfull)]

/-- A hit raises no condition but WATCH_OVERFLOW (R67). -/
theorem enterHit_pending_other (hit : Option Hit) {c : Condition} (hc : c ≠ .watchOverflow) :
    (enterHit slot hit s).notice.pending.getLsbD (conditionCode c) = s.notice.pending.getLsbD (conditionCode c) := by
  cases hit with
  | none => rfl
  | some h =>
    simp only [enterHit, enterWatch]
    split
    · rw [setWatch_notice_pending]
    · split
      · rw [setWatch_notice_pending]
      · simp [hc]

end

/-- The hits of R66: a departure from ABOARD and an arrival into it, each where the watch mode asks for it. -/
theorem watchHit_iff {m : WatchMode} {old new : Location} (hne : old ≠ new) :
    (watchHit m old new = some .wentAshore ↔
      (m = .onAshore ∨ m = .any) ∧ old = .aboard ∧ (new = .ashore ∨ new = .disembarked)) ∧
    (watchHit m old new = some .cameAboard ↔ (m = .onAboard ∨ m = .any) ∧ new = .aboard) := by
  unfold watchHit
  by_cases ho : old = .aboard
  · have hn : new ≠ .aboard := fun hn => hne (ho.trans hn.symm)
    simp [ho, hn, and_comm, or_iff_not_imp_right]
  · simp [ho, and_comm, or_iff_not_imp_right]

/-! ### The change of location -/

section
variable {slot : Nat} {r : Record} {new : Location} {s : State}

theorem raiseTabAshore_pending_other {c : Condition} (hc : c ≠ .tabAshore) :
    (raiseTabAshore slot r s).notice.pending.getLsbD (conditionCode c) =
      s.notice.pending.getLsbD (conditionCode c) := by
  unfold raiseTabAshore
  split
  · simp [hc]
  · rfl

@[simp] theorem raiseTabAshore_store : (raiseTabAshore slot r s).store = s.store := by
  unfold raiseTabAshore
  split <;> rfl

@[simp] theorem raiseTabAshore_muster : (raiseTabAshore slot r s).muster = s.muster := by
  unfold raiseTabAshore
  split <;> rfl

@[simp] theorem raiseTabAshore_passage : (raiseTabAshore slot r s).passage = s.passage := by
  unfold raiseTabAshore
  split <;> rfl

@[simp] theorem enterHit_store (hit : Option Hit) : (enterHit slot hit s).store = s.store := by
  cases hit <;> simp [enterHit]

@[simp] theorem enterHit_muster (hit : Option Hit) : (enterHit slot hit s).muster = s.muster := by
  cases hit <;> simp [enterHit]

theorem changeLocation_store : (changeLocation slot r new s).store = (s.relocated slot r new).store := by
  rw [changeLocation_eq, reconcile_store, enterHit_store, raiseTabAshore_store]

theorem changeLocation_muster : (changeLocation slot r new s).muster = (s.relocated slot r new).muster := by
  rw [changeLocation_eq, reconcile_muster, enterHit_muster, raiseTabAshore_muster]

theorem changeLocation_counts :
    (changeLocation slot r new s).passage.counts = addCell (subCell s.passage.counts r.cls r.location) r.cls new :=
  congrArg Ledger.counts (changeLocation_ledger slot r new s)

/-- The watch set after a change of location is what its hit makes of it (R66). -/
theorem changeLocation_watch :
    (changeLocation slot r new s).passage.watch =
      (enterHit slot (watchHit r.watchMode r.location new)
        (raiseTabAshore slot r (s.relocated slot r new))).passage.watch := by
  rw [changeLocation_eq, reconcile_passage]

theorem changeLocation_record (k : Nat) :
    (changeLocation slot r new s).record k = if k = slot then some (r.relocated new) else s.record k := by
  rw [State.record, changeLocation_store]
  exact Table.find_put _ _ _ _

@[simp] theorem relocated_watch : (s.relocated slot r new).passage.watch = s.passage.watch := rfl

theorem relocated_phase : (s.relocated slot r new).muster.phase = s.muster.phase := by
  simp only [State.relocated]
  split <;> rfl

theorem relocated_muster_of_counted (h : r.location = .aboard ∧ r.musterFlag = true) :
    (s.relocated slot r new).muster = s.muster.recount r.cls (r.musteredAt.getD 0) (· - 1) :=
  if_pos h

theorem relocated_muster_of_uncounted (h : ¬ (r.location = .aboard ∧ r.musterFlag = true)) :
    (s.relocated slot r new).muster = s.muster :=
  if_neg h

/-- The tally of a station after a recount at one station (R92, R94). -/
theorem recount_tally {m : MusterUnit} (c : PersonClass) (n k : Nat) (f : Nat → Nat)
    (hwf : Table.wf m.tallies = true) :
    (m.recount c n f).tallies.value 0 k = if k = n then f (m.tallies.value 0 n) else m.tallies.value 0 k := by
  by_cases hk : k = n
  · subst hk
    rw [if_pos rfl]
    exact Table.value_putValue_same _ _ _ hwf
  · rw [if_neg hk]
    exact Table.value_putValue_other _ _ _ hk

/-- One count goes from the old cell of the class to the new one (R55). -/
theorem cell_moved (m : ByClass (ByLocation Nat)) (cls c : PersonClass) {old new : Location} (hne : old ≠ new)
    (l : Location) :
    cell (addCell (subCell m cls old) cls new) c l =
      if c = cls ∧ l = old then cell m c l - 1 else if c = cls ∧ l = new then cell m c l + 1 else cell m c l := by
  rw [cell_addCell, cell_subCell]
  by_cases hold : c = cls ∧ l = old
  · have hnew : ¬ (c = cls ∧ l = new) := fun hnew => hne (hold.2.symm.trans hnew.2)
    simp only [if_pos hold, if_neg hnew, Nat.add_zero]
  · by_cases hnew : c = cls ∧ l = new
    · simp only [if_neg hold, if_pos hnew, Nat.sub_zero]
    · simp only [if_neg hold, if_neg hnew, Nat.sub_zero, Nat.add_zero]

/-- TAB_ASHORE is raised for an opener of tabs that leaves ABOARD, and no later effect takes it back (R55). -/
theorem changeLocation_tabAshore (hl : r.location = .aboard) (htab : ∃ e ∈ s.tabs.entries, e.2.opener = slot) :
    (changeLocation slot r new s).notice.pending.getLsbD (conditionCode .tabAshore) = true := by
  have hopens : (s.relocated slot r new).opensTabs slot = true := by
    simpa [State.opensTabs, State.relocated] using htab
  rw [changeLocation_eq, reconcile_pending_at, enterHit_pending_other _ _ _ (by decide), raiseTabAshore,
    if_pos ⟨hl, hopens⟩, raise_pending_at]
  simp

/-- A hit that finds the watch set full raises WATCH_OVERFLOW (R67). -/
theorem changeLocation_overflow {h : Hit} (hhit : watchHit r.watchMode r.location new = some h)
    (hin : ∀ e ∈ s.passage.watch, e.slot ≠ slot) (hfull : 64 ≤ s.passage.watch.length) :
    (changeLocation slot r new s).notice.pending.getLsbD (conditionCode .watchOverflow) = true := by
  rw [changeLocation_eq, reconcile_pending_at, hhit, enterHit,
    enterWatch_overflow _ _ _ (by simpa using hin) (by simpa using hfull), raise_pending_at]
  simp

theorem changeLocation_reconciled : reconciled s (changeLocation slot r new s) := by
  rw [changeLocation_eq]
  refine reconciled_reconcile (by rw [enterHit_muster, raiseTabAshore_muster, relocated_phase]) fun c hc => ?_
  have hw : c ≠ .watchOverflow := by rcases hc with rfl | rfl <;> decide
  have ht : c ≠ .tabAshore := by rcases hc with rfl | rfl <;> decide
  rw [enterHit_pending_other _ _ _ hw, raiseTabAshore_pending_other ht]
  rfl

end

/-- Settles O30: each unit after the five effects is read off the effect that writes it. -/
theorem changeOfLocationAndItsWatchHits : Obligations.ChangeOfLocationAndItsWatchHits := by
  refine ⟨fun s slot r new hr hne => ?_, fun m old new hne => watchHit_iff hne, fun s before => ?_⟩
  · refine ⟨fun hoff => ⟨?_, ?_⟩, fun hoff => ⟨?_, fun hwf n hn => ⟨?_, fun k => ?_, ?_, ?_⟩⟩, fun k hk => ?_,
      ?_, ?_, fun c l => ?_, changeLocation_tabAshore,
      fun h hhit => ⟨fun hin => ?_, fun hin hroom => ?_, fun hin hfull =>
        ⟨?_, changeLocation_overflow hhit hin hfull⟩⟩,
      fun hnone => ?_, changeLocation_reconciled, ?_⟩
    · rw [changeLocation_record, if_pos rfl, Record.relocated, if_neg hoff]
    · rw [changeLocation_muster, relocated_muster_of_uncounted hoff]
    · rw [changeLocation_record, if_pos rfl, Record.relocated, if_pos hoff]
    · rw [changeLocation_muster, relocated_muster_of_counted hoff]
      rfl
    · rw [State.tally, changeLocation_muster, relocated_muster_of_counted hoff, hn]
      exact recount_tally _ _ _ _ hwf
    · rw [changeLocation_muster, relocated_phase]
    · rw [changeLocation_muster, relocated_muster_of_counted hoff]
      rfl
    · rw [changeLocation_record, if_neg hk]
    · rw [changeLocation_store]
      rfl
    · rw [changeLocation_store]
      rfl
    · rw [changeLocation_counts, cell_moved _ _ _ hne]
    · rw [changeLocation_watch, hhit, enterHit, enterWatch_seen _ _ _ (by simpa using hin)]
      simp
    · rw [changeLocation_watch, hhit, enterHit, enterWatch_room _ _ _ (by simpa using hin) (by simpa using hroom)]
      simp
    · rw [changeLocation_watch, hhit, enterHit, enterWatch_overflow _ _ _ (by simpa using hin) (by simpa using hfull)]
      simp
    · rw [changeLocation_watch, hnone, enterHit, raiseTabAshore_passage]
      rfl
    · simp
  · refine ⟨reconciled_reconcile (s := { s with passage := { s.passage with counts := before } }) rfl
      fun _ _ => rfl, reconcile_notice before s, fun c ha hc => ?_⟩
    simp [reconcile_pending_at, ha, hc]

end Sys2Proof.Machine
end

section
/-! READ_NOTICES, the acknowledgement, the capacity reports and the report of a refusal: O59. -/

namespace Sys2Proof.Machine

/-! ### The acknowledgement -/

theorem Condition.and_bit_eq_zero {v : BitVec 17} {c : Condition} :
    v &&& c.bit = 0 ↔ v.getLsbD (conditionCode c) = false := by
  have hbit : c.bit = BitVec.twoPow 17 (conditionCode c) := rfl
  constructor
  · intro h
    have hat := congrArg (·.getLsbD (conditionCode c)) h
    simpa using hat
  · intro h
    simp [hbit, BitVec.and_twoPow, h]

/-- An acknowledgement of a set clears a condition: the set names it, and it may be cleared (R196, R197). -/
def clears (set : BitVec 17) (s : State) (c : Condition) : Bool :=
  set.getLsbD (conditionCode c) && decide (c ≠ .watchHit) &&
    !(decide (c = .capacity) && decide (s.settings.latchMode = .live))

section
variable (set : BitVec 17) (s : State)

theorem clearedBits_at (c : Condition) :
    (set &&& ~~~keptBits s).getLsbD (conditionCode c) = clears set s c := by
  rw [BitVec.getLsbD_and, BitVec.getLsbD_not, decide_eq_true (conditionCode_lt c)]
  by_cases hm : s.settings.latchMode = .live <;> simp [keptBits, clears, hm, Bool.and_assoc]

theorem clearedBits_and_eq_zero (c : Condition) :
    (set &&& ~~~keptBits s) &&& c.bit = 0 ↔ clears set s c = false := by
  rw [Condition.and_bit_eq_zero, clearedBits_at]

theorem acknowledge_notice_pending :
    (acknowledge set s).notice.pending = s.notice.pending &&& ~~~(set &&& ~~~keptBits s) := by
  rw [acknowledge, changeNotices_eq]

theorem acknowledge_silentPorts :
    (acknowledge set s).notice.silentPorts = if clears set s .portSilent then 0 else s.notice.silentPorts := by
  rw [acknowledge, changeNotices_eq]
  simp only [clearedBits_and_eq_zero]
  cases clears set s .portSilent <;> rfl

theorem acknowledge_errorPorts :
    (acknowledge set s).notice.errorPorts = if clears set s .portErrors then 0 else s.notice.errorPorts := by
  rw [acknowledge, changeNotices_eq]
  simp only [clearedBits_and_eq_zero]
  cases clears set s .portErrors <;> rfl

theorem acknowledge_flags :
    (acknowledge set s).notice.flags =
      if clears set s .capacity then { records := false, credentials := false, revocations := false, tabs := false }
      else s.notice.flags := by
  rw [acknowledge, changeNotices_eq]
  simp only [clearedBits_and_eq_zero]
  cases clears set s .capacity <;> rfl

theorem acknowledge_levels : (acknowledge set s).notice.levels = s.notice.levels := by
  rw [acknowledge, changeNotices_eq]

theorem acknowledge_lastRefusal : (acknowledge set s).notice.lastRefusal = s.notice.lastRefusal := by
  rw [acknowledge, changeNotices_eq]

/-- A condition is pending by its bit, WATCH_HIT also by the watch set and CAPACITY by the flags (R192, R195). -/
theorem pendingConditions_at (c : Condition) :
    s.pendingConditions.getLsbD (conditionCode c) =
      (s.notice.pending.getLsbD (conditionCode c) || (decide (c = .watchHit) && !s.passage.watch.isEmpty) ||
        (decide (c = .capacity) && anyFlag s.notice.flags)) := by
  rw [State.pendingConditions]
  cases s.passage.watch.isEmpty <;> cases anyFlag s.notice.flags <;> simp

/-- What an acknowledgement leaves pending (R196, R197). -/
theorem acknowledge_pendingConditions_at (c : Condition) :
    (acknowledge set s).pendingConditions.getLsbD (conditionCode c) =
      (s.pendingConditions.getLsbD (conditionCode c) && !clears set s c) := by
  have hwatch : clears set s .watchHit = false := by simp [clears]
  rw [pendingConditions_at, pendingConditions_at, acknowledge_notice_pending, acknowledge_flags, BitVec.getLsbD_and,
    BitVec.getLsbD_not, clearedBits_at,
    decide_eq_true (conditionCode_lt c)]
  by_cases hw : c = .watchHit
  · subst hw
    simp [hwatch]
  · by_cases hc : c = .capacity
    · subst hc
      cases clears set s .capacity <;> simp [anyFlag]
    · simp [hw, hc]

end

/-! ### The capacity reports -/

theorem ByTable.get_set {α : Type} (b : ByTable α) (t o : CapacityTable) (v : α) :
    (b.set t v).get o = if o = t then v else b.get o := by
  cases t <;> cases o <;> rfl

theorem flagAfter_of_below (m : LatchMode) (flag : Bool) :
    flagAfter m .below flag = if m = .latched then flag else false := by
  cases m <;> rfl

section
variable (t : CapacityTable) (s : State)

theorem report_levels : (report t s).notice.levels = s.notice.levels.set t (s.level t) := by
  rw [report, changeNotices_eq]

theorem report_flags :
    (report t s).notice.flags =
      s.notice.flags.set t (flagAfter s.settings.latchMode (s.level t) (s.notice.flags.get t)) := by
  rw [report, changeNotices_eq]

/-- A report leaves the port sets and the last refusal as they were. -/
theorem report_notice_kept :
    (report t s).notice.silentPorts = s.notice.silentPorts ∧ (report t s).notice.errorPorts = s.notice.errorPorts ∧
      (report t s).notice.lastRefusal = s.notice.lastRefusal := by
  rw [report, changeNotices_eq]
  exact ⟨rfl, rfl, rfl⟩

theorem report_full (h : t.size * s.settings.threshold / 100 ≤ s.occupancy t) :
    (report t s).notice.levels.get t = .at ∧ (report t s).notice.flags.get t = true := by
  have hlevel : s.level t = .at := if_pos h
  rw [report_levels, report_flags, hlevel, ByTable.get_set, ByTable.get_set, if_pos rfl, if_pos rfl]
  exact ⟨rfl, rfl⟩

theorem report_below (h : ¬ t.size * s.settings.threshold / 100 ≤ s.occupancy t) :
    (report t s).notice.levels.get t = .below ∧
      (report t s).notice.flags.get t =
        if s.settings.latchMode = .latched then s.notice.flags.get t else false := by
  have hlevel : s.level t = .below := if_neg h
  rw [report_levels, report_flags, hlevel, ByTable.get_set, ByTable.get_set, if_pos rfl, if_pos rfl]
  exact ⟨rfl, flagAfter_of_below _ _⟩

end

/-! ### The report of a refusal -/

/-- The results that are no refusal are the OK class (R194). -/
theorem Result.isRefusal_eq_false_iff (x : Result) :
    x.isRefusal = false ↔ x = .ok ∨ x = .okGrace ∨ x = .repeated ∨ x = .passbackNoted ∨ x = .okElsewhere := by
  cases x <;> decide

/-- The report of a selected refusal writes the last-refusal record and what the raise of REFUSAL writes (R194). -/
theorem reportRefusal_writes {p : Port} {term : Nat} {x : Result} {c slot : Option Nat} {s : State}
    (hx : x.isRefusal = true) (hs : s.selects x = true) :
    reportRefusal p term x c slot s =
      { s with notice :=
          { s.notice with
            pending := s.notice.pending ||| Condition.refusal.bit
            lastRefusal := some (s.refusal p term x c slot)
            line := (raise .refusal s).notice.line
            owed := (raise .refusal s).notice.owed } } := by
  rw [reportRefusal_selected hx hs]
  conv_lhs => rw [raise_eq]

/-- Settles O59: each clause is the equation of the operation that its event makes. -/
theorem noticesReadClearedAndReported : Obligations.NoticesReadClearedAndReported := by
  refine ⟨fun s hidle => ⟨fun hmode => ?_, fun hmode => ?_, fun set => ⟨?_, acknowledge_pendingConditions_at set s,
      acknowledge_silentPorts set s, acknowledge_errorPorts set s, fun hc => ?_, acknowledge_levels set s,
      acknowledge_lastRefusal set s, rfl⟩⟩,
    fun s t => ⟨report_full t s, report_below t s, fun o ho => ?_, rfl, report_notice_pending t s,
      report_notice_kept t s⟩,
    fun s p term x credential slot => ⟨fun hx hmask => ?_, fun h => ?_⟩⟩
  · refine manage_read hidle (by decide) (by simp) readNothing_body fun m => ?_
    simp only [State.setManagement_settings, hmode]
    rfl
  · refine manage_effect hidle (.inr (by decide)) (by simp) (fun m => ?_) rfl rfl rfl
    rw [decideReadNotices, readNothing_body]
    simp only [checked, State.setManagement_settings, hmode, acknowledge_setManagement]
    rfl
  · refine manage_effect hidle (.inr (by decide)) (by simp) (fun m => ?_) rfl rfl rfl
    rw [decideAckNotices, readConditions_body]
    simp only [checked, acknowledge_setManagement]
    rfl
  · have hkept : clears set s .capacity = false := hc
    rw [acknowledge_flags, if_neg (by simp [hkept])]
  · rw [report_levels, report_flags, ByTable.get_set, ByTable.get_set, if_neg ho, if_neg ho]
    exact ⟨rfl, rfl⟩
  · have hrefusal : x.isRefusal = true := by
      rw [← Bool.not_eq_false]
      exact fun hfalse => hx ((Result.isRefusal_eq_false_iff x).mp hfalse)
    rw [reportRefusal_writes hrefusal hmask]
    exact ⟨rfl, rfl, rfl⟩
  · rcases h with hok | hmask
    · exact reportRefusal_ok ((Result.isRefusal_eq_false_iff x).mpr hok)
    · exact reportRefusal_unselected hmask

end Sys2Proof.Machine
end

section
/-! The reads of the tables: O57. -/

namespace Sys2Proof.Machine

/-! ### The scan -/

theorem split_scan {code start : Nat} {folio : Option Nat} (hc : code < 256) (h : start < 12288)
    (hf : ∀ v, folio = some v → v < 8192) :
    split [.fixed 1, .fixed 2, .optional 2] (byte code ++ bytes 2 start ++ optional (bytes 2) folio) =
      some [.here code, .here start, Chunk.ofOption folio] := by
  rw [List.append_assoc, byte, split_fixed 1 code _ _ (by omega), split_fixed 2 start _ _ (by omega),
    split_optional_last 2 folio [] (fun v hv => by have := hf v hv; omega)]
  rfl

/-- A scan that names no folio reads its criterion and its start slot (R73). -/
theorem readScan_plain {c : Criterion} {code start : Nat} (hlt : code < 9) (hcode : criterionOf code = some c)
    (h : start < 12288) : readScan (byte code ++ bytes 2 start ++ [0x00]) = .good (c, start) := by
  have hs : split [.fixed 1, .fixed 2, .optional 2] (byte code ++ bytes 2 start ++ [0x00]) =
      some [.here code, .here start, .absent] := split_scan (folio := none) (by omega) h (by simp)
  have hslot : slotGood start = true := by simp [slotGood, Config.recordSlots, h]
  have hne : code ≠ 9 := by omega
  rw [readScan, hs]
  simp [hcode, hslot]

/-- A scan of the members of a folio reads the folio after the start slot (R73). -/
theorem readScan_members {start folio : Nat} (h : start < 12288) (hf : folio < 8192) :
    readScan (byte 9 ++ bytes 2 start ++ (0x01 :: bytes 2 folio)) = .good (.memberOf folio, start) := by
  have hs : split [.fixed 1, .fixed 2, .optional 2] (byte 9 ++ bytes 2 start ++ (0x01 :: bytes 2 folio)) =
      some [.here 9, .here start, .here folio] := split_scan (folio := some folio) (by omega) h (by simpa using hf)
  rw [readScan, hs]
  simp [slotGood, Config.recordSlots, h, folioGood, Config.folioSlots, hf]

theorem readScan_body {c : Criterion} {start : Nat} (h : start < 12288)
    (hf : ∀ folio, c = .memberOf folio → folio < 8192) : readScan (scanBody c start) = .good (c, start) := by
  cases c with
  | memberOf folio => exact readScan_members h (hf folio rfl)
  | _ => exact readScan_plain (by decide) rfl h

theorem scanBody_length_le (c : Criterion) (start : Nat) : (scanBody c start).length ≤ 1024 := by
  cases c <;> simp [scanBody]

theorem folioIs_iff {s : State} {r : Record} {st : FolioState} :
    folioIs s r st = true ↔ ∃ f, s.folio r.folio = some f ∧ f.state = st := by
  simp [folioIs]

/-! ### The clock -/

theorem timeBytes_unset {s : State} (h : s.clock.status = .unset) :
    timeBytes s =
      bytes 4 s.clock.runTime ++ [0x00, 0x00] ++ optional (signedBytes 8) s.clock.offset ++ [0x00] ++
        optional (signedBytes 4) s.clock.lastRolled ++ byte s.settings.rolloverHour ++ [0x00] := by
  simp [timeBytes, State.shipTime, h, timeStatusCode, byte, bytes, optional]

theorem timeBytes_set {s : State} {o l : Int} (h : s.clock.status = .set) (ho : s.clock.offset = some o)
    (hl : s.clock.lastRolled = some l) :
    timeBytes s =
      bytes 4 s.clock.runTime ++ [0x01] ++ (0x01 :: signedBytes 8 (s.clock.runTime + o)) ++
        (0x01 :: signedBytes 8 o) ++
        (0x01 :: signedBytes 4 (shipDay s.settings.rolloverHour (s.clock.runTime + o))) ++
        (0x01 :: signedBytes 4 l) ++ byte s.settings.rolloverHour ++
        (0x01 :: bytes 4 (secondsToBoundary s.settings.rolloverHour (s.clock.runTime + o))) := by
  have hship : s.shipTime = some (s.clock.runTime + o) := by simp only [State.shipTime, h, ho]
  simp [timeBytes, hship, h, ho, hl, timeStatusCode, byte, bytes, optional]

/-! ### The requests -/

/-- READ_SERVICE reads the watchdog that its own take has restarted (R185, R189; log 24). -/
theorem readService_answers {s : State} (h : s.idle) :
    exec (.readService []) s =
      .next
        (s.replied 0x75 [] .done
          (byte (serviceCode s.management.service) ++ optional (bytes 4) s.management.standaloneSince ++
            byte s.settings.watchdogCode ++
            optional (bytes 4)
              (if s.management.service = .serving then
                (watchdogTimeout s.settings.watchdogCode).map (s.clock.runTime + ·)
              else none) ++
            byte (timeStatusCode s.clock.status) ++ bytes 4 s.clock.runTime)) := by
  have htaken := manage_taken (d := decideReadService []) h (body := []) (by simp)
    (.inr (show (0x75 : Byte) ∈ standaloneKinds by decide))
  exact congrArg _ (htaken.trans (placeReply_replied (u := s) 0x75 [] .done _ rfl rfl rfl))

/-- Settles O57: each read finds its operands in its body, and its reply is a function of the tables it reads. -/
theorem scanAndTableReadsChangeNothing : Obligations.ScanAndTableReadsChangeNothing := by
  refine ⟨fun s hidle => ⟨?_, fun c start hstart hfolio => ?_, fun hunset => ?_, fun o l hset ho hl => ?_, ?_,
      fun slot hslot => ⟨fun f hf => ?_, fun hfree => ?_⟩, fun first count h1 h2 h3 => ?_, ?_,
      fun n h0 hn => ⟨fun entry t ht => ?_, fun hnone => ?_⟩, fun start folio hstart hfolio => ?_,
      fun p first hfirst => ?_, ?_, readService_answers hidle⟩, fun s slot r => ?_⟩
  · exact manage_read hidle (by decide) (by simp) readNothing_body fun m => rfl
  · exact manage_read hidle (by decide) (scanBody_length_le c start) (readScan_body hstart hfolio) fun m => rfl
  · refine manage_read hidle (by decide) (by simp) readNothing_body fun m => ?_
    rw [← timeBytes_unset hunset]
    rfl
  · refine manage_read hidle (by decide) (by simp) readNothing_body fun m => ?_
    exact congrArg (done · (s.setManagement m)) (timeBytes_set hset ho hl)
  · refine manage_read hidle (by decide) (by simp) readNothing_body fun m => ?_
    simp only [classCountBytes, aboardCells, List.append_assoc]
    rfl
  · refine manage_read hidle (by decide) (by simp) (readFolioSlot_body hslot) fun m => ?_
    simp only [State.setManagement_folio, hf]
  · refine manage_read hidle (by decide) (by simp) (readFolioSlot_body hslot) fun m => ?_
    simp only [State.setManagement_folio, hfree]
    rfl
  · exact manage_read hidle (by decide) (by simp)
      (readRun_body (by omega) h1 h2 (by simpa [Config.venues] using h3) (by omega))
      fun m => by rw [listBytes_run]; rfl
  · exact manage_read hidle (by decide) (by simp) readNothing_body fun m => rfl
  · refine manage_read hidle (by decide) (by simp) (readNumber_body (by omega) (decide_eq_true h0)) fun m => ?_
    simp only [State.setManagement_tab, ht]
    rfl
  · refine manage_effect hidle (.inr (by decide)) (by simp) (fun m => ?_) rfl rfl rfl
    rw [decideReadTab, readNumber_body (by omega) (decide_eq_true h0)]
    simp only [checked, State.setManagement_tab, hnone]
    rfl
  · have hlength := optional_bytes_length_le 2 folio
    exact manage_read hidle (by decide) (by simp; omega) (readTabList_body hstart hfolio) fun m => rfl
  · exact manage_read hidle (by decide) (by simp) (readTerminalRun_body p hfirst)
      fun m => congrArg (done · (s.setManagement m))
        (listBytes_run (fun t => terminalBytes (s.terminal p t)) first (min 16 (64 - first)))
  · exact manage_read hidle (by decide) (by simp) readNothing_body fun m => rfl
  · simp [scanMatches, folioIs_iff, opensTabs_iff]

end Sys2Proof.Machine
end

section
/-! O5, first part: what the laws of the service state, the phase and the ship day read, and the operations that leave
all of it as it was. -/

namespace Sys2Proof.Machine

/-- What the laws of the service state, the phase and the ship day read of the state. -/
structure Regime where
  management : ManagementPort
  watchdogCode : Nat
  rolloverHour : Nat
  phase : Phase
  savedPhase : Option Phase
  clock : TimeBase

/-- The regime of a state. -/
def State.regime (s : State) : Regime where
  management := s.management
  watchdogCode := s.settings.watchdogCode
  rolloverHour := s.settings.rolloverHour
  phase := s.muster.phase
  savedPhase := s.muster.savedPhase
  clock := s.clock

/-- States with the same port, settings, muster unit and time base have one regime. -/
theorem State.regime_congr {s t : State} (hm : t.management = s.management := by simp)
    (hs : t.settings = s.settings := by simp) (hp : t.muster = s.muster := by simp)
    (hc : t.clock = s.clock := by simp) : t.regime = s.regime := by
  simp only [State.regime, hm, hs, hp, hc]

theorem State.regime_eq_iff {s t : State} : t.regime = s.regime ↔
    t.management = s.management ∧ t.settings.watchdogCode = s.settings.watchdogCode ∧
      t.settings.rolloverHour = s.settings.rolloverHour ∧ t.muster.phase = s.muster.phase ∧
      t.muster.savedPhase = s.muster.savedPhase ∧ t.clock = s.clock := by
  simp only [State.regime, Regime.mk.injEq]

/-! ### The shared operations -/

section
variable (s : State)

@[simp] theorem raise_regime (c : Condition) : (raise c s).regime = s.regime := rfl
@[simp] theorem report_regime (t : CapacityTable) : (report t s).regime = s.regime := rfl
@[simp] theorem setWatch_regime (w : List WatchEntry) : (setWatch w s).regime = s.regime := rfl
@[simp] theorem State.setPort_regime (p : Port) (b : PortBlock) : (s.setPort p b).regime = s.regime := rfl

@[simp] theorem revoke_regime (slot n : Nat) (reason : RevocationReason) :
    (revoke slot n reason s).regime = s.regime :=
  State.regime_congr

@[simp] theorem endReservation_regime (slot : Nat) (r : Record) (v : Reservation) :
    (endReservation slot r v s).regime = s.regime :=
  State.regime_congr

@[simp] theorem consumeMessage_regime (slot : Nat) (r : Record) : (consumeMessage slot r s).regime = s.regime :=
  State.regime_congr

@[simp] theorem reconcile_regime (m : ByClass (ByLocation Nat)) : (reconcile m s).regime = s.regime :=
  State.regime_congr

@[simp] theorem enterCutoff_regime : (enterCutoff s).regime = s.regime :=
  State.regime_congr

@[simp] theorem setLastPassage_regime (slot : Nat) (p : Option Passage) : (setLastPassage slot p s).regime = s.regime :=
  State.regime_congr

@[simp] theorem storeReevaluated_regime (slot : Nat) (f : Folio) : (storeReevaluated slot f s).regime = s.regime :=
  State.regime_congr

@[simp] theorem limitDecline_regime (slot : Nat) (f : Folio) : (limitDecline slot f s).regime = s.regime := rfl

@[simp] theorem loseMember_regime (slot : Nat) : (loseMember slot s).regime = s.regime :=
  State.regime_congr

@[simp] theorem gainMember_regime (slot : Nat) : (gainMember slot s).regime = s.regime :=
  State.regime_congr

@[simp] theorem postToRecord_regime (slot : Nat) (g : Figures) : (postToRecord slot g s).regime = s.regime :=
  State.regime_congr

@[simp] theorem releaseTab_regime (entry : Nat) (t : Tab) : (releaseTab entry t s).regime = s.regime :=
  State.regime_congr

@[simp] theorem reportRefusal_regime (p : Port) (term : Nat) (r : Result) (c slot : Option Nat) :
    (reportRefusal p term r c slot s).regime = s.regime :=
  State.regime_congr

@[simp] theorem retire_regime (slot : Nat) (r : Record) : (retire slot r s).regime = s.regime :=
  State.regime_congr (hs := by simp [retire_eq]) (hp := by simp [retire_eq])

/-- A record taken out of the muster's counts moves counts and tallies, not the phase (R94). -/
theorem changeLocation_regime (slot : Nat) (r : Record) (new : Location) :
    (changeLocation slot r new s).regime = s.regime := by
  have hsaved : (changeLocation slot r new s).muster.savedPhase = s.muster.savedPhase := by
    rw [changeLocation_muster]
    unfold State.relocated
    split <;> rfl
  exact State.regime_eq_iff.mpr
    ⟨by simp, by simp, by simp, by rw [changeLocation_muster, relocated_phase], hsaved, by simp⟩

/-! ### The links, the ports and the line -/

@[simp] theorem discardFrame_regime (p : Port) : (discardFrame p s).regime = s.regime := by
  unfold discardFrame
  dsimp only
  split <;> rfl

@[simp] theorem endGap_regime (p : Port) : (endGap p s).regime = s.regime := by
  unfold endGap
  split
  · exact discardFrame_regime _ p
  · rfl

@[simp] theorem arrive_regime (p : Port) (f : Frame) : (arrive p f s).regime = s.regime := by
  unfold arrive
  dsimp only
  split
  · rfl
  · exact reportRefusal_regime _ _ _ _ _ _

@[simp] theorem settle_regime (p : Port) : (settle p s).regime = s.regime := by
  unfold settle
  split
  · dsimp only
    split
    · exact arrive_regime _ p _
    · exact discardFrame_regime _ p
  · rfl

theorem frameByte_regime (p : Port) (bs : List Byte) (b : Byte) (stopGood : Bool) :
    (frameByte p bs b stopGood s).regime = s.regime := by
  unfold frameByte
  split
  · exact discardFrame_regime _ p
  · split
    · exact discardFrame_regime _ p
    · split <;> rfl

theorem receive_regime (p : Port) (b : Byte) (stopGood : Bool) : (receive p b stopGood s).regime = s.regime := by
  have h1 : (endGap p (settle p s)).regime = s.regime := by simp
  unfold receive huntByte
  dsimp only
  split
  · split <;> exact h1
  · exact (frameByte_regime _ _ _ _ _).trans h1

@[simp] theorem expireSilence_regime (p : Port) : (expireSilence p s).regime = s.regime := by
  unfold expireSilence
  split
  · split <;> rfl
  · rfl

@[simp] theorem expireReservation_regime (slot : Nat) : (expireReservation slot s).regime = s.regime := by
  rcases expireReservation_cases slot s with ⟨r, v, -, -, -, h⟩ | ⟨-, h⟩ <;> rw [h]
  simp

@[simp] theorem expireTab_regime (entry : Nat) : (expireTab entry s).regime = s.regime := by
  rcases expireTab_cases entry s with ⟨t, -, -, h⟩ | ⟨-, h⟩ <;> rw [h]
  simp

@[simp] theorem endPulse_regime : (endPulse s).regime = s.regime := by
  unfold endPulse
  split
  · split <;> rfl
  · rfl

@[simp] theorem endHoldoff_regime : (endHoldoff s).regime = s.regime := by
  unfold endHoldoff
  split
  · split <;> rfl
  · rfl

theorem setLineMode_regime (m : LineMode) : (setLineMode m s).regime = s.regime := by
  unfold setLineMode
  split <;> rfl

theorem loadZones_regime (n : Nat) (zones : List Nat) : (loadZones n zones s).regime = s.regime := by
  rw [loadZones_eq]
  rfl

end

end Sys2Proof.Machine
end

section
/-! O5, second part: the turns, each one thing that moves the service state, the phase or the time base; and what each
command does: turns alone, a transaction of the host that takes nothing, or a request taken, decided and answered. -/

namespace Sys2Proof.Machine

/-- One thing that the part does to its regime. -/
inductive Turn : State → State → Prop
  | quiet {s t : State} (h : t.regime = s.regime) : Turn s t
  | restartWatchdog (s : State) : Turn s (restartWatchdog s)
  | serve (s : State) : Turn s (restartWatchdog (setService .serving none s))
  | expireWatchdog (s : State) : Turn s (expireWatchdog s)
  | watchdogCode (n : Nat) (s : State) :
      Turn s (Machine.restartWatchdog { s with settings := { s.settings with watchdogCode := n } })
  | setPhase (p : Phase) (s : State) (h : s.muster.phase ≠ .muster) (hp : p ≠ .muster) : Turn s (setPhase p s)
  | enterMuster (s : State) (h : s.muster.phase ≠ .muster) : Turn s (enterMuster s)
  | leaveMuster (s : State) (h : s.muster.phase = .muster) : Turn s (leaveMusterPhase (restoredPhase s) s)
  | firstTime (t : Int) (s : State) :
      Turn s
        { setShipTime t s with clock :=
            { (setShipTime t s).clock with lastRolled := some (shipDay s.settings.rolloverHour t) } }
  | laterTime (t : Int) (s : State) (h : s.clock.status = .set) : Turn s (rolloverTest (setShipTime t s)).1
  | rolloverHour (n : Nat) (s : State) :
      Turn s (rolloverTest { s with settings := { s.settings with rolloverHour := n } }).1
  | rollover (s : State) : Turn s (rolloverTest s).1
  | advance (s : State) : Turn s (advance s)
  | powerOn (s : State) : Turn s { State.reset with pending := s.pending }

/-- A chain of turns, one after the other. -/
def Turns : State → State → Prop := Relation.ReflTransGen Turn

namespace Turns

variable {s t u : State}

theorem refl : Turns s s := Relation.ReflTransGen.refl

theorem one (h : Turn s t) : Turns s t := Relation.ReflTransGen.single h

theorem quiet (h : t.regime = s.regime) : Turns s t := one (.quiet h)

theorem trans (h : Turns s t) (k : Turns t u) : Turns s u := Relation.ReflTransGen.trans h k

theorem thenQuiet (h : Turns s t) (k : u.regime = t.regime) : Turns s u := h.trans (quiet k)

/-- What every turn keeps, a chain of turns keeps. -/
theorem keeps {P : State → Prop} (hd : ∀ s t, Turn s t → P s → P t) (h : Turns s t) (hs : P s) : P t := by
  induction h with
  | refl => exact hs
  | tail _ hk ih => exact hd _ _ hk ih

theorem forEach {α : Type} {f : α → State → State} (h : ∀ a s, (f a s).regime = s.regime) (l : List α) (s : State) :
    (Machine.forEach f l s).regime = s.regime :=
  forEach_keeps (P := fun t => t.regime = s.regime) (fun a t ht => (h a t).trans ht) l rfl

end Turns

/-! ### Requests of the host that leave the regime -/

section
variable {α : Type} {s : State}

theorem checked_regime {p : Parsed α} {run : α → Decision} (h : ∀ a, (run a).state.regime = s.regime) :
    (checked p s run).state.regime = s.regime := by
  cases p with
  | good a => exact h a
  | badRequest => rfl
  | range => rfl

theorem withRecord_regime {slot : Nat} {run : Record → Decision} (h : ∀ r, (run r).state.regime = s.regime) :
    (withRecord slot s run).state.regime = s.regime := by
  unfold withRecord
  split
  · exact h _
  · rfl

theorem withFolio_regime {slot : Nat} {run : Folio → Decision} (h : ∀ f, (run f).state.regime = s.regime) :
    (withFolio slot s run).state.regime = s.regime := by
  unfold withFolio
  split
  · exact h _
  · rfl

/-- A check that refuses, and what the request does when the check passes. -/
theorem refuseIf_regime {c : Prop} [Decidable c] {code : ReplyCode} {d : Decision} (h : d.state.regime = s.regime) :
    (if c then refuse code s else d).state.regime = s.regime := by
  split
  · rfl
  · exact h

/-- An ordered list of checks that may refuse, and what the request does when all pass. -/
theorem refuseBy_regime {o : Option ReplyCode} {d : Decision} (h : d.state.regime = s.regime) :
    (match o with
      | some c => refuse c s
      | none => d).state.regime = s.regime := by
  cases o with
  | some c => rfl
  | none => exact h

end

section
variable (body : List Byte) (s : State)

theorem decideIssue_regime : (decideIssue body s).state.regime = s.regime :=
  checked_regime fun q => withFolio_regime fun f => refuseIf_regime <| refuseIf_regime <| by
    split
    · rfl
    · rename_i slot _
      have h1 : (gainMember q.folio (s.putRecord slot (issuedRecord q))).regime = s.regime := gainMember_regime _ _
      exact (report_regime _ _).trans ((reconcile_regime _ _).trans h1)

theorem decideReserve_regime : (decideReserve body s).state.regime = s.regime :=
  checked_regime fun _ => withRecord_regime fun _ => refuseBy_regime rfl

theorem confirmInto_regime (slot : Nat) (v : Reservation) : (confirmInto slot v s).regime = s.regime := by
  unfold confirmInto
  split <;> rfl

theorem decideConfirm_regime : (decideConfirm body s).state.regime = s.regime :=
  checked_regime fun q => withRecord_regime fun r => by
    split
    · rfl
    · refine refuseIf_regime ?_
      split
      · exact (confirmInto_regime _ _ _).trans (revoke_regime _ _ _ _)
      · exact confirmInto_regime _ _ _

theorem decideCancel_regime : (decideCancel body s).state.regime = s.regime :=
  checked_regime fun q => withRecord_regime fun r => by
    split
    · rfl
    · exact refuseIf_regime (endReservation_regime _ _ _ _)

theorem decideRevoke_regime : (decideRevoke body s).state.regime = s.regime :=
  checked_regime fun q => by
    split
    · exact revoke_regime _ _ _ _
    · rfl
    · exact refuseIf_regime rfl

theorem decideRemoveRevoked_regime : (decideRemoveRevoked body s).state.regime = s.regime :=
  checked_regime fun n => by
    split <;> rfl

theorem decideSetLocation_regime : (decideSetLocation body s).state.regime = s.regime :=
  checked_regime fun q => withRecord_regime fun r => by
    split
    · rfl
    · exact (setLastPassage_regime _ _ _).trans (changeLocation_regime _ _ _ _)

theorem decideLink_regime : (decideLink body s).state.regime = s.regime :=
  checked_regime fun _ => withRecord_regime fun _ => withFolio_regime fun _ =>
    refuseBy_regime ((loseMember_regime _ _).trans (gainMember_regime _ _))

theorem decideOpenFolio_regime : (decideOpenFolio body s).state.regime = s.regime :=
  checked_regime fun q => by
    split <;> rfl

theorem decideCloseFolio_regime : (decideCloseFolio body s).state.regime = s.regime :=
  checked_regime fun slot => withFolio_regime fun f => refuseBy_regime <| by
    split <;> rfl

theorem decideResumeFolio_regime : (decideResumeFolio body s).state.regime = s.regime :=
  checked_regime fun slot => withFolio_regime fun f => refuseIf_regime <| by
    split
    · rfl
    · split <;> rfl

theorem hostPosting_regime (slot : Nat) (f posted : Folio) (b : Bool) :
    (hostPosting slot f posted b s).state.regime = s.regime :=
  refuseIf_regime (refuseIf_regime (storeReevaluated_regime _ _ _))

theorem decideHostVoidTab_regime : (decideHostVoidTab body s).state.regime = s.regime :=
  checked_regime fun n => by
    split
    · rfl
    · exact releaseTab_regime _ _ _

theorem decideReadNotices_regime : (decideReadNotices body s).state.regime = s.regime :=
  checked_regime fun _ => by cases s.settings.ackMode <;> rfl

end

/-! ### Requests of the host that move the regime -/

section
variable {α : Type} {s : State}

theorem checked_turns {p : Parsed α} {run : α → Decision} (h : ∀ a, Turns s (run a).state) :
    Turns s (checked p s run).state := by
  cases p with
  | good a => exact h a
  | badRequest => exact .refl
  | range => exact .refl

theorem refuseIf_turns {c : Prop} [Decidable c] {code : ReplyCode} {d : Decision} (h : ¬ c → Turns s d.state) :
    Turns s (if c then refuse code s else d).state := by
  split
  · exact .refl
  · exact h ‹_›

end

section
variable (body : List Byte) (s : State)

theorem decideSetTime_turns : Turns s (decideSetTime body s).state :=
  checked_turns fun t => by
    cases hs : s.clock.status with
    | unset => exact .one (.firstTime t s)
    | set => exact .one (.laterTime t s hs)

theorem phaseChange_turns (p : Phase) : Turns s (phaseChange p s).state := by
  have hmove (q : Phase) (h : s.muster.phase ≠ .muster) (hq : q ≠ .muster) : Turns s (setPhase q s) :=
    .one (.setPhase q s h hq)
  unfold phaseChange
  split
  case h_1 h | h_2 h | h_4 h => exact hmove _ (by simp [h]) (by simp)
  case h_3 h => exact (hmove .cutoff (by simp [h]) (by simp)).thenQuiet (enterCutoff_regime _)
  case h_5 h =>
    have hraised : (if allAboard s.passage.counts then s else raise .ashoreAtSailing s).regime = s.regime := by
      split <;> rfl
    exact (Turns.quiet hraised).trans (.one (.setPhase .atSea _ (by split <;> simp [h]) (by simp)))
  case h_6 h | h_7 h | h_8 h => exact .one (.enterMuster s (by simp [h]))
  case h_9 => exact .refl

theorem decideSetPhase_turns : Turns s (decideSetPhase body s).state := checked_turns fun p => phaseChange_turns s p

theorem decideEndMuster_turns : Turns s (decideEndMuster body s).state :=
  checked_turns fun _ => refuseIf_turns fun h => .one (.leaveMuster s (not_not.mp h))

theorem decideOpenService_turns : Turns s (decideOpenService body s).state :=
  checked_turns fun _ => refuseIf_turns fun _ => refuseIf_turns fun _ => .one (.serve s)

theorem decideResumeService_turns : Turns s (decideResumeService body s).state :=
  checked_turns fun _ => refuseIf_turns fun _ => .one (.serve s)

theorem resetService_turns : Turns s (resetService s) := by
  unfold resetService
  split
  · exact .one (.serve s)
  · exact .one (.restartWatchdog s)

theorem decideServiceReset_turns : Turns s (decideServiceReset body s).state :=
  checked_turns fun _ => (Turns.quiet rfl : Turns s (reportAll (emptyReporting s))).trans (resetService_turns _)

theorem applySetting_turns (v : SettingValue) : Turns s (applySetting v s) := by
  cases v with
  | rolloverHour n => exact .one (.rolloverHour n s)
  | watchdogCode n => exact .one (.watchdogCode n s)
  | lineMode m => exact .quiet (setLineMode_regime s m)
  | reservationCode | blankingCode | policy | standaloneLimit | enables | refusalMask | threshold | latchMode | ackMode
      | pulseCode | holdoff => exact .quiet rfl

theorem decideSetSetting_turns : Turns s (decideSetSetting body s).state :=
  checked_turns fun v => applySetting_turns s v

end

/-! ### Requests of the terminals -/

theorem takeRequest_regime {d : TerminalEntry → Frame → State → Verdict} (p : Port) (kind : Byte)
    (permitted : TerminalEntry → Bool) (size : Nat) (h : ∀ e f s, (d e f s).state.regime = s.regime) (s : State) :
    (takeRequest p kind permitted size d s).regime = s.regime := by
  have hanswer (f : Frame) (v : Verdict) : (answer p f v).regime = v.state.regime := reportRefusal_regime _ _ _ _ _ _
  unfold takeRequest
  split
  · split
    · dsimp only
      split
      · exact hanswer _ _
      · exact (hanswer _ _).trans (h _ _ _)
    · rfl
  · rfl

theorem takeUnknownKind_regime (p : Port) (s : State) : (takeUnknownKind p s).regime = s.regime := by
  unfold takeUnknownKind
  split
  · split
    · rfl
    · exact reportRefusal_regime _ _ _ _ _ _
  · rfl

section
variable (p : Port) (e : TerminalEntry) (f : Frame) (s : State)

theorem notFound_regime (n : Nat) (l : Lookup) (body : List Byte) :
    (notFound p f n l body s).state.regime = s.regime := by
  unfold notFound
  split <;> rfl

theorem decideUnlock_regime : (decideUnlock p e f s).state.regime = s.regime := by
  unfold decideUnlock
  dsimp only
  split
  · exact consumeMessage_regime _ _ _
  · exact notFound_regime _ _ _ _ _ _

theorem decideLockMode_regime : (decideLockMode e f s).state.regime = s.regime := by
  unfold decideLockMode
  split
  · rfl
  · dsimp only
    split <;> rfl

theorem declineLimit_regime (folio : Nat) (g : Folio) (x : Int) (n : Nat) :
    (declineLimit folio g x n s).regime = s.regime := by
  unfold declineLimit
  split <;> rfl

theorem postCharge_regime (slot folio : Nat) (g : Folio) (q : Figures) (graced : Bool) :
    (postCharge slot folio g q graced s).regime = s.regime := by
  unfold postCharge
  dsimp only
  split <;> simp

theorem computeCharge_regime (slot : Nat) (r : Record) (amount : Nat) (flags : ItemFlags) (v : Venue) (g : Folio)
    (message : Option Nat) : (computeCharge slot r amount flags v g message s).2.2.regime = s.regime := by
  unfold computeCharge
  dsimp only
  split
  · rfl
  · dsimp only
    split
    · exact declineLimit_regime _ _ _ _ _
    · exact postCharge_regime _ _ _ _ _ _
    · exact postCharge_regime _ _ _ _ _ _

theorem decideCharge_regime : (decideCharge p e f s).state.regime = s.regime := by
  unfold decideCharge
  dsimp only
  split
  · rfl
  · rfl
  · split
    · split
      · exact consumeMessage_regime _ _ _
      · exact (computeCharge_regime _ _ _ _ _ _ _ _).trans (consumeMessage_regime _ _ _)
    · exact notFound_regime _ _ _ _ _ _

theorem openTab_regime (entry : Nat) (t : Tab) (g : Folio) : (openTab entry t g s).regime = s.regime :=
  (report_regime _ _).trans (storeReevaluated_regime _ _ _)

theorem decideOpenTab_regime : (decideOpenTab p e f s).state.regime = s.regime := by
  unfold decideOpenTab
  dsimp only
  split
  · rfl
  · split
    · split
      · rfl
      · split
        · rfl
        · rfl
        · exact openTab_regime _ _ _ _
    · exact notFound_regime _ _ _ _ _ _

theorem postClose_regime (entry : Nat) (t : Tab) (g : Folio) (q : Figures) (graced : Bool) :
    (postClose entry t g q graced s).regime = s.regime :=
  (report_regime _ _).trans ((postToRecord_regime _ _ _).trans (storeReevaluated_regime _ _ _))

theorem computeClose_regime (entry : Nat) (t : Tab) (amount : Nat) (flags : ItemFlags) (v : Venue) (r : Record)
    (g : Folio) : (computeClose entry t amount flags v r g s).state.regime = s.regime := by
  unfold computeClose
  dsimp only
  split
  · rfl
  · split
    · rfl
    · split
      · exact declineLimit_regime _ _ _ _ _
      · exact postClose_regime _ _ _ _ _ _

theorem decideCloseTab_regime : (decideCloseTab e f s).state.regime = s.regime := by
  unfold decideCloseTab
  dsimp only
  split
  · rfl
  · split
    · rfl
    · split
      · rfl
      · split
        · rfl
        · split
          · exact releaseTab_regime _ _ _
          · split
            · exact computeClose_regime _ _ _ _ _ _ _ _
            · rfl

theorem decideVoidTab_regime : (decideVoidTab e f s).state.regime = s.regime := by
  unfold decideVoidTab
  split
  · rfl
  · split
    · rfl
    · exact releaseTab_regime _ _ _

theorem passEffect_regime (slot : Nat) (r : Record) (gangway : Nat) (d : Direction) (o : Result × Option Location) :
    (passEffect slot r gangway d o s).regime = s.regime := by
  unfold passEffect
  dsimp only
  split
  · exact (setLastPassage_regime _ _ _).trans (changeLocation_regime _ _ _ _)
  · split
    · exact setLastPassage_regime _ _ _
    · rfl

theorem decideGangway_regime : (decideGangway p e f s).state.regime = s.regime := by
  unfold decideGangway
  dsimp only
  split
  · rfl
  · split
    · rfl
    · split
      · exact (passEffect_regime _ _ _ _ _ _).trans (consumeMessage_regime _ _ _)
      · exact notFound_regime _ _ _ _ _ _

/-- An accepted tap moves counts and tallies, not the phase (R92). -/
theorem checkIn_regime (slot : Nat) (r : Record) (station : Nat) : (checkIn slot r station s).regime = s.regime := rfl

theorem decideMusterTap_regime : (decideMusterTap p e f s).state.regime = s.regime := by
  unfold decideMusterTap
  dsimp only
  split
  · rfl
  · split
    · split
      · exact (checkIn_regime _ _ _ _).trans (consumeMessage_regime _ _ _)
      · exact consumeMessage_regime _ _ _
    · exact notFound_regime _ _ _ _ _ _

theorem decideLookup_regime : (decideLookup p e f s).state.regime = s.regime := by
  unfold decideLookup
  dsimp only
  split
  · rfl
  · exact notFound_regime _ _ _ _ _ _

end

/-! ### Every command -/

/-- What a command does: turns alone; a transaction of the host that takes no request; or a request of the host, taken,
decided by turns and answered (R178 to R182). -/
inductive Course (s t : State) : Prop
  | turns (h : Turns s t)
  | untaken (hs : t.management.service = s.management.service)
      (he : t.management.standaloneSince = s.management.standaloneSince)
      (hw : t.management.watchdog = s.management.watchdog) (hr : t.management.request = s.management.request)
      (hp : t.management.state = s.management.state ∨ t.management.state = .idle)
      (ht : t = s.setManagement t.management)
  | answered (kind : Byte) (body : List Byte) (d : Decision) (h : Turns (takeWrite kind body s) d.state)
      (ht : t = placeReply kind d)

namespace Course

variable {s t : State}

theorem quiet (h : t.regime = s.regime) : Course s t := .turns (.quiet h)

theorem discardWrite (n : Nat) (s : State) : Course s (discardWrite n s) :=
  .untaken rfl rfl rfl rfl (.inl rfl) rfl

theorem manage {d : State → Decision} (kind : Byte) (body : List Byte) (h : ∀ s, Turns s (d s).state) (s : State) :
    Course s (manage kind body d s) := by
  unfold Machine.manage
  split
  · refine .answered kind body _ ?_ rfl
    split
    · exact .refl
    · exact h _
  · exact .discardWrite _ s

/-- A request of the host that leaves the regime as the take made it. -/
theorem manageQuiet {d : State → Decision} (kind : Byte) (body : List Byte)
    (h : ∀ s, (d s).state.regime = s.regime) (s : State) : Course s (Machine.manage kind body d s) :=
  .manage kind body (fun u => .quiet (h u)) s

theorem takeRequest {d : TerminalEntry → Frame → State → Verdict} (p : Port) (kind : Byte)
    (permitted : TerminalEntry → Bool) (size : Nat) (h : ∀ e f s, (d e f s).state.regime = s.regime) (s : State) :
    Course s (takeRequest p kind permitted size d s) :=
  .quiet (takeRequest_regime p kind permitted size h s)

theorem takeUnlisted (kind : Byte) (body : List Byte) (s : State) : Course s (takeUnlisted kind body s) := by
  unfold Machine.takeUnlisted
  split
  · exact .quiet rfl
  · split
    · exact .answered kind body _ .refl rfl
    · exact .discardWrite _ s

theorem writeDiscarded {bytes : List Byte} (h : exec (.writeDiscarded bytes) s = .next t) : Course s t := by
  cases h
  cases bytes with
  | nil => exact .quiet rfl
  | cons first rest =>
    dsimp only
    split
    · unfold discardUntaken
      split
      · exact .quiet rfl
      · exact .discardWrite _ s
    · exact .quiet rfl
    · exact .quiet rfl

theorem readReply {bytes : List Byte} (h : exec (.readReply bytes) s = .next t) : Course s t := by
  cases h
  cases bytes with
  | nil => exact .quiet rfl
  | cons first rest =>
    dsimp only
    split
    · refine .untaken rfl rfl rfl rfl ?_ rfl
      dsimp only [Machine.readReply]
      split
      · exact .inr rfl
      · exact .inl rfl
    · exact .untaken rfl rfl rfl rfl (.inl rfl) rfl
    · exact .quiet rfl

end Course

theorem sweep_turns (s : State) : Turns s (sweep s) := by
  have hlinks : (sweepLinks s).regime = s.regime := Turns.forEach (fun p s => by simp) _ s
  have hexpiries : (sweepExpiries (sweepLinks s)).regime = s.regime := by
    unfold sweepExpiries
    rw [Turns.forEach fun p s => expireSilence_regime s p, Turns.forEach fun e s => expireTab_regime s e,
      Turns.forEach fun slot s => expireReservation_regime s slot, hlinks]
  exact ((Turns.quiet hexpiries).trans (.one (.expireWatchdog _))).thenQuiet
    ((endHoldoff_regime _).trans (endPulse_regime _))

theorem exec_course {i : Instr} {s t : State} (h : exec i s = .next t) : Course s t := by
  cases i
  case writeDiscarded => exact .writeDiscarded h
  case readReply => exact .readReply h
  case runTimeAdvance =>
    obtain rfl : advance (sweep s) = t := Host.Outcome.next.inj h
    exact .turns ((sweep_turns s).trans (.one (.advance _)))
  all_goals cases h
  case unknownKind kind body => exact .takeUnlisted kind body s
  case serverWatchdogExpiry => exact .turns (.one (.expireWatchdog s))
  case rollover => exact .turns (.one (.rollover s))
  case powerOnReset => exact .turns (.one (.powerOn s))
  case frameArrival p => exact .quiet (settle_regime s p)
  case interByteGap p => exact .quiet (endGap_regime s p)
  case receivedByte p b g => exact .quiet (receive_regime s p b g)
  case portSilenceExpiry p => exact .quiet (expireSilence_regime s p)
  case unknownRequestKind p => exact .quiet (takeUnknownKind_regime p s)
  case pulseEnd => exact .quiet (endPulse_regime s)
  case holdoffEnd => exact .quiet (endHoldoff_regime s)
  case reservationExpiry slot => exact .quiet (expireReservation_regime s slot)
  case tabExpiry entry => exact .quiet (expireTab_regime s entry)
  case ping => exact .takeRequest _ _ _ _ (fun _ _ _ => rfl) s
  case unlock p => exact .takeRequest _ _ _ _ (decideUnlock_regime p) s
  case lockMode => exact .takeRequest _ _ _ _ decideLockMode_regime s
  case charge p => exact .takeRequest _ _ _ _ (decideCharge_regime p) s
  case openTab p => exact .takeRequest _ _ _ _ (decideOpenTab_regime p) s
  case closeTab => exact .takeRequest _ _ _ _ decideCloseTab_regime s
  case voidTab => exact .takeRequest _ _ _ _ decideVoidTab_regime s
  case gangway p => exact .takeRequest _ _ _ _ (decideGangway_regime p) s
  case musterTap p => exact .takeRequest _ _ _ _ (decideMusterTap_regime p) s
  case lookup p => exact .takeRequest _ _ _ _ (decideLookup_regime p) s
  case setTime body => exact .manage _ _ (decideSetTime_turns body) s
  case setPhase body => exact .manage _ _ (decideSetPhase_turns body) s
  case endMuster body => exact .manage _ _ (decideEndMuster_turns body) s
  case openService body => exact .manage _ _ (decideOpenService_turns body) s
  case resumeService body => exact .manage _ _ (decideResumeService_turns body) s
  case serviceReset body => exact .manage _ _ (decideServiceReset_turns body) s
  case setSetting body => exact .manage _ _ (decideSetSetting_turns body) s
  case issueRecord body => exact .manageQuiet _ _ (decideIssue_regime body) s
  case reserveCredential body => exact .manageQuiet _ _ (decideReserve_regime body) s
  case confirmCredential body => exact .manageQuiet _ _ (decideConfirm_regime body) s
  case cancelCredential body => exact .manageQuiet _ _ (decideCancel_regime body) s
  case revokeCredential body => exact .manageQuiet _ _ (decideRevoke_regime body) s
  case removeRevoked body => exact .manageQuiet _ _ (decideRemoveRevoked_regime body) s
  case retireRecord =>
    exact .manageQuiet _ _
      (fun _ => checked_regime fun _ => withRecord_regime fun _ => refuseBy_regime (retire_regime _ _ _)) s
  case setCabinZones => exact .manageQuiet _ _ (fun _ => checked_regime fun q => loadZones_regime _ q.1 q.2) s
  case assignCabin =>
    exact .manageQuiet _ _ (fun _ => checked_regime fun _ => withRecord_regime fun _ => refuseBy_regime rfl) s
  case setLocation body => exact .manageQuiet _ _ (decideSetLocation_regime body) s
  case linkRecord body => exact .manageQuiet _ _ (decideLink_regime body) s
  case openFolio body => exact .manageQuiet _ _ (decideOpenFolio_regime body) s
  case closeFolio body => exact .manageQuiet _ _ (decideCloseFolio_regime body) s
  case resumeFolio body => exact .manageQuiet _ _ (decideResumeFolio_regime body) s
  case setLimits =>
    exact .manageQuiet _ _
      (fun _ => checked_regime fun _ => withFolio_regime fun _ => refuseIf_regime (storeReevaluated_regime _ _ _)) s
  case postPayment | postRefund | postAdjustment =>
    exact .manageQuiet _ _ (fun _ => checked_regime fun _ => withFolio_regime fun _ => hostPosting_regime _ _ _ _ _) s
  case hostVoidTab body => exact .manageQuiet _ _ (decideHostVoidTab_regime body) s
  case readNotices body => exact .manageQuiet _ _ (decideReadNotices_regime body) s
  case readRecord => exact .manageQuiet _ _ (fun s => checked_regime fun slot => by cases s.record slot <;> rfl) s
  case readFolio => exact .manageQuiet _ _ (fun s => checked_regime fun slot => by cases s.folio slot <;> rfl) s
  case readTab => exact .manageQuiet _ _ (fun s => checked_regime fun n => by cases s.tab n <;> rfl) s
  case setMessage | setWatch | setFinal | setTier | setCap | setStation =>
    exact .manageQuiet _ _ (fun _ => checked_regime fun _ => withRecord_regime fun _ => rfl) s
  case holdRecord | releaseRecord | vacateCabin | setRole =>
    exact .manageQuiet _ _ (fun _ => checked_regime fun _ => withRecord_regime fun _ => refuseIf_regime rfl) s
  case reopenFolio | suspendFolio | addPrepaid =>
    exact .manageQuiet _ _ (fun _ => checked_regime fun _ => withFolio_regime fun _ => refuseIf_regime rfl) s
  case setTerminalEnabled => exact .manageQuiet _ _ (fun _ => checked_regime fun _ => refuseIf_regime rfl) s
  case findCredential | readRevoked | readCabin | readRole | readCounts | scan | readTime | readMuster | readVenue
      | readTier | listTabs | readTerminals | readSettings | readService | setCabinMode | loadRole | setClassPolicy
      | readWatch | loadVenue | setVenueOpen | loadTier | loadTerminal | portReset | readPort | ackNotices =>
    exact .manageQuiet _ _ (fun _ => checked_regime fun _ => rfl) s

end Sys2Proof.Machine
end

section
/-! O5, third part: every turn keeps the laws of the service state, the phase and the ship day. -/

namespace Sys2Proof.Machine

/-! ### The rollover test and the advance -/

section
variable (s : State)

@[simp] theorem rolloverTest_management : (rolloverTest s).1.management = s.management := by
  rcases rolloverTest_cases s with ⟨t, l, -, -, -, h⟩ | ⟨-, h⟩ <;> rw [h]
  rfl

@[simp] theorem rolloverTest_settings : (rolloverTest s).1.settings = s.settings := by
  rcases rolloverTest_cases s with ⟨t, l, -, -, -, h⟩ | ⟨-, h⟩ <;> rw [h]
  rfl

@[simp] theorem rolloverTest_muster : (rolloverTest s).1.muster = s.muster := by
  rcases rolloverTest_cases s with ⟨t, l, -, -, -, h⟩ | ⟨-, h⟩ <;> rw [h]
  rfl

@[simp] theorem advance_management : (advance s).management = s.management := by
  rcases advance_cases s with ⟨-, h⟩ | ⟨-, h⟩ <;> simp [h]

@[simp] theorem advance_settings : (advance s).settings = s.settings := by
  rcases advance_cases s with ⟨-, h⟩ | ⟨-, h⟩ <;> simp [h]

@[simp] theorem advance_muster : (advance s).muster = s.muster := by
  rcases advance_cases s with ⟨-, h⟩ | ⟨-, h⟩ <;> simp [h]

@[simp] theorem expireWatchdog_settings : (expireWatchdog s).settings = s.settings := by
  unfold expireWatchdog
  split
  · split <;> rfl
  · rfl

@[simp] theorem expireWatchdog_muster : (expireWatchdog s).muster = s.muster := by
  unfold expireWatchdog
  split
  · split <;> rfl
  · rfl

@[simp] theorem expireWatchdog_clock : (expireWatchdog s).clock = s.clock := by
  unfold expireWatchdog
  split
  · split <;> rfl
  · rfl

end

/-! ### The service state and the watchdog -/

/-- The service state, its entry time and the watchdog go together (R183, R185). -/
def State.watchKept (s : State) : Prop :=
  (s.management.standaloneSince ≠ none ↔ s.management.service = .standalone) ∧
    (s.management.watchdog ≠ none ↔ s.management.service = .serving ∧ s.settings.watchdogCode ≠ 0)

/-- No request is left half done (log 20). -/
def State.portFree (s : State) : Prop := s.management.state ≠ .working ∧ s.management.request = none

theorem State.serviceGood_iff (s : State) : s.serviceGood ↔ s.watchKept ∧ s.portFree := and_assoc.symm

theorem watchdogTimeout_ne_none_iff (code : Nat) : watchdogTimeout code ≠ none ↔ code ≠ 0 := by
  unfold watchdogTimeout
  split <;> simp_all

/-- A restart makes the watchdog agree with whatever service state and code stand (R185). -/
theorem restartWatchdog_watchKept {s : State}
    (h : s.management.standaloneSince ≠ none ↔ s.management.service = .standalone) : (restartWatchdog s).watchKept := by
  refine ⟨h, ?_⟩
  have hcode := watchdogTimeout_ne_none_iff s.settings.watchdogCode
  by_cases hs : s.management.service = .serving <;> simp [restartWatchdog, hs, hcode]

theorem expireWatchdog_watchKept {s : State} (h : s.watchKept) : (expireWatchdog s).watchKept := by
  unfold expireWatchdog
  split
  · split
    · simp [State.watchKept]
    · exact h
  · exact h

theorem State.watchKept_congr {s t : State} (hs : t.management.service = s.management.service)
    (he : t.management.standaloneSince = s.management.standaloneSince)
    (hw : t.management.watchdog = s.management.watchdog) (hc : t.settings.watchdogCode = s.settings.watchdogCode)
    (h : s.watchKept) : t.watchKept := by
  unfold State.watchKept at h ⊢
  rwa [hs, he, hw, hc]

/-- A change of nothing at the management port and in the settings. -/
theorem State.watchKept_of_eq {s t : State} (hm : t.management = s.management := by simp)
    (hs : t.settings = s.settings := by simp) (h : s.watchKept) : t.watchKept :=
  State.watchKept_congr (by rw [hm]) (by rw [hm]) (by rw [hm]) (by rw [hs]) h

theorem Turn.keeps_watchKept {s t : State} (h : Turn s t) (hs : s.watchKept) : t.watchKept := by
  cases h with
  | quiet h =>
    obtain ⟨hm, hc, -⟩ := State.regime_eq_iff.mp h
    exact State.watchKept_congr (by rw [hm]) (by rw [hm]) (by rw [hm]) hc hs
  | restartWatchdog | watchdogCode => exact restartWatchdog_watchKept hs.1
  | serve => exact restartWatchdog_watchKept (by simp [setService])
  | expireWatchdog => exact expireWatchdog_watchKept hs
  | setPhase | enterMuster | firstTime => exact hs
  | leaveMuster =>
    obtain ⟨hm, hset, -⟩ := leaveMusterPhase_frame (restoredPhase s) s
    exact State.watchKept_of_eq hm hset hs
  | laterTime t => exact State.watchKept_of_eq (s := setShipTime t s) (h := hs)
  | rolloverHour n =>
    exact State.watchKept_of_eq (s := { s with settings := { s.settings with rolloverHour := n } }) (h := hs)
  | rollover | advance => exact State.watchKept_of_eq (h := hs)
  | powerOn => simp [State.watchKept, State.reset, ManagementPort.powerOn, Settings.powerOn]

theorem expireWatchdog_portFree {s : State} (h : s.portFree) : (expireWatchdog s).portFree := by
  unfold expireWatchdog
  split
  · split <;> exact h
  · exact h

theorem Turn.keeps_portFree {s t : State} (h : Turn s t) (hs : s.portFree) : t.portFree := by
  have hsame {u v : State} (hm : v.management = u.management) (hu : u.portFree) : v.portFree := by
    unfold State.portFree
    rwa [hm]
  cases h with
  | quiet h => exact hsame (State.regime_eq_iff.mp h).1 hs
  | restartWatchdog | watchdogCode | serve | setPhase | enterMuster | firstTime => exact hs
  | expireWatchdog => exact expireWatchdog_portFree hs
  | leaveMuster =>
    obtain ⟨hm, -⟩ := leaveMusterPhase_frame (restoredPhase s) s
    exact hsame hm hs
  | laterTime | rolloverHour | rollover => exact hsame (rolloverTest_management _) hs
  | advance => exact hsame (advance_management _) hs
  | powerOn => simp [State.portFree, State.reset, ManagementPort.powerOn]

/-- The take and the answer of a request keep the watchdog with the service state, and leave no request half done. -/
theorem Course.keeps_serviceGood {s t : State} (h : Course s t) (hs : s.serviceGood) : t.serviceGood := by
  obtain ⟨hkept, hfree⟩ := s.serviceGood_iff.mp hs
  rw [State.serviceGood_iff]
  cases h with
  | turns h => exact ⟨h.keeps (fun _ _ => Turn.keeps_watchKept) hkept, h.keeps (fun _ _ => Turn.keeps_portFree) hfree⟩
  | untaken hservice he hw hr hp ht =>
    refine ⟨State.watchKept_congr hservice he hw (by rw [ht]; rfl) hkept, ?_, by rw [hr]; exact hfree.2⟩
    rcases hp with hp | hp <;> rw [hp]
    · exact hfree.1
    · simp
  | answered kind body d h ht =>
    subst ht
    have htaken : (takeWrite kind body s).watchKept := restartWatchdog_watchKept hkept.1
    have hdecided : d.state.watchKept := h.keeps (fun _ _ => Turn.keeps_watchKept) htaken
    exact ⟨hdecided, by simp [State.portFree, placeReply]⟩

/-! ### The phase -/

theorem State.phaseGood_congr {s t : State} (hp : t.muster.phase = s.muster.phase)
    (hq : t.muster.savedPhase = s.muster.savedPhase) (h : s.phaseGood) : t.phaseGood := by
  unfold State.phaseGood at h ⊢
  rwa [hp, hq]

theorem State.phaseGood_of_muster {s t : State} (h : t.muster = s.muster) (hs : s.phaseGood) : t.phaseGood :=
  State.phaseGood_congr (by rw [h]) (by rw [h]) hs

theorem leaveMusterPhase_muster (p : Phase) (s : State) :
    (leaveMusterPhase p s).muster = { s.muster with phase := p, savedPhase := none } := by
  unfold leaveMusterPhase
  dsimp only
  split <;> simp

/-- In MUSTER the saved phase is present, and it is not MUSTER: the phase that END_MUSTER restores is another (R87). -/
theorem restoredPhase_ne_muster {s : State} (hs : s.phaseGood) : restoredPhase s ≠ .muster := by
  have hne := hs.2
  unfold restoredPhase
  cases hp : s.muster.savedPhase with
  | none => simp
  | some p => simpa [hp] using hne

theorem Turn.keeps_phaseGood {s t : State} (h : Turn s t) (hs : s.phaseGood) : t.phaseGood := by
  cases h with
  | quiet h =>
    obtain ⟨-, -, -, hp, hq, -⟩ := State.regime_eq_iff.mp h
    exact State.phaseGood_congr hp hq hs
  | setPhase p _ h hp =>
    obtain ⟨hiff, hne⟩ := hs
    exact ⟨by simpa [Machine.setPhase, hp, h] using hiff, hne⟩
  | enterMuster _ h => exact ⟨by simp [Machine.enterMuster], by simpa [Machine.enterMuster] using h⟩
  | leaveMuster => simp [State.phaseGood, leaveMusterPhase_muster, restoredPhase_ne_muster hs]
  | restartWatchdog | serve | watchdogCode | firstTime => exact hs
  | expireWatchdog => exact State.phaseGood_of_muster (expireWatchdog_muster s) hs
  | laterTime | rolloverHour | rollover => exact State.phaseGood_of_muster (rolloverTest_muster _) hs
  | advance => exact State.phaseGood_of_muster (advance_muster s) hs
  | powerOn => simp [State.phaseGood, State.reset]

/-- A law of the muster unit or the time base does not read the port: what every turn keeps, every command keeps. -/
theorem Course.keeps {P : State → Prop} {s t : State} (h : Course s t) (hd : ∀ s t, Turn s t → P s → P t)
    (hm : ∀ s m, P s → P (s.setManagement m)) (hs : P s) : P t := by
  cases h with
  | turns h => exact h.keeps hd hs
  | untaken _ _ _ _ _ ht => exact ht ▸ hm s _ hs
  | answered kind body d h ht =>
    subst ht
    exact hm d.state _ (h.keeps hd (hm s _ hs))

/-! ### The ship day -/

/-- The offset and the last-rolled day are present exactly while the time status is SET (R76, R78). -/
def TimeBase.dated (c : TimeBase) : Prop :=
  (c.offset ≠ none ↔ c.status = .set) ∧ (c.lastRolled ≠ none ↔ c.status = .set)

theorem State.dayGood.dated {s : State} (h : s.dayGood) : s.clock.dated := by
  obtain ⟨ho, hl, -⟩ := h
  exact ⟨ho, hl⟩

/-- Whatever has moved the ship day, the rollover test leaves it not beyond the last-rolled day (R79). -/
theorem rolloverTest_dayGood {s : State} (h : s.clock.dated) : (rolloverTest s).1.dayGood := by
  obtain ⟨ho, hl⟩ := h
  rcases rolloverTest_cases s with ⟨t, l, ht, hr, -, he⟩ | ⟨hnot, he⟩ <;> rw [he]
  · refine ⟨ho, ?_, ?_⟩
    · simpa [rollOver, hr] using hl
    · rintro t' _ ht' ⟨⟩
      have : t' = t := Option.some.inj (ht'.symm.trans ht)
      exact le_of_eq (by rw [this]; rfl)
  · exact ⟨ho, hl, hnot⟩

theorem State.dayGood_congr {s t : State} (hc : t.clock = s.clock)
    (hh : t.settings.rolloverHour = s.settings.rolloverHour) (h : s.dayGood) : t.dayGood := by
  unfold State.dayGood State.shipTime at h ⊢
  rwa [hc, hh]

/-- A millisecond more, within the second, moves no ship time (R75, R76). -/
theorem advance_dayGood {s : State} (h : s.dayGood) : (advance s).dayGood := by
  rcases advance_cases s with ⟨hlt, he⟩ | ⟨-, he⟩ <;> rw [he]
  · have htick : (tick s).clock = { s.clock with millis := s.clock.millis + 1 } := by simp [TimeBase.tick, hlt]
    unfold State.dayGood State.shipTime at h ⊢
    rw [htick]
    exact h
  · refine rolloverTest_dayGood ?_
    have hd := h.dated
    simp only [tick_clock, TimeBase.tick]
    split <;> exact hd

theorem firstTime_dayGood (t : Int) (s : State) :
    State.dayGood
      { setShipTime t s with clock :=
          { (setShipTime t s).clock with lastRolled := some (shipDay s.settings.rolloverHour t) } } := by
  refine ⟨by simp [setShipTime], by simp [setShipTime], ?_⟩
  rintro _ _ ⟨⟩ ⟨⟩
  simp [setShipTime]

theorem Turn.keeps_dayGood {s t : State} (h : Turn s t) (hs : s.dayGood) : t.dayGood := by
  cases h with
  | quiet h =>
    obtain ⟨-, -, hh, -, -, hc⟩ := State.regime_eq_iff.mp h
    exact State.dayGood_congr hc hh hs
  | restartWatchdog | serve | watchdogCode | setPhase | enterMuster => exact State.dayGood_congr rfl rfl hs
  | expireWatchdog => exact State.dayGood_congr (by simp) (by simp) hs
  | leaveMuster =>
    obtain ⟨-, hset, hc⟩ := leaveMusterPhase_frame (restoredPhase s) s
    exact State.dayGood_congr hc (by rw [hset]) hs
  | firstTime t => exact firstTime_dayGood t s
  | laterTime t _ h =>
    have hl := hs.dated.2
    exact rolloverTest_dayGood ⟨by simp [setShipTime], by simpa [setShipTime, h] using hl⟩
  | rolloverHour | rollover => exact rolloverTest_dayGood hs.dated
  | advance => exact advance_dayGood hs
  | powerOn => exact ⟨by simp [State.reset], by simp [State.reset], by simp [State.reset]⟩

/-! ### Every step -/

theorem step_course {s t : State} (h : step s = .next t) : ∃ u : State, u.regime = s.regime ∧ Course u t := by
  unfold step at h
  split at h
  · cases h
    exact ⟨s, rfl, .quiet rfl⟩
  · rename_i c rest _
    exact ⟨{ s with pending := rest }, rfl, exec_course h⟩

/-- Settles O5: every step has its course, each turn of a course keeps the three laws, and so do the take and the answer
of a request. -/
theorem stepKeepsServiceAndPhase : Obligations.StepKeepsServiceAndPhase := by
  refine ⟨fun s t hs hp h => ?_, fun s t hs h => ?_⟩ <;> obtain ⟨u, hu, hc⟩ := step_course h
  · obtain ⟨hm, hw, -, hphase, hsaved, -⟩ := State.regime_eq_iff.mp hu
    exact ⟨hc.keeps_serviceGood (by unfold State.serviceGood; rwa [hm, hw]),
      hc.keeps (fun _ _ => Turn.keeps_phaseGood) (fun _ _ h => h) (State.phaseGood_congr hphase hsaved hp)⟩
  · exact hc.keeps (fun _ _ => Turn.keeps_dayGood) (fun _ _ h => h) (Turn.keeps_dayGood (.quiet hu) hs)

end Sys2Proof.Machine
end

section
/-! The advance of time, ship time and the rollover: O60 and O33. -/

namespace Sys2Proof.Machine

/-! ### With nothing due, the sweep takes nothing -/

theorem forEach_eq_self {α : Type} {f : α → State → State} {s : State} (h : ∀ a, f a s = s) (l : List α) :
    forEach f l s = s :=
  forEach_keeps (P := fun t => t = s) (fun a t ht => by rw [ht, h a]) l rfl

section
variable {s : State}

theorem settle_eq_self {p : Port} (h : (s.port p).whole = none) : settle p s = s := by
  simp only [settle, h]

theorem endGap_eq_self {p : Port} (h : s.gapPassed p = false) : endGap p s = s := by
  simp [endGap, h]

theorem expireReservation_eq_self {slot : Nat}
    (h : ∀ r v, s.record slot = some r → r.reservation = some v → s.clock.runTime < v.expiry) :
    expireReservation slot s = s := by
  rcases expireReservation_cases slot s with ⟨r, v, hr, hv, hdue, -⟩ | ⟨-, he⟩
  · have := h r v hr hv
    omega
  · exact he

theorem expireTab_eq_self {entry : Nat} (h : ∀ t, s.tabs.entries.find entry = some t → s.clock.runTime < t.expiry) :
    expireTab entry s = s := by
  rcases expireTab_cases entry s with ⟨t, ht, hdue, -⟩ | ⟨-, he⟩
  · have := h t ht
    omega
  · exact he

theorem expireSilence_eq_self {p : Port}
    (h : ∀ e, (s.port p).silence = .active → (s.port p).silenceExpiry = some e → s.clock.runTime < e) :
    expireSilence p s = s := by
  unfold expireSilence
  split
  · rename_i e ha he
    exact if_neg (by have := h e ha he; omega)
  · rfl

theorem expireWatchdog_eq_self (h : ∀ e, s.management.watchdog = some e → s.clock.runTime < e) :
    expireWatchdog s = s := by
  unfold expireWatchdog
  split
  · rename_i e _ he
    exact if_neg (by have := h e he; omega)
  · rfl

theorem endPulse_eq_self (h : ∀ e, s.notice.line = .pulse e → s.moment < e) : endPulse s = s := by
  unfold endPulse
  split
  · rename_i e he
    exact if_neg (by have := h e he; omega)
  · rfl

theorem endHoldoff_eq_self (h : ∀ e, s.notice.line = .holdoff e → s.moment < e) : endHoldoff s = s := by
  unfold endHoldoff
  split
  · rename_i e he
    exact if_neg (by have := h e he; omega)
  · rfl

theorem sweep_eq_self (h : nothingDue s) : sweep s = s := by
  obtain ⟨hports, hreservations, htabs, hdog, hline⟩ := h
  have hlinks : sweepLinks s = s := forEach_eq_self (fun p => by
    obtain ⟨hwhole, hgap, -⟩ := hports p
    rw [settle_eq_self hwhole, endGap_eq_self hgap]) _
  have hsilences (p : Port) := (hports p).2.2
  have hexpiries : sweepExpiries s = s := by
    rw [sweepExpiries, forEach_eq_self fun slot => expireReservation_eq_self (hreservations slot),
      forEach_eq_self fun entry => expireTab_eq_self (htabs entry),
      forEach_eq_self fun p => expireSilence_eq_self (hsilences p)]
  rw [sweep, hlinks, hexpiries, expireWatchdog_eq_self hdog, endPulse_eq_self fun e he => hline e (.inl he),
    endHoldoff_eq_self fun e he => hline e (.inr he)]

/-! ### The rollover test by the ship day -/

/-- With the time SET, the test compares the ship day with the last-rolled day (R78, R79). -/
theorem rolloverTest_set {o l : Int} (hs : s.clock.status = .set) (ho : s.clock.offset = some o)
    (hl : s.clock.lastRolled = some l) :
    rolloverTest s =
      if l < shipDay s.settings.rolloverHour (s.clock.runTime + o) then
        (rollOver (shipDay s.settings.rolloverHour (s.clock.runTime + o)) s, true)
      else (s, false) := by
  have hship : s.shipTime = some (s.clock.runTime + o) := by simp [State.shipTime, hs, ho]
  simp [rolloverTest, State.dayDue, hship, hl]

theorem rolloverTest_unset (hs : s.clock.status = .unset) : rolloverTest s = (s, false) := by
  have hship : s.shipTime = none := by simp [State.shipTime, hs]
  simp only [rolloverTest, hship]

/-- The test where the ship day that it reaches is spelled out. -/
theorem rolloverTest_due {o l day : Int} (hs : s.clock.status = .set) (ho : s.clock.offset = some o)
    (hl : s.clock.lastRolled = some l) (hday : shipDay s.settings.rolloverHour (s.clock.runTime + o) = day) :
    (l < day → rolloverTest s = (rollOver day s, true)) ∧ (day ≤ l → rolloverTest s = (s, false)) := by
  rw [rolloverTest_set hs ho hl, hday]
  exact ⟨fun h => if_pos h, fun h => if_neg (by omega)⟩

/-! ### RUN_TIME_ADVANCE -/

theorem tick_of_lt (h : s.clock.millis < 999) :
    tick s = { s with clock := { s.clock with millis := s.clock.millis + 1 } } := by
  simp [tick, TimeBase.tick, h]

theorem tick_of_eq (h : s.clock.millis = 999) (hr : s.clock.runTime < 4294967295) :
    tick s = { s with clock := { s.clock with millis := 0, runTime := s.clock.runTime + 1 } } := by
  simp [tick, TimeBase.tick, h, nextSecond, hr]

theorem exec_runTimeAdvance (h : nothingDue s) : exec .runTimeAdvance s = .next (advance s) :=
  congrArg (fun t => Host.Outcome.next (advance t)) (sweep_eq_self h)

end

/-- Settles O60: the sweep takes nothing, and the advance is the tick alone or the tick with the rollover test. -/
theorem timeAdvancesByOneMillisecond : Obligations.TimeAdvancesByOneMillisecond := by
  intro s h
  rw [exec_runTimeAdvance h]
  refine ⟨fun hlt => ?_, fun hm hr => ?_⟩
  · rw [advance, if_pos hlt, tick_of_lt hlt]
  · intro on
    have hadvance : advance s = (rolloverTest on).1 := by rw [advance, if_neg (by omega), tick_of_eq hm hr]
    rw [hadvance]
    refine ⟨fun hs => by rw [rolloverTest_unset (s := on) hs], fun o l hs ho hl => ?_⟩
    have hday : shipDay on.settings.rolloverHour (on.clock.runTime + o) =
        (s.clock.runTime + 1 + o - s.settings.rolloverHour * 3600) / 86400 := by simp [shipDay, on]
    obtain ⟨hdue, hnot⟩ := rolloverTest_due (s := on) hs ho hl hday
    exact ⟨fun hlt => by rw [hdue hlt], fun hle => by rw [hnot hle]⟩

/-! ### SET_TIME and ROLLOVER -/

@[simp] theorem rolloverTest_runTime (s : State) : (rolloverTest s).1.clock.runTime = s.clock.runTime := by
  rcases rolloverTest_cases s with ⟨t, l, -, -, -, h⟩ | ⟨-, h⟩ <;> rw [h]
  rfl

@[simp] theorem rolloverTest_setManagement (s : State) (m : ManagementPort) :
    rolloverTest (s.setManagement m) = ((rolloverTest s).1.setManagement m, (rolloverTest s).2) := by
  rw [rolloverTest, rolloverTest, State.setManagement_shipTime]
  cases s.shipTime with
  | none => rfl
  | some t =>
    have hdue (day : Int) : (s.setManagement m).dayDue day = s.dayDue day := rfl
    simp only [State.setManagement_settings, hdue]
    split <;> rfl

section
variable {s : State} {t : Nat}

/-- The first SET_TIME makes the day of its ship time the last-rolled day, and rolls nothing (R77, R78). -/
theorem exec_setTime_first (h : s.ready) (ht : t < 2 ^ 32) (hs : s.clock.status = .unset) :
    let day := shipDay s.settings.rolloverHour t
    exec (.setTime (bytes 8 t)) s =
      .next
        (State.replied
          { s with clock := { (setShipTime t s).clock with lastRolled := some day } } 0x38 (bytes 8 t) .done
          (0x00 :: signedBytes 4 day ++ signedBytes 4 day ++ [0x00])) := by
  intro day
  have hship : s.shipTime = none := by simp [State.shipTime, hs]
  refine manage_effect h.1 (.inl h.2) (by simp) (fun m => ?_) rfl rfl rfl
  simp only [decideSetTime, readShipTime_body ht, checked, State.setManagement_clock, hs, State.setManagement_shipTime,
    hship]
  rfl

/-- A later SET_TIME makes the rollover test on the day of its ship time (R77, R79). -/
theorem exec_setTime_later {o : Int} (h : s.ready) (ht : t < 2 ^ 32) (hs : s.clock.status = .set)
    (ho : s.clock.offset = some o) :
    let day := shipDay s.settings.rolloverHour t
    let tested := rolloverTest (setShipTime t s)
    exec (.setTime (bytes 8 t)) s =
      .next
        (tested.1.replied 0x38 (bytes 8 t) .done
          (0x01 :: signedBytes 8 (s.clock.runTime + o) ++ signedBytes 4 day ++
            signedBytes 4 (tested.1.clock.lastRolled.getD day) ++ flagByte tested.2)) := by
  intro day tested
  have hship : s.shipTime = some (s.clock.runTime + o) := by simp [State.shipTime, hs, ho]
  refine manage_effect h.1 (.inl h.2) (by simp) (fun m => ?_) (by simp [tested, setShipTime])
    (by simp [tested, setShipTime]) (by simp [tested, setShipTime])
  have htold : setShipTime t (s.setManagement m) = (setShipTime t s).setManagement m := rfl
  simp only [decideSetTime, readShipTime_body ht, checked, State.setManagement_clock, hs, State.setManagement_shipTime,
    hship, htold, rolloverTest_setManagement]
  rfl

end

theorem exec_rollover (s : State) : exec .rollover s = .next (rolloverTest s).1 := rfl

/-! ### What a rollover moves -/

theorem rollOver_clock (day : Int) (s : State) : (rollOver day s).clock = { s.clock with lastRolled := some day } := rfl

theorem rollOver_notice_pending (day : Int) (s : State) :
    (rollOver day s).notice.pending = s.notice.pending ||| Condition.dayRollover.bit :=
  raise_notice_pending .dayRollover { s with clock := { s.clock with lastRolled := some day } }

theorem rollOver_folio (day : Int) (s : State) (k : Nat) :
    (rollOver day s).folio k = (s.folio k).map Folio.nextDay :=
  Table.find_mapValues Folio.nextDay s.folios k

theorem rollOver_record (day : Int) (s : State) (k : Nat) :
    (rollOver day s).record k = (s.record k).map Record.nextDay :=
  Table.find_mapValues Record.nextDay s.store.records k

/-- Settles O33: SET_TIME by the time status, ROLLOVER by the ship day, and a rollover unit by unit. -/
theorem setTimeAndRollover : Obligations.SetTimeAndRollover := by
  refine ⟨fun s => ⟨fun t h ht => ?_, fun o l hs ho hl => ?_, fun hs => ?_⟩, fun s day => ?_⟩
  · refine ⟨fun hs => exec_setTime_first h ht hs, fun o l hs ho hl => ?_⟩
    have hday : shipDay (setShipTime t s).settings.rolloverHour
        ((setShipTime t s).clock.runTime + ((t : Int) - s.clock.runTime)) = shipDay s.settings.rolloverHour t :=
      congrArg (shipDay s.settings.rolloverHour) (by simp [setShipTime])
    obtain ⟨hdue, hnot⟩ := rolloverTest_due (s := setShipTime t s) rfl rfl hl hday
    rw [exec_setTime_later h ht hs ho]
    refine ⟨fun hlt => ?_, fun hle => ?_⟩
    · rw [hdue hlt]
      simp only [rollOver_clock, Option.getD_some]
      rfl
    · rw [hnot hle]
      simp only [setShipTime, hl]
      rfl
  · have hday : shipDay s.settings.rolloverHour (s.clock.runTime + o) =
        (s.clock.runTime + o - s.settings.rolloverHour * 3600) / 86400 := rfl
    obtain ⟨hdue, hnot⟩ := rolloverTest_due hs ho hl hday
    exact ⟨fun hlt => by rw [exec_rollover, hdue hlt], fun hle => by rw [exec_rollover, hnot hle]⟩
  · rw [exec_rollover, rolloverTest_unset hs]
  · exact ⟨rollOver_clock day s, rollOver_notice_pending day s, rollOver_folio day s, rollOver_record day s, rfl, rfl, rfl, rfl, rfl, rfl,
      rfl, rfl, rfl, rfl, rfl, rfl⟩

end Sys2Proof.Machine
end

section
/-! MUSTER_TAP: O35. -/

namespace Sys2Proof.Machine

theorem isMuster_of {e : TerminalEntry} {station : Nat} (hk : e.kind = some .muster)
    (hb : e.binding = some (.station station)) : isMuster e = true := by
  simp [isMuster, hk, hb]

/-! ### The checks of a tap -/

section
variable {r : Record} {station : Nat}

theorem tapAccepted_iff : tapAccepted r = true ↔ r.location = .aboard ∧ r.musterFlag = false := by
  simp [tapAccepted]

theorem tapResult_accepted (hl : r.location = .aboard) (hf : r.musterFlag = false) :
    tapResult r station = if r.station = station then .ok else .okElsewhere := by
  simp [tapResult, tapLocation, hl, hf]

theorem tapResult_repeated (hl : r.location = .aboard) (hf : r.musterFlag = true) :
    tapResult r station = .repeated := by
  simp [tapResult, tapLocation, hl, hf]

theorem tapResult_elsewhere {x : Result}
    (h : (r.location = .ashore ∧ x = .denyAshore) ∨ (r.location = .notEmbarked ∧ x = .denyNotEmbarked) ∨
      (r.location = .disembarked ∧ x = .denyDeparted)) : tapResult r station = x := by
  rcases h with ⟨hl, rfl⟩ | ⟨hl, rfl⟩ | ⟨hl, rfl⟩ <;> simp only [tapResult, tapLocation, hl]

end

/-! ### The judgement of a tap -/

section
variable {s : State} {p : Port} {e : TerminalEntry} {f : Frame} {n slot station : Nat} {r : Record}

theorem decideMusterTap_phase (hn : f.field 0 6 = n) (hp : s.muster.phase ≠ .muster) :
    decideMusterTap p e f s = alone .denyPhase n none s := by
  simp only [decideMusterTap, hn, if_pos hp]

theorem decideMusterTap_missed (hn : f.field 0 6 = n) (hp : s.muster.phase = .muster)
    (h : ∀ slot r, lookup s n ≠ .found slot r) : decideMusterTap p e f s = notFound p f n (lookup s n) [] s := by
  unfold decideMusterTap
  cases hl : lookup s n with
  | found slot r => exact absurd hl (h slot r)
  | pending | revoked | unknown => simp only [hn, hp, hl, ne_eq, not_true_eq_false, if_false]

/-- A found record that passes the fifth and the sixth check is checked in (R91, R92). -/
theorem decideMusterTap_accepted (hn : f.field 0 6 = n) (hp : s.muster.phase = .muster)
    (hl : lookup s n = .found slot r) (ha : tapAccepted r = true) :
    decideMusterTap p e f s =
      { result := tapResult r e.boundTo
        body := tapBody (r.checkedIn e.boundTo) r.guestMessage
        credential := some n
        slot := some slot
        state := checkIn slot r.shown e.boundTo (consumeMessage slot r s) } := by
  simp only [decideMusterTap, hn, hp, hl, ha, ne_eq, not_true_eq_false, if_false, if_true]

/-- A found record that does not pass them is answered with its fields as they stand (R91, R93). -/
theorem decideMusterTap_stopped (hn : f.field 0 6 = n) (hp : s.muster.phase = .muster)
    (hl : lookup s n = .found slot r) (ha : ¬ tapAccepted r = true) :
    decideMusterTap p e f s =
      { result := tapResult r e.boundTo
        body := tapBody r r.guestMessage
        credential := some n
        slot := some slot
        state := consumeMessage slot r s } := by
  simp only [decideMusterTap, hn, hp, hl, ha, ne_eq, not_true_eq_false, if_false, Bool.false_eq_true]

/-! ### The take of a tap -/

theorem checkIn_setPorts (s : State) (b : Vector PortBlock 6) :
    checkIn slot r station (s.setPorts b) = (checkIn slot r station s).setPorts b := rfl

/-- The check-in after the showing of a message writes the record as shown, and moves the counts of its class and of the
station by one (R24, R92). -/
theorem checkIn_shown (slot : Nat) (r : Record) (station : Nat) (s : State) :
    checkIn slot r.shown station (consumeMessage slot r s) =
      { (consumeMessage slot r s).putRecord slot { r.shown with musterFlag := true, musteredAt := some station } with
        muster :=
          { s.muster with
            mustered := s.muster.mustered.set r.cls (s.muster.mustered.get r.cls + 1)
            tallies := s.muster.tallies.putValue 0 station (s.tally station + 1) } } := by
  rw [checkIn, consumeMessage_muster, r.shown_sameCounts.cls]
  rfl

theorem musterTap_accepted (h : s.takes p e f) (he : e.kind = some .muster)
    (hb : e.binding = some (.station station)) (hk : f.kind = 0x31) (hbody : f.body = bytes 6 n)
    (hp : s.muster.phase = .muster) (hfinds : s.finds n slot r) (hl : r.location = .aboard)
    (hf : r.musterFlag = false) :
    exec (.musterTap p) s =
      .next ((checkIn slot r.shown station (consumeMessage slot r s)).answered p f
        (if r.station = station then .ok else .okElsewhere) (tapBody (r.checkedIn station) r.guestMessage)) := by
  obtain ⟨-, hlt, -⟩ := id hfinds
  have hn : f.field 0 6 = n := unlock_field hbody hlt
  have hs : e.boundTo = station := TerminalEntry.boundTo_of hb
  have hok : (tapResult r station).isRefusal = false := by
    rw [tapResult_accepted hl hf]
    split <;> rfl
  have htake := takeRequest_decided (d := decideMusterTap p)
    ⟨tapResult r station, tapBody (r.checkedIn station) r.guestMessage, some n, some slot,
      checkIn slot r.shown station (consumeMessage slot r s)⟩
    h hk (isMuster_of he hb) (size := 6) (by simp [hbody])
    (fun b => by
      rw [decideMusterTap_accepted (s := s.setPorts b) hn hp (lookup_of_finds hfinds) (tapAccepted_iff.mpr ⟨hl, hf⟩), hs,
        consumeMessage_setPorts, checkIn_setPorts])
    (consumeMessage_ports s slot r)
  rw [reportRefusal_ok hok, tapResult_accepted hl hf] at htake
  exact htake

theorem musterTap_stopped {x : Result} (h : s.takes p e f) (he : e.kind = some .muster)
    (hb : e.binding = some (.station station)) (hk : f.kind = 0x31) (hbody : f.body = bytes 6 n)
    (hp : s.muster.phase = .muster) (hfinds : s.finds n slot r) (ha : ¬ (r.location = .aboard ∧ r.musterFlag = false))
    (hx : tapResult r station = x) :
    exec (.musterTap p) s =
      .next ((reportRefusal p f.term x (some n) (some slot) (consumeMessage slot r s)).answered p f x
        (tapBody r r.guestMessage)) := by
  obtain ⟨-, hlt, -⟩ := id hfinds
  have hn : f.field 0 6 = n := unlock_field hbody hlt
  have hs : tapResult r e.boundTo = x := by
    rw [TerminalEntry.boundTo_of hb]
    exact hx
  refine takeRequest_decided ⟨x, tapBody r r.guestMessage, some n, some slot, consumeMessage slot r s⟩ h hk
    (isMuster_of he hb) (by simp [hbody]) (fun b => ?_) (consumeMessage_ports s slot r)
  rw [decideMusterTap_stopped (s := s.setPorts b) hn hp (lookup_of_finds hfinds) (tapAccepted_iff.not.mpr ha), hs,
    consumeMessage_setPorts]

end

/-- Settles O35: the phase, the lookup, and the record found by its location and its muster flag. -/
theorem musterTapChecksIn : Obligations.MusterTapChecksIn := by
  intro s p e f n station htakes he hb hk hbody hn
  have hfield : f.field 0 6 = n := unlock_field hbody hn
  have hsize : f.body.length = 6 := by simp [hbody]
  refine ⟨fun hp => ?_, fun x t hp hm => ?_, fun slot r hfinds => ⟨fun hp hl hf => ?_, fun hp hl hf => ?_,
    fun x hp hx => ?_⟩⟩
  · exact takeRequest_decided (alone .denyPhase n none s) htakes hk (isMuster_of he hb) hsize
      (fun b => decideMusterTap_phase (s := s.setPorts b) hfield hp) rfl
  · exact takeRequest_missed htakes hk (isMuster_of he hb) hsize hm
      fun b => decideMusterTap_missed (s := s.setPorts b) hfield hp
  · rw [← checkIn_shown]
    exact musterTap_accepted htakes he hb hk hbody hp hfinds hl hf
  · have h := musterTap_stopped htakes he hb hk hbody hp hfinds (by simp [hf]) (tapResult_repeated hl hf)
    rwa [reportRefusal_ok rfl] at h
  · have hoff : r.location ≠ .aboard := by
      rintro hl
      simp [hl] at hx
    exact musterTap_stopped htakes he hb hk hbody hp hfinds (fun h => hoff h.1) (tapResult_elsewhere hx)

end Sys2Proof.Machine
end

section
/-! The tables behind O9: what a write at a free key and the end of an entry do to a list of entries, the holds and the
number of the open tabs secured on a folio, and the first tab number that is free (R109, R141, R142). -/

namespace Sys2Proof.Table

variable {α : Type}

/-- A write at a key that is not listed adds one entry. -/
theorem put_perm {t : Table α} {k : Nat} (v : α) (h : find t k = none) : (put t k v).Perm ((k, v) :: t) := by
  induction t with
  | nil => exact .refl _
  | cons e t ih =>
    obtain ⟨j, w⟩ := e
    rw [find_cons] at h
    split at h
    · cases h
    · rename_i hjk
      simp only [put]
      split
      · exact .refl _
      · rw [if_neg (Ne.symm hjk)]
        exact ((ih h).cons _).trans (.swap _ _ _)

/-- The end of an entry takes that entry out. -/
theorem perm_drop {t : Table α} {k : Nat} {v : α} (h : find t k = some v) : t.Perm ((k, v) :: drop t k) := by
  induction t with
  | nil => cases h
  | cons e t ih =>
    obtain ⟨j, w⟩ := e
    rw [find_cons] at h
    simp only [drop]
    split at h
    · rename_i hjk
      obtain rfl := Option.some.inj h
      rw [if_pos hjk, hjk]
    · rename_i hjk
      rw [if_neg hjk]
      exact ((ih h).cons _).trans (.swap _ _ _)

theorem drop_sublist (t : Table α) (k : Nat) : (drop t k).Sublist t := by
  induction t with
  | nil => exact .refl _
  | cons e t ih =>
    obtain ⟨j, w⟩ := e
    simp only [drop]
    split
    · exact List.sublist_cons_self _ _
    · exact ih.cons_cons _

/-- A table in canonical form has no more entries than there are keys. -/
theorem length_le_of_keys {t : Table α} {a n : Nat} (hw : wf t = true) (hk : ∀ e ∈ t, a ≤ e.1 ∧ e.1 < n) :
    t.length ≤ n - a := by
  induction t generalizing a with
  | nil => simp
  | cons e t ih =>
    obtain ⟨j, w⟩ := e
    obtain ⟨haj, hjn⟩ := hk _ List.mem_cons_self
    have habove := wf_above hw
    have := ih (a := j + 1) (wf_tail hw) fun d hd => ⟨habove d hd, (hk d (List.mem_cons_of_mem _ hd)).2⟩
    simp only [List.length_cons]
    simp only at haj hjn
    omega

end Sys2Proof.Table

namespace Sys2Proof.Machine

/-! ### The tabs secured on a folio -/

/-- The sum of the holds of the tabs of a list secured on a folio. -/
def holdsOf (entries : Table Tab) (folio : Nat) : Nat :=
  ((entries.filter fun e => decide (e.2.folio = folio)).map fun e => e.2.hold).sum

/-- The number of the tabs of a list secured on a folio. -/
def tabsOf (entries : Table Tab) (folio : Nat) : Nat := Table.count (fun t => decide (t.folio = folio)) entries

theorem State.heldOn_eq (s : State) (folio : Nat) : s.heldOn folio = holdsOf s.tabs.entries folio := rfl

theorem State.tabsOn_eq (s : State) (folio : Nat) : s.tabsOn folio = tabsOf s.tabs.entries folio := rfl

theorem holdsOf_perm {l m : Table Tab} (h : l.Perm m) (folio : Nat) : holdsOf l folio = holdsOf m folio :=
  ((h.filter _).map _).sum_eq

theorem tabsOf_perm {l m : Table Tab} (h : l.Perm m) (folio : Nat) : tabsOf l folio = tabsOf m folio :=
  h.countP_eq _

theorem holdsOf_cons (i : Nat) (t : Tab) (l : Table Tab) (folio : Nat) :
    holdsOf ((i, t) :: l) folio = holdsOf l folio + if t.folio = folio then t.hold else 0 := by
  by_cases h : t.folio = folio <;> simp [holdsOf, h, Nat.add_comm]

theorem tabsOf_cons (i : Nat) (t : Tab) (l : Table Tab) (folio : Nat) :
    tabsOf ((i, t) :: l) folio = tabsOf l folio + if t.folio = folio then 1 else 0 := by
  rw [tabsOf, Table.count_cons, toNat_decide]
  rfl

/-- No hold is above 500,000 cents, so that the holds of a folio are bounded by the number of its tabs (R144). -/
theorem holdsOf_le {l : Table Tab} (h : ∀ e ∈ l, e.2.hold ≤ 500000) (folio : Nat) :
    holdsOf l folio ≤ 500000 * tabsOf l folio := by
  induction l with
  | nil => simp [holdsOf]
  | cons e l ih =>
    obtain ⟨i, t⟩ := e
    have ht : t.hold ≤ 500000 := h _ List.mem_cons_self
    have := ih fun e he => h e (List.mem_cons_of_mem _ he)
    rw [holdsOf_cons, tabsOf_cons]
    split <;> omega

theorem holdsOf_eq_zero {l : Table Tab} {folio : Nat} (h : ∀ e ∈ l, e.2.folio ≠ folio) : holdsOf l folio = 0 := by
  have hnil : (l.filter fun e => decide (e.2.folio = folio)) = [] :=
    List.filter_eq_nil_iff.mpr fun e he => by simpa using h e he
  simp [holdsOf, hnil]

theorem tabsOf_eq_zero {l : Table Tab} {folio : Nat} : tabsOf l folio = 0 ↔ ∀ e ∈ l, e.2.folio ≠ folio := by
  simp [tabsOf, Table.count, List.countP_eq_zero]

/-! ### The next tab number -/

theorem nextTabNumber_eq (n : Nat) : nextTabNumber n = if n < 65535 then n + 1 else 1 := rfl

theorem nextTabNumber_range {n : Nat} (h : 1 ≤ n ∧ n ≤ 65535) : 1 ≤ nextTabNumber n ∧ nextTabNumber n ≤ 65535 := by
  rw [nextTabNumber_eq]
  split <;> omega

/-- The numbers from `n` upward, past 65,535 from 1 again (R142). -/
theorem nextTabNumber_iterate {n : Nat} (h : 1 ≤ n ∧ n ≤ 65535) (i : Nat) :
    nextTabNumber^[i] n = (n - 1 + i) % 65535 + 1 := by
  induction i with
  | zero =>
    simp only [Function.iterate_zero, id_eq]
    omega
  | succ i ih =>
    rw [Function.iterate_succ_apply', ih, nextTabNumber_eq]
    split <;> omega

theorem searchTabNumber_range (s : State) (trials : Nat) {n : Nat} (h : 1 ≤ n ∧ n ≤ 65535) :
    1 ≤ searchTabNumber s trials n ∧ searchTabNumber s trials n ≤ 65535 := by
  induction trials generalizing n with
  | zero => exact h
  | succ trials ih =>
    simp only [searchTabNumber]
    split
    · exact ih (nextTabNumber_range h)
    · exact h

/-- A search that ends at a number held has met held numbers alone. -/
theorem searchTabNumber_held {s : State} {trials n : Nat} (h : s.tabNumberHeld (searchTabNumber s trials n) = true) :
    ∀ i ≤ trials, s.tabNumberHeld (nextTabNumber^[i] n) = true := by
  induction trials generalizing n with
  | zero =>
    intro i hi
    obtain rfl : i = 0 := by omega
    exact h
  | succ trials ih =>
    simp only [searchTabNumber] at h
    split at h
    · rename_i hn
      rintro (_ | i) hi
      · exact hn
      · rw [Function.iterate_succ_apply]
        exact ih h i (by omega)
    · contradiction

theorem State.tabNumberHeld_iff (s : State) (n : Nat) :
    s.tabNumberHeld n = true ↔ n ∈ s.tabs.entries.map fun e => e.2.number := by
  simp [State.tabNumberHeld]

/-- As many trials as there are open tabs find a number that none of them holds: one more number is met than is held
(R142). -/
theorem searchTabNumber_free {s : State} {trials n : Nat} (hl : s.tabs.entries.length ≤ trials) (ht : trials < 65535)
    (hn : 1 ≤ n ∧ n ≤ 65535) : s.tabNumberHeld (searchTabNumber s trials n) = false := by
  by_contra hc
  have hheld := searchTabNumber_held (Bool.not_eq_false _ ▸ hc)
  have hnodup : ((List.range (trials + 1)).map fun i => nextTabNumber^[i] n).Nodup := by
    refine List.Nodup.map_on (fun i hi j hj hij => ?_) List.nodup_range
    rw [List.mem_range] at hi hj
    simp only [nextTabNumber_iterate hn] at hij
    omega
  have hsub : ((List.range (trials + 1)).map fun i => nextTabNumber^[i] n) ⊆ s.tabs.entries.map fun e => e.2.number := by
    intro k hk
    obtain ⟨i, hi, rfl⟩ := List.mem_map.mp hk
    rw [List.mem_range] at hi
    exact (s.tabNumberHeld_iff _).mp (hheld i (by omega))
  have := (hnodup.subperm hsub).length_le
  simp only [List.length_map, List.length_range] at this
  omega

end Sys2Proof.Machine
end

section
/-! The law of the folios: a folio within its bounds is settled by its re-evaluation, and each change of the folios or of
the open tabs keeps the two in agreement (R99, R105, R109). -/

namespace Sys2Proof.Machine

/-! ### One folio -/

/-- A folio within its bounds, whatever its exposure (R98, R99, R109, R112). -/
structure Folio.Bounded (f : Folio) : Prop where
  soft : f.soft ≤ f.hard
  hard : f.hard ≤ 100000000
  grace : f.grace ≤ f.allowance
  allowance : f.allowance ≤ 15
  prepaid : f.prepaid ≤ 10000000
  balance : -1000000000 ≤ f.balance ∧ f.balance ≤ 1000000000
  cause : f.cause ≠ none ↔ f.state = .suspended
  closed : f.state = .closed → f.balance = 0 ∧ f.openTabs = 0
  openTabs : f.openTabs ≤ 4
  holds : f.holds ≤ 2000000
  spend : f.spend ≤ spendTop
  spendPrevious : f.spendPrevious ≤ spendTop

/-- The state of a folio is the one that its exposure calls for (R105). -/
structure Folio.Settled (f : Folio) : Prop where
  within : f.state = .active ∨ f.state = .grace → f.exposure ≤ f.hard
  graced : f.state = .grace → f.soft < f.exposure
  held : f.cause = some .limit ∨ f.cause = some .ceiling → f.resumeMode = .auto → f.soft < f.exposure

theorem Folio.good_iff (f : Folio) : f.good ↔ f.Bounded ∧ f.Settled := by
  constructor
  · rintro ⟨hs, hh, hg, ha, hp, hb, hc, hw, hgr, hl, hcl, ho, hho, hsp, hpr⟩
    exact ⟨⟨hs, hh, hg, ha, hp, hb, hc, hcl, ho, hho, hsp, hpr⟩, hw, hgr, hl⟩
  · rintro ⟨⟨hs, hh, hg, ha, hp, hb, hc, hcl, ho, hho, hsp, hpr⟩, hw, hgr, hl⟩
    exact ⟨hs, hh, hg, ha, hp, hb, hc, hw, hgr, hl, hcl, ho, hho, hsp, hpr⟩

theorem Folio.good.bounded {f : Folio} (h : f.good) : f.Bounded := (f.good_iff.mp h).1

theorem Folio.good.settled {f : Folio} (h : f.good) : f.Settled := (f.good_iff.mp h).2

/-- What re-evaluation can do (R105): the folio stays, enters SUSPENDED above its hard ceiling, or comes back into
ACTIVE within its soft limit. -/
theorem Folio.reevaluated_cases (f : Folio) :
    (f.reevaluated = (f, false) ∧
        (f.state = .active ∨ f.state = .grace → f.exposure ≤ f.hard) ∧ (f.state = .grace → f.soft < f.exposure) ∧
        (f.state = .suspended → f.cause ≠ some .host → f.resumeMode = .auto → f.soft < f.exposure)) ∨
      (f.reevaluated = (f.suspendedFor .ceiling, true) ∧ f.hard < f.exposure) ∨
      (f.reevaluated = (f.reactivated, false) ∧ f.exposure ≤ f.soft) := by
  unfold Folio.reevaluated
  cases hs : f.state with
  | active =>
    by_cases hx : f.exposure > f.hard
    · exact .inr (.inl ⟨by simp [hx], hx⟩)
    · exact .inl ⟨by simp [hx], fun _ => not_lt.mp hx, by simp, by simp⟩
  | grace =>
    by_cases hx : f.exposure ≤ f.soft
    · exact .inr (.inr ⟨by simp [hx], hx⟩)
    · by_cases hy : f.exposure ≤ f.hard
      · exact .inl ⟨by simp [hx, hy], fun _ => hy, fun _ => not_le.mp hx, by simp⟩
      · exact .inr (.inl ⟨by simp [hx, hy], not_le.mp hy⟩)
  | suspended =>
    by_cases hx : f.resumeMode = .auto ∧ f.cause ≠ some .host ∧ f.exposure ≤ f.soft
    · exact .inr (.inr ⟨by simp [hx], hx.2.2⟩)
    · exact .inl ⟨by simp only [if_neg hx], by simp, by simp, fun _ hc hm => not_le.mp fun hle => hx ⟨hm, hc, hle⟩⟩
  | closed => exact .inl ⟨rfl, by simp, by simp, by simp⟩

/-- Re-evaluation settles a folio that is within its bounds (R105). -/
theorem Folio.Bounded.reevaluated_good {f : Folio} (h : f.Bounded) : f.reevaluated.1.good := by
  have hsh : (f.soft : Int) ≤ f.hard := by exact_mod_cast h.soft
  rw [Folio.good_iff]
  rcases f.reevaluated_cases with ⟨he, hw, hg, hl⟩ | ⟨he, hx⟩ | ⟨he, hx⟩ <;> rw [he]
  · have held : f.cause = some .limit ∨ f.cause = some .ceiling → f.resumeMode = .auto → f.soft < f.exposure := by
      rintro (hc | hc) hm
      all_goals exact hl (h.cause.mp (by simp [hc])) (by simp [hc]) hm
    exact ⟨h, hw, hg, held⟩
  · have hb : (f.suspendedFor .ceiling).Bounded :=
      { h with cause := by simp [Folio.suspendedFor], closed := by simp [Folio.suspendedFor] }
    exact ⟨hb, by simp [Folio.suspendedFor], by simp [Folio.suspendedFor], fun _ _ => lt_of_le_of_lt hsh hx⟩
  · have hb : f.reactivated.Bounded :=
      { h with grace := le_refl _, cause := by simp [Folio.reactivated], closed := by simp [Folio.reactivated] }
    exact ⟨hb, fun _ => le_trans hx hsh, by simp [Folio.reactivated], by simp [Folio.reactivated]⟩

/-- Re-evaluation moves the state, the cause and the grace remaining, and nothing else (R105, R106). -/
theorem Folio.reevaluated_eq (f : Folio) :
    f.reevaluated.1 =
      { f with
        state := f.reevaluated.1.state
        cause := f.reevaluated.1.cause
        grace := f.reevaluated.1.grace } := by
  rcases f.reevaluated_cases with ⟨he, -⟩ | ⟨he, -⟩ | ⟨he, -⟩ <;> rw [he] <;> rfl

@[simp] theorem Folio.reevaluated_holds (f : Folio) : f.reevaluated.1.holds = f.holds := by rw [Folio.reevaluated_eq]

@[simp] theorem Folio.reevaluated_openTabs (f : Folio) : f.reevaluated.1.openTabs = f.openTabs := by
  rw [Folio.reevaluated_eq]

theorem addSpend_le (y d : Nat) : addSpend y d ≤ spendTop := Nat.min_le_right _ _

theorem Folio.Bounded.released {f : Folio} (h : f.Bounded) (hold : Nat) : (f.released hold).Bounded :=
  { h with
    holds := (Nat.sub_le _ _).trans h.holds
    openTabs := (Nat.sub_le _ _).trans h.openTabs
    closed := fun hc => ⟨(h.closed hc).1, by simp [Folio.released, (h.closed hc).2]⟩ }

/-- An approved posting keeps a folio within its bounds, where the balance has room for it (R107). -/
theorem Folio.Bounded.posted {f : Folio} {g : Figures} {graced : Bool} (h : f.Bounded)
    (hroom : f.balance + g.e ≤ 1000000000) (hc : f.state ≠ .closed) (hs : graced = true → f.state ≠ .suspended) :
    (f.posted g graced).Bounded := by
  have hlow : (-1000000000 : Int) ≤ f.balance + g.e := by have := h.balance.1; omega
  unfold Folio.posted
  split
  · exact h
  · cases graced with
    | false =>
      exact
        { h with
          balance := ⟨hlow, hroom⟩
          prepaid := (Nat.sub_le _ _).trans h.prepaid
          spend := addSpend_le _ _
          closed := fun hk => absurd hk hc }
    | true =>
      have hcause : f.cause = none := by
        by_contra hk
        exact hs rfl (h.cause.mp hk)
      exact
        { h with
          balance := ⟨hlow, hroom⟩
          prepaid := (Nat.sub_le _ _).trans h.prepaid
          spend := addSpend_le _ _
          grace := (Nat.sub_le _ _).trans h.grace
          cause := by simp [hcause]
          closed := by simp }

@[simp] theorem Folio.posted_holds (f : Folio) (g : Figures) (b : Bool) : (f.posted g b).holds = f.holds := by
  unfold Folio.posted
  split <;> rfl

@[simp] theorem Folio.posted_openTabs (f : Folio) (g : Figures) (b : Bool) : (f.posted g b).openTabs = f.openTabs := by
  unfold Folio.posted
  split <;> rfl

/-- A limit decline of a folio in GRACE leaves it settled: it is above its soft limit (R108). -/
theorem Folio.good.limitDeclined {f : Folio} (h : f.good) (hg : f.state = .grace) : (f.suspendedFor .limit).good := by
  refine (Folio.good_iff _).mpr ⟨?_, by simp [Folio.suspendedFor], by simp [Folio.suspendedFor],
    fun _ _ => h.settled.graced hg⟩
  exact { h.bounded with cause := by simp [Folio.suspendedFor], closed := by simp [Folio.suspendedFor] }

/-! ### The folios and the open tabs together -/

/-- Every folio is good, and its holds and its count of open tabs are those of the tabs secured on it; every open tab has
a hold in its range and is secured on a folio in use. A CLOSED folio has no open tab, so none is secured on it. -/
structure Secured (folios : Table Folio) (tabs : Table Tab) : Prop where
  foliosWf : Table.wf folios = true
  tabsWf : Table.wf tabs = true
  agree : ∀ k f, folios.find k = some f → f.good ∧ f.holds = holdsOf tabs k ∧ f.openTabs = tabsOf tabs k
  holds : ∀ i t, tabs.find i = some t → 100 ≤ t.hold ∧ t.hold ≤ 500000
  inUse : ∀ i t, tabs.find i = some t → folios.find t.folio ≠ none

theorem State.foliosGood_iff (s : State) : s.foliosGood ↔ Secured s.folios s.tabs.entries := by
  constructor
  · rintro ⟨hf, ht, hagree, htabs⟩
    refine ⟨hf, ht, hagree, fun i t h => (htabs i t h).1, fun i t h hn => ?_⟩
    obtain ⟨f, hfolio, -⟩ := (htabs i t h).2
    exact absurd (hfolio.symm.trans hn) (Option.some_ne_none f)
  · intro h
    refine ⟨h.foliosWf, h.tabsWf, h.agree, fun i t hi => ⟨h.holds i t hi, ?_⟩⟩
    obtain ⟨f, hf⟩ := Option.ne_none_iff_exists'.mp (h.inUse i t hi)
    refine ⟨f, hf, fun hc => ?_⟩
    obtain ⟨hgood, -, hopen⟩ := h.agree _ f hf
    have hzero : tabsOf s.tabs.entries t.folio = 0 := hopen ▸ (hgood.bounded.closed hc).2
    exact tabsOf_eq_zero.mp hzero _ (Table.mem_of_find hi) rfl

namespace Secured

variable {folios : Table Folio} {tabs : Table Tab}

theorem empty : Secured [] [] where
  foliosWf := rfl
  tabsWf := rfl
  agree := fun _ _ h => by cases h
  holds := fun _ _ h => by cases h
  inUse := fun _ _ h => by cases h

/-- A folio rewritten with its holds and its count of open tabs kept. -/
theorem put {k : Nat} {f f' : Folio} (h : Secured folios tabs) (hf : folios.find k = some f) (hh : f'.holds = f.holds)
    (ho : f'.openTabs = f.openTabs) (hg : f.good → f'.good) : Secured (folios.put k f') tabs where
  foliosWf := Table.wf_put _ _ h.foliosWf
  tabsWf := h.tabsWf
  agree := by
    intro j x hx
    rw [Table.find_put] at hx
    split at hx
    · rename_i hj
      obtain rfl := Option.some.inj hx
      obtain ⟨hgood, hholds, hopen⟩ := h.agree k f hf
      exact hj ▸ ⟨hg hgood, hh.trans hholds, ho.trans hopen⟩
    · exact h.agree j x hx
  holds := h.holds
  inUse := fun i t hi => Table.find_put_ne_none _ _ (h.inUse i t hi)

/-- A folio without open tabs ends. -/
theorem drop {k : Nat} {f : Folio} (h : Secured folios tabs) (hf : folios.find k = some f) (ho : f.openTabs = 0) :
    Secured (folios.drop k) tabs where
  foliosWf := Table.wf_drop _ h.foliosWf
  tabsWf := h.tabsWf
  agree := by
    intro j x hx
    rw [Table.find_drop k j h.foliosWf] at hx
    split at hx
    · cases hx
    · exact h.agree j x hx
  holds := h.holds
  inUse := by
    intro i t hi
    obtain ⟨-, -, hopen⟩ := h.agree k f hf
    have hne : t.folio ≠ k := tabsOf_eq_zero.mp (hopen ▸ ho) _ (Table.mem_of_find hi)
    rw [Table.find_drop k _ h.foliosWf, if_neg hne]
    exact h.inUse i t hi

/-- A folio begins in a FREE slot, on which no tab is secured. -/
theorem openFolio {k : Nat} {f : Folio} (h : Secured folios tabs) (hfree : folios.find k = none) (hg : f.good)
    (hh : f.holds = 0) (ho : f.openTabs = 0) : Secured (folios.put k f) tabs where
  foliosWf := Table.wf_put _ _ h.foliosWf
  tabsWf := h.tabsWf
  agree := by
    intro j x hx
    rw [Table.find_put] at hx
    split at hx
    · rename_i hj
      obtain rfl := Option.some.inj hx
      have hnone : ∀ e ∈ tabs, e.2.folio ≠ j := fun e he hk =>
        h.inUse e.1 e.2 (Table.find_of_mem h.tabsWf he) (by rw [hk, hj, hfree])
      exact ⟨hg, hh.trans (holdsOf_eq_zero hnone).symm, ho.trans (tabsOf_eq_zero.mpr hnone).symm⟩
    · exact h.agree j x hx
  holds := h.holds
  inUse := fun i t hi => Table.find_put_ne_none _ _ (h.inUse i t hi)

/-- Every folio rewritten with its holds and its count of open tabs kept. -/
theorem map {g : Folio → Folio} (h : Secured folios tabs)
    (hg : ∀ f : Folio, f.good → (g f).good ∧ (g f).holds = f.holds ∧ (g f).openTabs = f.openTabs) :
    Secured (folios.mapValues g) tabs where
  foliosWf := Table.wf_mapValues _ h.foliosWf
  tabsWf := h.tabsWf
  agree := by
    intro j x hx
    rw [Table.find_mapValues] at hx
    obtain ⟨f, hf, rfl⟩ := Option.map_eq_some_iff.mp hx
    obtain ⟨hgood, hholds, hopen⟩ := h.agree j f hf
    obtain ⟨hgood', hh, ho⟩ := hg f hgood
    exact ⟨hgood', hh.trans hholds, ho.trans hopen⟩
  holds := h.holds
  inUse := by
    intro i t hi
    rw [Table.find_mapValues]
    simpa using h.inUse i t hi

/-- The holds of a folio are bounded by the number of its open tabs (R109, R144). -/
theorem holds_le {k : Nat} {f : Folio} (h : Secured folios tabs) (hf : folios.find k = some f) :
    f.holds ≤ 500000 * f.openTabs := by
  obtain ⟨-, hholds, hopen⟩ := h.agree k f hf
  rw [hholds, hopen]
  exact holdsOf_le (fun e he => (h.holds e.1 e.2 (Table.find_of_mem h.tabsWf he)).2) k

/-- A tab opens in a free entry, and its folio takes the hold (R109, R146). -/
theorem openTab {i : Nat} {t : Tab} {f f' : Folio} (h : Secured folios tabs) (hfree : tabs.find i = none)
    (hf : folios.find t.folio = some f) (ht : 100 ≤ t.hold ∧ t.hold ≤ 500000) (hh : f'.holds = f.holds + t.hold)
    (ho : f'.openTabs = f.openTabs + 1) (hg : f'.good) : Secured (folios.put t.folio f') (tabs.put i t) where
  foliosWf := Table.wf_put _ _ h.foliosWf
  tabsWf := Table.wf_put _ _ h.tabsWf
  agree := by
    intro j x hx
    rw [holdsOf_perm (Table.put_perm t hfree), tabsOf_perm (Table.put_perm t hfree), holdsOf_cons, tabsOf_cons]
    rw [Table.find_put] at hx
    by_cases hj : j = t.folio
    · rw [if_pos hj] at hx
      obtain rfl := Option.some.inj hx
      obtain ⟨-, hholds, hopen⟩ := h.agree _ f hf
      rw [if_pos hj.symm, if_pos hj.symm, hj, hh, ho, hholds, hopen]
      exact ⟨hg, rfl, rfl⟩
    · rw [if_neg hj] at hx
      rw [if_neg (Ne.symm hj), if_neg (Ne.symm hj)]
      exact h.agree j x hx
  holds := by
    intro k u hk
    rw [Table.find_put] at hk
    split at hk
    · exact Option.some.inj hk ▸ ht
    · exact h.holds k u hk
  inUse := by
    intro k u hk
    rw [Table.find_put] at hk
    split at hk
    · obtain rfl := Option.some.inj hk
      exact Table.find_put_ne_none _ _ (hf ▸ Option.some_ne_none f)
    · exact Table.find_put_ne_none _ _ (h.inUse k u hk)

/-- The hold of an open tab is among the holds of its folio (R109). -/
theorem hold_le {i : Nat} {t : Tab} {f : Folio} (h : Secured folios tabs) (hi : tabs.find i = some t)
    (hf : folios.find t.folio = some f) : t.hold ≤ f.holds := by
  obtain ⟨-, hholds, -⟩ := h.agree _ f hf
  rw [hholds, holdsOf_perm (Table.perm_drop hi), holdsOf_cons, if_pos rfl]
  exact Nat.le_add_left _ _

/-- A tab ends, and its hold leaves its folio (R109). -/
theorem closeTab {i : Nat} {t : Tab} {f f' : Folio} (h : Secured folios tabs) (hi : tabs.find i = some t)
    (hf : folios.find t.folio = some f) (hh : f'.holds = f.holds - t.hold) (ho : f'.openTabs = f.openTabs - 1)
    (hg : f'.good) : Secured (folios.put t.folio f') (tabs.drop i) where
  foliosWf := Table.wf_put _ _ h.foliosWf
  tabsWf := Table.wf_drop _ h.tabsWf
  agree := by
    intro j x hx
    have hsplit : holdsOf tabs j = holdsOf (tabs.drop i) j + (if t.folio = j then t.hold else 0) ∧
        tabsOf tabs j = tabsOf (tabs.drop i) j + if t.folio = j then 1 else 0 :=
      ⟨(holdsOf_perm (Table.perm_drop hi) j).trans (holdsOf_cons ..),
        (tabsOf_perm (Table.perm_drop hi) j).trans (tabsOf_cons ..)⟩
    rw [Table.find_put] at hx
    by_cases hj : j = t.folio
    · rw [if_pos hj] at hx
      obtain rfl := Option.some.inj hx
      obtain ⟨-, hholds, hopen⟩ := h.agree _ f hf
      rw [hj, if_pos rfl, if_pos rfl, ← hholds, ← hopen] at hsplit
      refine ⟨hg, ?_, ?_⟩ <;> rw [hj] <;> omega
    · rw [if_neg hj] at hx
      rw [if_neg (Ne.symm hj), if_neg (Ne.symm hj)] at hsplit
      obtain ⟨hgood, hholds, hopen⟩ := h.agree j x hx
      exact ⟨hgood, hholds.trans hsplit.1, hopen.trans hsplit.2⟩
  holds := by
    intro k u hk
    rw [Table.find_drop i k h.tabsWf] at hk
    split at hk
    · cases hk
    · exact h.holds k u hk
  inUse := by
    intro k u hk
    rw [Table.find_drop i k h.tabsWf] at hk
    split at hk
    · cases hk
    · exact Table.find_put_ne_none _ _ (h.inUse k u hk)

end Secured

end Sys2Proof.Machine
end

section
/-! What keeps the law of the folios and the law of the tabs: the changes that touch neither, the rewriting of records,
folios and tabs, and the requests made of them (R99, R101, R105, R109, R141, R142). -/

namespace Sys2Proof.Machine

/-! ### The law of the tabs -/

/-- Each open tab stands in an entry of the table and has a number in its range, and no two have the same (R141, R142). -/
structure Numbered (tabs : TabTable) : Prop where
  wf : Table.wf tabs.entries = true
  next : 1 ≤ tabs.nextNumber ∧ tabs.nextNumber ≤ 65535
  distinct : (tabs.entries.map fun e => e.2.number).Nodup
  range : ∀ e ∈ tabs.entries, e.1 < 1024 ∧ 1 ≤ e.2.number ∧ e.2.number ≤ 65535

/-- The opener of each tab of a list is a record linked to the tab's folio (R141). -/
def OpenersLinked (records : Table Record) (entries : Table Tab) : Prop :=
  ∀ e ∈ entries, ∃ r, records.find e.2.opener = some r ∧ r.folio = e.2.folio

theorem State.tabsGood_iff (s : State) :
    s.tabsGood ↔ Table.wf s.store.records = true ∧ Numbered s.tabs ∧ OpenersLinked s.store.records s.tabs.entries := by
  constructor
  · rintro ⟨hr, ht, hnext, hdistinct, htabs⟩
    refine ⟨hr, ⟨ht, hnext, hdistinct, fun e he => ?_⟩, fun e he => ?_⟩ <;> obtain ⟨hlt, hn, ho⟩ := htabs e he
    · exact ⟨hlt, hn⟩
    · exact ho
  · rintro ⟨hr, hn, ho⟩
    refine ⟨hr, hn.wf, hn.next, hn.distinct, fun e he => ?_⟩
    obtain ⟨hlt, hrange⟩ := hn.range e he
    exact ⟨hlt, hrange, ho e he⟩

namespace Numbered

variable {tabs : TabTable}

theorem drop (h : Numbered tabs) (i : Nat) : Numbered { tabs with entries := tabs.entries.drop i } where
  wf := Table.wf_drop _ h.wf
  next := h.next
  distinct := h.distinct.sublist ((Table.drop_sublist _ _).map _)
  range := fun e he => h.range e (Table.mem_drop he)

theorem length_le (h : Numbered tabs) : tabs.entries.length ≤ 1024 :=
  Table.length_le_of_keys (a := 0) h.wf fun e he => ⟨Nat.zero_le _, (h.range e he).1⟩

/-- A tab with a number that no open tab holds joins in a free entry (R142, R146). -/
theorem put {i : Nat} {t : Tab} (h : Numbered tabs) (hi : i < 1024) (hfree : tabs.entries.find i = none)
    (hn : t.number ∉ tabs.entries.map fun e => e.2.number) (hr : 1 ≤ t.number ∧ t.number ≤ 65535) :
    Numbered { entries := tabs.entries.put i t, nextNumber := nextTabNumber t.number } where
  wf := Table.wf_put _ _ h.wf
  next := nextTabNumber_range hr
  distinct := by
    have hperm := (Table.put_perm t hfree).map fun e => e.2.number
    exact hperm.nodup_iff.mpr (List.nodup_cons.mpr ⟨hn, h.distinct⟩)
  range := by
    intro e he
    rcases Table.mem_put he with rfl | he
    · exact ⟨hi, hr⟩
    · exact h.range e he

end Numbered

theorem OpenersLinked.drop {records : Table Record} {entries : Table Tab} (h : OpenersLinked records entries) (i : Nat) :
    OpenersLinked records (entries.drop i) := fun e he => h e (Table.mem_drop he)

/-! ### Steps that keep the two laws -/

/-- What leads from one state to another keeps the law of the folios and the law of the tabs. -/
structure KeepsAccounts (s t : State) : Prop where
  folios : s.foliosGood → t.foliosGood
  tabs : s.tabsGood → t.tabsGood

namespace KeepsAccounts

variable {s t u : State}

theorem refl (s : State) : KeepsAccounts s s := ⟨id, id⟩

theorem trans (h : KeepsAccounts s t) (k : KeepsAccounts t u) : KeepsAccounts s u :=
  ⟨k.folios ∘ h.folios, k.tabs ∘ h.tabs⟩

/-- Records that change while every opener of an open tab stays linked to its folio. -/
theorem ofRecords (hf : t.folios = s.folios) (ht : t.tabs = s.tabs)
    (hw : Table.wf s.store.records = true → Table.wf t.store.records = true)
    (hr : Table.wf s.store.records = true → ∀ k r, s.record k = some r → s.opensTabs k = true →
      ∃ r', t.record k = some r' ∧ r'.folio = r.folio) : KeepsAccounts s t where
  folios hs := by rwa [State.foliosGood_iff, hf, ht, ← State.foliosGood_iff]
  tabs hs := by
    rw [State.tabsGood_iff] at hs ⊢
    obtain ⟨hwf, hn, ho⟩ := hs
    rw [ht]
    refine ⟨hw hwf, hn, fun e he => ?_⟩
    obtain ⟨r, hrec, hfolio⟩ := ho e he
    obtain ⟨r', hrec', hfolio'⟩ := hr hwf e.2.opener r hrec (List.any_eq_true.mpr ⟨e, he, by simp⟩)
    exact ⟨r', hrec', hfolio'.trans hfolio⟩

/-- What touches neither the records, nor the folios, nor the tabs. -/
theorem quiet (hl : t.ledger = s.ledger) (ht : t.tabs = s.tabs) : KeepsAccounts s t := by
  have hr : t.store.records = s.store.records := congrArg Ledger.records hl
  refine ofRecords (congrArg Ledger.folios hl) ht (hr ▸ id) fun _ k r h _ => ⟨r, ?_, rfl⟩
  rwa [State.record, hr]

theorem thenQuiet (h : KeepsAccounts s t) (hl : u.ledger = t.ledger) (ht : u.tabs = t.tabs) : KeepsAccounts s u :=
  h.trans (quiet hl ht)

/-- A record rewritten with its folio kept. -/
theorem editRecord {slot : Nat} {r r' : Record} (h : s.record slot = some r) (hk : r'.folio = r.folio) :
    KeepsAccounts s (s.putRecord slot r') := by
  refine ofRecords rfl rfl (Table.wf_put _ _) fun _ k x hx _ => ?_
  by_cases hks : k = slot
  · subst hks
    obtain rfl := Option.some.inj (h.symm.trans hx)
    exact ⟨r', by simp [State.record], hk⟩
  · exact ⟨x, (Table.find_put_other _ _ hks).trans hx, rfl⟩

/-- A record rewritten with its folio kept, and what touches the laws no further. -/
theorem editRecordThen {slot : Nat} {r r' : Record} (h : s.record slot = some r)
    (hl : t.ledger = (s.putRecord slot r').ledger) (ht : t.tabs = s.tabs) (hk : r'.folio = r.folio) :
    KeepsAccounts s t :=
  (editRecord h hk).thenQuiet hl ht

/-- Every record rewritten with its folio kept. -/
theorem mapRecords {f : Record → Record} (hf : t.folios = s.folios) (ht : t.tabs = s.tabs)
    (hr : t.store.records = s.store.records.mapValues f) (hk : ∀ r : Record, (f r).folio = r.folio) :
    KeepsAccounts s t := by
  refine ofRecords hf ht (fun hw => hr ▸ Table.wf_mapValues f hw) fun _ k r h _ => ⟨f r, ?_, hk r⟩
  have hfind : s.store.records.find k = some r := h
  rw [State.record, hr, Table.find_mapValues, hfind]
  rfl

/-- Folios that change in agreement with the tabs. -/
theorem ofFolios (hr : t.store.records = s.store.records) (ht : t.tabs = s.tabs)
    (hf : Secured s.folios s.tabs.entries → Secured t.folios s.tabs.entries) : KeepsAccounts s t where
  folios hs := by
    rw [State.foliosGood_iff] at hs ⊢
    rw [ht]
    exact hf hs
  tabs hs := by rwa [State.tabsGood_iff, hr, ht, ← State.tabsGood_iff]

/-- A folio rewritten with its holds and its count of open tabs kept. -/
theorem editFolio {slot : Nat} {f f' : Folio} (h : s.foliosGood → s.folio slot = some f) (hh : f'.holds = f.holds)
    (ho : f'.openTabs = f.openTabs) (hg : f.good → f'.good) : KeepsAccounts s (s.putFolio slot f') :=
  ofFolios rfl rfl fun hs => hs.put (h ((State.foliosGood_iff s).mpr hs)) hh ho hg

end KeepsAccounts

@[simp] theorem storeReevaluated_folios (slot : Nat) (f : Folio) (s : State) :
    (storeReevaluated slot f s).folios = s.folios.put slot f.reevaluated.1 := by
  unfold storeReevaluated
  dsimp only
  split <;> rfl

section
variable (entry : Nat) (t : Tab) (f : Folio) (s : State)

@[simp] theorem openTab_store : (openTab entry t f s).store = s.store := by simp [openTab]

@[simp] theorem openTab_tabs : (openTab entry t f s).tabs =
    { entries := s.tabs.entries.put entry t, nextNumber := nextTabNumber t.number } := by simp [openTab]

@[simp] theorem openTab_folios : (openTab entry t f s).folios =
    s.folios.put t.folio (Folio.reevaluated { f with holds := f.holds + t.hold, openTabs := f.openTabs + 1 }).1 := by
  simp [openTab]

end

namespace KeepsAccounts

variable {s t : State}

/-- A folio takes new fields within its bounds and is re-evaluated (R104, R105). -/
theorem storeReevaluated {slot : Nat} {f f' : Folio} (h : s.folio slot = some f) (hh : f'.holds = f.holds)
    (ho : f'.openTabs = f.openTabs) (hb : f.good → f'.Bounded) :
    KeepsAccounts s (Machine.storeReevaluated slot f' s) := by
  refine ofFolios (by simp) (by simp) fun hs => ?_
  rw [storeReevaluated_folios]
  exact hs.put h (by simp [hh]) (by simp [ho]) fun hg => (hb hg).reevaluated_good

/-- A folio that loses a member stays good, and a CLOSED one that ends has no open tab (R98, R101, R111). -/
theorem lose (slot : Nat) : KeepsAccounts s { s with folios := loseIn s.folios slot } := by
  refine ofFolios rfl rfl fun hs => ?_
  unfold loseIn
  cases hf : s.folios.find slot with
  | none => exact hs
  | some f =>
    by_cases hc : f.state = .closed ∧ f.members - 1 = 0
    · simp only [Folio.left, if_pos hc]
      obtain ⟨hgood, -⟩ := hs.agree slot f hf
      exact hs.drop hf (hgood.bounded.closed hc.1).2
    · simp only [Folio.left, if_neg hc]
      exact hs.put hf rfl rfl id

/-- A tab ends: its entry is free, its hold leaves its folio, and what its close posts is posted (R109, R150). -/
theorem closeTab {entry : Nat} {tab : Tab} {f' : Folio} (ht : (entry, tab) ∈ s.tabs.entries)
    (h : s.foliosGood → ∃ f, s.folio tab.folio = some f ∧ f'.holds = f.holds - tab.hold ∧
      f'.openTabs = f.openTabs - 1 ∧ f'.Bounded) :
    KeepsAccounts s (Machine.storeReevaluated tab.folio f' (freeTab entry s)) where
  folios hs := by
    obtain ⟨f, hf, hh, ho, hb⟩ := h hs
    rw [State.foliosGood_iff] at hs ⊢
    rw [storeReevaluated_folios, storeReevaluated_tabs]
    exact hs.closeTab (Table.find_of_mem hs.tabsWf ht) hf (by simp [hh]) (by simp [ho]) hb.reevaluated_good
  tabs hs := by
    rw [State.tabsGood_iff] at hs ⊢
    obtain ⟨hw, hn, ho⟩ := hs
    rw [storeReevaluated_store, storeReevaluated_tabs]
    exact ⟨hw, hn.drop entry, ho.drop entry⟩

/-- A tab opens: it stands in a free entry with a number that no open tab holds, its opener is linked to its folio, and
its hold joins the folio's (R109, R142, R146). -/
theorem openTab {entry : Nat} {tab : Tab} {f : Folio} {r : Record} (hentry : entry < 1024)
    (hfree : s.tabs.entries.find entry = none) (hf : s.folio tab.folio = some f) (hopen : f.openTabs < 4)
    (hstate : f.state ≠ .closed) (hhold : 100 ≤ tab.hold ∧ tab.hold ≤ 500000)
    (hnumber : tab.number = assignedNumber s) (hrec : s.record tab.opener = some r) (hlink : r.folio = tab.folio) :
    KeepsAccounts s (Machine.openTab entry tab f s) where
  folios hs := by
    rw [State.foliosGood_iff] at hs ⊢
    obtain ⟨hgood, -⟩ := hs.agree _ f hf
    have hholds := hs.holds_le hf
    have hb : ({ f with holds := f.holds + tab.hold, openTabs := f.openTabs + 1 } : Folio).Bounded :=
      { hgood.bounded with
        openTabs := hopen
        holds := by simp only; omega
        closed := fun hc => absurd hc hstate }
    rw [openTab_folios, openTab_tabs]
    exact hs.openTab hfree hf hhold (by simp) (by simp) hb.reevaluated_good
  tabs hs := by
    rw [State.tabsGood_iff] at hs ⊢
    obtain ⟨hw, hn, ho⟩ := hs
    have hnew : s.tabNumberHeld (assignedNumber s) = false :=
      searchTabNumber_free hn.length_le (by decide) hn.next
    rw [openTab_store, openTab_tabs]
    refine ⟨hw, hn.put hentry hfree (fun hin => ?_) ?_, fun e he => ?_⟩
    · rw [hnumber, ← State.tabNumberHeld_iff, hnew] at hin
      cases hin
    · rw [hnumber]
      exact searchTabNumber_range s _ hn.next
    · rcases Table.mem_put he with rfl | he
      · exact ⟨r, hrec, hlink⟩
      · exact ho e he

/-! ### Requests -/

theorem checked {α : Type} {p : Parsed α} {run : α → Decision}
    (h : ∀ a, p = .good a → KeepsAccounts s (run a).state) : KeepsAccounts s (checked p s run).state := by
  cases p with
  | good a => exact h a rfl
  | badRequest => exact refl s
  | range => exact refl s

theorem withRecord {slot : Nat} {run : Record → Decision}
    (h : ∀ r, s.record slot = some r → KeepsAccounts s (run r).state) :
    KeepsAccounts s (withRecord slot s run).state := by
  unfold Machine.withRecord
  split
  · exact h _ ‹_›
  · exact refl s

theorem withFolio {slot : Nat} {run : Folio → Decision}
    (h : ∀ f, s.folio slot = some f → KeepsAccounts s (run f).state) :
    KeepsAccounts s (withFolio slot s run).state := by
  unfold Machine.withFolio
  split
  · exact h _ ‹_›
  · exact refl s

/-- A check that refuses, and what the request does when the check passes. -/
theorem refuseIf {c : Prop} [Decidable c] {code : ReplyCode} {d : Decision} (h : ¬ c → KeepsAccounts s d.state) :
    KeepsAccounts s (if c then refuse code s else d).state := by
  split
  · exact refl s
  · exact h ‹_›

/-- A request that rewrites one record of a slot, with its folio kept. -/
theorem editRequest {α : Type} {p : Parsed α} {slot : α → Nat} {reply : α → Record → List Byte}
    {edit : α → Record → Record} (hk : ∀ (a : α) (r : Record), (edit a r).folio = r.folio) :
    KeepsAccounts s
      (Machine.checked p s fun a =>
        Machine.withRecord (slot a) s fun r => done (reply a r) (s.putRecord (slot a) (edit a r))).state :=
  checked fun a _ => withRecord fun r h => editRecord h (hk a r)

/-- A request that touches neither the records, nor the folios, nor the tabs. -/
theorem quietRequest {α : Type} {p : Parsed α} {run : α → Decision}
    (h : ∀ a, (run a).state.ledger = s.ledger ∧ (run a).state.tabs = s.tabs) :
    KeepsAccounts s (Machine.checked p s run).state :=
  checked fun a _ => quiet (h a).1 (h a).2

theorem manage {d : State → Decision} (kind : Byte) (body : List Byte) (h : ∀ s, KeepsAccounts s (d s).state)
    (s : State) : KeepsAccounts s (manage kind body d s) := by
  unfold Machine.manage
  split
  · have ht : KeepsAccounts s (takeWrite kind body s) := quiet rfl rfl
    refine (ht.trans ?_ : KeepsAccounts s (_ : Decision).state).thenQuiet rfl rfl
    split
    · exact refl _
    · exact h _
  · exact quiet rfl rfl

theorem takeRequest {d : TerminalEntry → Frame → State → Verdict} {p : Port} (kind : Byte)
    (permitted : TerminalEntry → Bool) (size : Nat) (h : ∀ e f s, KeepsAccounts s (d e f s).state) (s : State) :
    KeepsAccounts s (takeRequest p kind permitted size d s) := by
  have ht : KeepsAccounts s (takeFrame p s) := quiet rfl rfl
  have ha : ∀ (f : Frame) (v : Verdict), KeepsAccounts s v.state → KeepsAccounts s (answer p f v) := fun f v hv =>
    hv.thenQuiet (reportRefusal_ledger v.state p f.term v.result v.credential v.slot) (by simp [answer])
  unfold Machine.takeRequest
  split
  · split
    · dsimp only
      split
      · exact ha _ _ ht
      · exact ha _ _ (ht.trans (h _ _ _))
    · exact quiet rfl rfl
  · exact quiet rfl rfl

theorem forEach {α : Type} {f : α → State → State} (h : ∀ a s, KeepsAccounts s (f a s)) (l : List α) (s : State) :
    KeepsAccounts s (forEach f l s) := by
  induction l generalizing s with
  | nil => exact refl s
  | cons a l ih => exact (h a s).trans (ih _)

end KeepsAccounts

end Sys2Proof.Machine
end

section
/-! O9: every command keeps the law of the folios and the law of the tabs. -/

namespace Sys2Proof.Machine

/-! ### What leaves the tab table as it is -/

section
variable (s : State)

@[simp] theorem setLineMode_tabs (m : LineMode) : (setLineMode m s).tabs = s.tabs := by
  unfold setLineMode
  split <;> rfl

@[simp] theorem endPulse_tabs : (endPulse s).tabs = s.tabs := by
  unfold endPulse
  split
  · split <;> rfl
  · rfl

@[simp] theorem endHoldoff_tabs : (endHoldoff s).tabs = s.tabs := by
  unfold endHoldoff
  split
  · split <;> rfl
  · rfl

@[simp] theorem expireWatchdog_tabs : (expireWatchdog s).tabs = s.tabs := by
  unfold expireWatchdog
  split
  · split <;> rfl
  · rfl

@[simp] theorem discardFrame_tabs (p : Port) : (discardFrame p s).tabs = s.tabs := by
  unfold discardFrame
  dsimp only
  split <;> rfl

@[simp] theorem dropPartFrame_tabs (p : Port) : (dropPartFrame p s).tabs = s.tabs := discardFrame_tabs _ p

@[simp] theorem endGap_tabs (p : Port) : (endGap p s).tabs = s.tabs := by
  unfold endGap
  split
  · exact dropPartFrame_tabs s p
  · rfl

@[simp] theorem arrive_tabs (p : Port) (f : Frame) : (arrive p f s).tabs = s.tabs := by
  unfold arrive
  dsimp only
  split
  · rfl
  · exact reportRefusal_tabs _ _ _ _ _ _

@[simp] theorem settle_tabs (p : Port) : (settle p s).tabs = s.tabs := by
  unfold settle
  split
  · dsimp only
    split
    · exact arrive_tabs _ _ _
    · exact discardFrame_tabs _ _
  · rfl

@[simp] theorem huntByte_tabs (p : Port) (b : Byte) : (huntByte p b s).tabs = s.tabs := by
  unfold huntByte
  split <;> rfl

@[simp] theorem frameByte_tabs (p : Port) (bs : List Byte) (b : Byte) (stopGood : Bool) :
    (frameByte p bs b stopGood s).tabs = s.tabs := by
  unfold frameByte
  split
  · exact dropPartFrame_tabs s p
  · split
    · exact dropPartFrame_tabs s p
    · split <;> rfl

@[simp] theorem receive_tabs (p : Port) (b : Byte) (stopGood : Bool) : (receive p b stopGood s).tabs = s.tabs := by
  unfold receive
  dsimp only
  split <;> simp

@[simp] theorem expireSilence_tabs (p : Port) : (expireSilence p s).tabs = s.tabs := by
  unfold expireSilence
  split
  · split <;> rfl
  · rfl

@[simp] theorem resetService_tabs : (resetService s).tabs = s.tabs := by
  unfold resetService
  split <;> rfl

@[simp] theorem takeUnlisted_tabs (kind : Byte) (body : List Byte) : (takeUnlisted kind body s).tabs = s.tabs := by
  unfold takeUnlisted
  split
  · rfl
  · split <;> rfl

@[simp] theorem takeUnknownKind_tabs (p : Port) : (takeUnknownKind p s).tabs = s.tabs := by
  unfold takeUnknownKind
  split
  · split
    · rfl
    · exact reportRefusal_tabs _ _ _ _ _ _
  · rfl

@[simp] theorem notFound_tabs (p : Port) (f : Frame) (n : Nat) (l : Lookup) (body : List Byte) :
    (notFound p f n l body s).state.tabs = s.tabs := by
  unfold notFound
  split <;> rfl

@[simp] theorem loadZones_tabs (n : Nat) (zs : List Nat) : (loadZones n zs s).tabs = s.tabs := by
  rw [loadZones_eq]

@[simp] theorem sail_tabs : (sail s).tabs = s.tabs := by
  unfold sail
  split <;> rfl

end

theorem writeDiscarded_tabs {bytes : List Byte} {s t : State} (h : exec (.writeDiscarded bytes) s = .next t) :
    t.tabs = s.tabs := by
  cases h
  cases bytes with
  | nil => rfl
  | cons first rest =>
    dsimp only
    split
    · unfold discardUntaken
      split <;> rfl
    · rfl
    · rfl

theorem readReply_tabs {bytes : List Byte} {s t : State} (h : exec (.readReply bytes) s = .next t) :
    t.tabs = s.tabs := by
  cases h
  cases bytes with
  | nil => rfl
  | cons first rest =>
    dsimp only
    split <;> rfl

section
variable {s : State}

/-! ### The shared operations -/

theorem revoke_accounts (slot n : Nat) (reason : RevocationReason) (s : State) :
    KeepsAccounts s (revoke slot n reason s) := by
  refine .ofRecords (by simp) (by simp) (fun h => revoke_wf h) fun _ k r hr _ => ?_
  by_cases hk : k = slot
  · subst hk
    exact ⟨_, revoke_record reason hr, rfl⟩
  · exact ⟨r, (revoke_record_other n reason s hk).trans hr, rfl⟩

theorem endReservation_accounts {slot : Nat} {r r' : Record} (v : Reservation) (h : s.record slot = some r')
    (hr : r.folio = r'.folio) : KeepsAccounts s (endReservation slot r v s) :=
  .editRecordThen h (leaveIndex_ledger _ _) (by simp) hr

theorem consumeMessage_accounts {slot : Nat} {r : Record} (h : s.record slot = some r) :
    KeepsAccounts s (consumeMessage slot r s) := by
  unfold consumeMessage
  split
  · exact .refl s
  · exact .editRecord h r.shown_sameCounts.folio

theorem setLastPassage_accounts (slot : Nat) (p : Option Passage) (s : State) :
    KeepsAccounts s (setLastPassage slot p s) := by
  unfold setLastPassage
  split
  · rename_i r hr
    exact .editRecord hr rfl
  · exact .refl s

theorem postToRecord_accounts (slot : Nat) (g : Figures) (s : State) : KeepsAccounts s (postToRecord slot g s) := by
  unfold postToRecord
  split
  · rename_i r hr
    exact .editRecord hr rfl
  · exact .refl s

theorem changeLocation_accounts {slot : Nat} {r : Record} (new : Location) (h : s.record slot = some r) :
    KeepsAccounts s (changeLocation slot r new s) := by
  have hrec : (changeLocation slot r new s).store.records = (s.putRecord slot (r.relocated new)).store.records :=
    congrArg Ledger.records (changeLocation_ledger slot r new s)
  refine (KeepsAccounts.editRecord h (r.relocated_folio new)).trans
    (.ofRecords (by simp) (by simp) (hrec ▸ id) fun _ k x hx _ => ⟨x, ?_, rfl⟩)
  rwa [State.record, hrec]

/-! ### The record store -/

theorem decideIssue_accounts (body : List Byte) (s : State) : KeepsAccounts s (decideIssue body s).state :=
  .checked fun q _ => .withFolio fun f hf => .refuseIf fun _ => .refuseIf fun _ => by
    split
    · exact .refl s
    · rename_i slot hfree
      obtain ⟨-, -, hnone, -⟩ := Table.lowestFree_spec hfree
      have hjoin : KeepsAccounts s (s.putFolio q.folio f.joined) := .editFolio (fun _ => hf) rfl rfl id
      have hissue : issueInto slot q s = report .records (reconcile s.passage.counts
          (((s.putRecord slot (issuedRecord q)).putFolio q.folio f.joined).setCounts
            (addCell s.passage.counts q.cls q.location))) := by
        rw [issueInto, gainMember_folio (s := s.putRecord slot (issuedRecord q)) hf]
      rw [done, hissue]
      refine hjoin.trans (.ofRecords (by simp) (by simp) (fun hw => ?_) fun _ k r hr _ => ⟨r, ?_, rfl⟩)
      · simpa using Table.wf_put _ _ hw
      · have hk : k ≠ slot := by
          rintro rfl
          cases hnone.symm.trans hr
        simpa [State.record] using (Table.find_put_other _ (issuedRecord q) hk).trans hr

theorem decideReserve_accounts (body : List Byte) (s : State) : KeepsAccounts s (decideReserve body s).state :=
  .checked fun q _ => .withRecord fun r h => by
    split
    · exact .refl s
    · exact .editRecordThen h ((report_ledger _ _).trans (State.putIndex_ledger _ _ _)) rfl rfl

theorem confirmInto_accounts (slot : Nat) (v : Reservation) (s : State) : KeepsAccounts s (confirmInto slot v s) := by
  unfold confirmInto
  split
  · rename_i r hr
    exact .editRecordThen hr (State.putIndex_ledger _ _ _) rfl rfl
  · exact .refl s

theorem decideConfirm_accounts (body : List Byte) (s : State) : KeepsAccounts s (decideConfirm body s).state :=
  .checked fun q _ => .withRecord fun r h => by
    split
    · exact .refl s
    · refine .refuseIf fun _ => ?_
      split
      · exact (revoke_accounts _ _ _ s).trans (confirmInto_accounts _ _ _)
      · exact confirmInto_accounts _ _ s

theorem decideCancel_accounts (body : List Byte) (s : State) : KeepsAccounts s (decideCancel body s).state :=
  .checked fun q _ => .withRecord fun r h => by
    split
    · exact .refl s
    · exact .refuseIf fun _ => endReservation_accounts _ h rfl

theorem expireReservation_accounts (slot : Nat) (s : State) : KeepsAccounts s (expireReservation slot s) := by
  unfold expireReservation
  split
  · split
    · split
      · exact (endReservation_accounts _ ‹_› rfl).thenQuiet (raise_ledger _ _) rfl
      · exact .refl s
    · exact .refl s
  · exact .refl s

theorem decideRevoke_accounts (body : List Byte) (s : State) : KeepsAccounts s (decideRevoke body s).state :=
  .checked fun q _ => by
    split
    · exact revoke_accounts _ _ _ s
    · exact .refl s
    · split <;> exact .refl s

theorem decideRemoveRevoked_accounts (body : List Byte) (s : State) :
    KeepsAccounts s (decideRemoveRevoked body s).state :=
  .quietRequest fun n => by split <;> exact ⟨rfl, rfl⟩

theorem decideHold_accounts (body : List Byte) (s : State) : KeepsAccounts s (decideHold body s).state :=
  .checked fun _ _ => .withRecord fun _ h => .refuseIf fun _ => .editRecord h rfl

theorem decideRelease_accounts (body : List Byte) (s : State) : KeepsAccounts s (decideRelease body s).state :=
  .checked fun _ _ => .withRecord fun _ h => .refuseIf fun _ => .editRecord h rfl

/-- A record that opens no tab may go: its folio loses a member, and every other record stands (R17, R18). -/
theorem decideRetire_accounts (body : List Byte) (s : State) : KeepsAccounts s (decideRetire body s).state :=
  .checked fun slot _ => .withRecord fun r h => by
    split
    · exact .refl s
    · rename_i hnone
      simp only [retireRefusal, check_none_iff] at hnone
      obtain ⟨-, hopens, -⟩ := hnone
      have hfolios : (retire slot r s).folios = loseIn s.folios r.folio :=
        (congrArg Ledger.folios (vacateSlot_ledger slot r (retireCredentials slot r s))).trans (by simp)
      refine (KeepsAccounts.lose r.folio).trans
        (.ofRecords hfolios (by simp [done, retire_eq]) (retire_wf (s := s)) fun hw k x hx hk => ⟨x, ?_, rfl⟩)
      have hne : k ≠ slot := by
        rintro rfl
        exact hopens hk
      exact (retire_record (s := s) hw k).trans ((if_neg hne).trans hx)

theorem decideSetLocation_accounts (body : List Byte) (s : State) :
    KeepsAccounts s (decideSetLocation body s).state :=
  .checked fun q _ => .withRecord fun r h => by
    split
    · exact .refl s
    · exact (changeLocation_accounts q.2 h).trans (setLastPassage_accounts _ _ _)

theorem decideAssignCabin_accounts (body : List Byte) (s : State) :
    KeepsAccounts s (decideAssignCabin body s).state :=
  .checked fun q _ => .withRecord fun r h => by
    split
    · exact .refl s
    · exact .editRecordThen h (State.putCabin_ledger _ _ _) rfl (r.assigned_sameCounts q.2).folio

theorem decideVacateCabin_accounts (body : List Byte) (s : State) :
    KeepsAccounts s (decideVacateCabin body s).state :=
  .checked fun q _ => .withRecord fun r h => .refuseIf fun _ =>
    .editRecordThen h (State.putCabin_ledger _ _ _) rfl (r.vacated_sameCounts q.2).folio

theorem decideSetRole_accounts (body : List Byte) (s : State) : KeepsAccounts s (decideSetRole body s).state :=
  .checked fun _ _ => .withRecord fun _ h => .refuseIf fun _ => .editRecord h rfl

/-! ### Time, phases and settings -/

theorem rollOver_accounts (day : Int) (s : State) : KeepsAccounts s (rollOver day s) := by
  have hf : KeepsAccounts s { s with folios := s.folios.mapValues Folio.nextDay } :=
    .ofFolios rfl rfl fun hs => hs.map fun f hg => by
      obtain ⟨hb, hset⟩ := f.good_iff.mp hg
      exact ⟨f.nextDay.good_iff.mpr
        ⟨{ hb with spend := Nat.zero_le _, spendPrevious := hb.spend }, hset.within, hset.graced, hset.held⟩, rfl, rfl⟩
  exact hf.trans (.mapRecords (f := Record.nextDay) rfl rfl rfl fun _ => rfl)

theorem rolloverTest_accounts (s : State) : KeepsAccounts s (rolloverTest s).1 := by
  rcases rolloverTest_cases s with ⟨t, l, -, -, -, h⟩ | ⟨-, h⟩ <;> rw [h]
  · exact rollOver_accounts _ s
  · exact .refl s

theorem decideSetTime_accounts (body : List Byte) (s : State) : KeepsAccounts s (decideSetTime body s).state :=
  .checked fun t _ => by
    have h1 : KeepsAccounts s (setShipTime t s) := .quiet rfl rfl
    cases hs : s.clock.status with
    | unset =>
      simp only [done]
      exact .quiet rfl rfl
    | set =>
      simp only [done]
      exact h1.trans (rolloverTest_accounts _)

theorem decideSetPhase_accounts (body : List Byte) (s : State) : KeepsAccounts s (decideSetPhase body s).state :=
  .checked fun p _ => by
    have hmuster : KeepsAccounts s (enterMuster s) :=
      .mapRecords (f := Record.unmustered) rfl rfl rfl fun _ => rfl
    unfold phaseChange
    split
    case h_1 | h_2 | h_4 => exact .quiet rfl rfl
    case h_3 => exact .quiet (enterCutoff_ledger _) (enterCutoff_tabs _)
    case h_5 => exact .quiet (sail_ledger s) (sail_tabs s)
    case h_6 | h_7 | h_8 => exact hmuster
    case h_9 => exact .refl s

theorem decideEndMuster_accounts (body : List Byte) (s : State) : KeepsAccounts s (decideEndMuster body s).state :=
  .checked fun _ _ => .refuseIf fun _ => by
    unfold done leaveMusterPhase
    dsimp only
    split
    · exact .quiet (enterCutoff_ledger _) (enterCutoff_tabs _)
    · exact .quiet rfl rfl

theorem applySetting_accounts (v : SettingValue) (s : State) : KeepsAccounts s (applySetting v s) := by
  cases v with
  | rolloverHour n =>
    have h1 : KeepsAccounts s { s with settings := { s.settings with rolloverHour := n } } := .quiet rfl rfl
    exact h1.trans (rolloverTest_accounts _)
  | lineMode m => exact .quiet (setLineMode_ledger s m) (setLineMode_tabs s m)
  | reservationCode | blankingCode | watchdogCode | policy | standaloneLimit | enables | refusalMask | threshold
      | latchMode | ackMode | pulseCode | holdoff =>
    exact .quiet rfl rfl

/-! ### Folios -/

/-- A record that opens no tab may move to another folio (R102, R103). -/
theorem decideLink_accounts (body : List Byte) (s : State) : KeepsAccounts s (decideLink body s).state :=
  .checked fun q _ => .withRecord fun r h => .withFolio fun f hf => by
    split
    · exact .refl s
    · rename_i hnone
      simp only [linkRefusal, check_none_iff] at hnone
      obtain ⟨-, hopens, -⟩ := hnone
      have hjoin : KeepsAccounts s (s.putFolio q.2 f.joined) := .editFolio (fun _ => hf) rfl rfl id
      have hfolios : (relink q.1 r q.2 s).folios = loseIn (s.putFolio q.2 f.joined).folios r.folio := by
        rw [relink, loseMember_folios, gainMember_folio (s := s.putRecord q.1 { r with folio := q.2 }) hf]
        rfl
      refine (hjoin.trans (.lose r.folio)).trans
        (.ofRecords hfolios (by simp [done, relink]) (fun hw => ?_) fun _ k x hx hk => ⟨x, ?_, rfl⟩)
      · simpa [done, relink] using Table.wf_put _ _ hw
      · have hne : k ≠ q.1 := by
          rintro rfl
          exact hopens hk
        simpa [done, relink, State.record] using (Table.find_put_other _ { r with folio := q.2 } hne).trans hx

theorem openedFolio_good {q : LimitFields} (h : q.soft ≤ q.hard ∧ q.hard ≤ 100000000 ∧ q.allowance ≤ 15) :
    (openedFolio q).good := by
  obtain ⟨hsoft, hhard, hallow⟩ := h
  refine ⟨hsoft, hhard, le_refl _, hallow, ?_⟩
  simp [openedFolio, Folio.exposure]

/-- A body that is read has fields that the request's own reading passes. -/
theorem fields_good {α : Type} {layout : List Field} {body : List Byte} {read : List Chunk → Option α} {a : α}
    (h : fields layout body read = .good a) : ∃ cs, read cs = some a := by
  unfold fields at h
  split at h
  · cases h
  · rename_i cs _
    split at h
    · rename_i b hb
      cases h
      exact ⟨cs, hb⟩
    · cases h

/-- The limits that an OPEN_FOLIO reads are in order and in their ranges (R110). -/
theorem readOpenFolio_range {body : List Byte} {q : LimitFields} (h : readOpenFolio body = .good q) :
    q.soft ≤ q.hard ∧ q.hard ≤ 100000000 ∧ q.allowance ≤ 15 := by
  obtain ⟨cs, hcs⟩ := fields_good h
  split at hcs
  · unfold limitsOf at hcs
    split at hcs
    · rename_i hrange
      obtain ⟨m, -, rfl⟩ := Option.map_eq_some_iff.mp hcs
      exact ⟨hrange.2, hrange.1, Nat.min_le_right _ _⟩
    · cases hcs
  · cases hcs

/-- The limits that a SET_LIMITS reads are in their ranges (R115). -/
theorem readSetLimits_range {body : List Byte} {q : SetLimitsFields} (h : readSetLimits body = .good q) :
    q.hard ≤ 100000000 ∧ q.allowance ≤ 15 := by
  obtain ⟨cs, hcs⟩ := fields_good h
  split at hcs
  · split at hcs
    · rename_i hrange
      obtain ⟨m, -, rfl⟩ := Option.map_eq_some_iff.mp hcs
      exact ⟨hrange.2.2, Nat.min_le_right _ _⟩
    · cases hcs
  · cases hcs

theorem decideOpenFolio_accounts (body : List Byte) (s : State) : KeepsAccounts s (decideOpenFolio body s).state :=
  .checked fun q hq => by
    split
    · exact .refl s
    · rename_i slot hfree
      obtain ⟨-, -, hnone, -⟩ := Table.lowestFree_spec hfree
      exact .ofFolios rfl rfl fun hs => hs.openFolio hnone (openedFolio_good (readOpenFolio_range hq)) rfl rfl

/-- A CLOSE_FOLIO passes a folio with no open tab and a balance of 0 (R111). -/
theorem decideCloseFolio_accounts (body : List Byte) (s : State) : KeepsAccounts s (decideCloseFolio body s).state :=
  .checked fun slot _ => .withFolio fun f hf => by
    split
    · exact .refl s
    · rename_i hnone
      simp only [closeRefusal, check_none_iff, not_lt, Nat.le_zero, not_not] at hnone
      obtain ⟨-, hopen, hbalance, -⟩ := hnone
      split
      · exact .ofFolios rfl rfl fun hs => hs.drop hf hopen
      · refine .editFolio (fun _ => hf) rfl rfl fun hg => (Folio.good_iff _).mpr ⟨?_, by simp, by simp, by simp⟩
        exact
          { hg.bounded with
            cause := by simp
            closed := fun _ => ⟨hbalance, hopen⟩
            prepaid := Nat.zero_le _ }

/-- A CLOSED folio has a balance of 0 and no holds, so that it is within its hard ceiling when it is reopened (R112). -/
theorem decideReopenFolio_accounts (body : List Byte) (s : State) :
    KeepsAccounts s (decideReopenFolio body s).state :=
  .checked fun slot _ => .withFolio fun f hf => .refuseIf fun hc => by
    have hclosed : f.state = .closed := not_not.mp hc
    refine .ofFolios rfl rfl fun hs => hs.put hf rfl rfl fun hg => ?_
    obtain ⟨hbalance, hopen⟩ := hg.bounded.closed hclosed
    have hzero : f.exposure = 0 := by
      have := hs.holds_le hf
      rw [Folio.exposure]
      omega
    have hcause : f.cause = none := by
      by_contra hk
      have := hg.bounded.cause.mp hk
      simp [hclosed] at this
    refine (Folio.good_iff _).mpr ⟨?_, fun _ => ?_, by simp, by simp [hcause]⟩
    · exact { hg.bounded with grace := le_refl _, cause := by simp [hcause], closed := by simp }
    · exact hzero.trans_le (Int.natCast_nonneg _)

theorem decideSuspendFolio_accounts (body : List Byte) (s : State) :
    KeepsAccounts s (decideSuspendFolio body s).state :=
  .checked fun slot _ => .withFolio fun f hf => .refuseIf fun _ =>
    .editFolio (fun _ => hf) rfl rfl fun hg => (Folio.good_iff _).mpr
      ⟨{ hg.bounded with cause := by simp [Folio.suspendedFor], closed := by simp [Folio.suspendedFor] },
        by simp [Folio.suspendedFor], by simp [Folio.suspendedFor], by simp [Folio.suspendedFor]⟩

/-- A folio brought out of SUSPENDED is within its bounds, with its grace reloaded (R106, R114). -/
theorem Folio.Bounded.resumed {f : Folio} {x : FolioState} (h : f.Bounded) (hx : x = .active ∨ x = .grace) :
    ({ f with state := x, cause := none, grace := f.allowance } : Folio).Bounded :=
  { h with
    grace := le_refl _
    cause := by rcases hx with rfl | rfl <;> simp
    closed := by rcases hx with rfl | rfl <;> simp }

theorem decideResumeFolio_accounts (body : List Byte) (s : State) :
    KeepsAccounts s (decideResumeFolio body s).state :=
  .checked fun slot _ => .withFolio fun f hf => .refuseIf fun _ => by
    split
    · rename_i hsoft
      refine .editFolio (fun _ => hf) rfl rfl fun hg => (Folio.good_iff _).mpr
        ⟨hg.bounded.resumed (.inl rfl), fun _ => ?_, by simp [Folio.reactivated], by simp [Folio.reactivated]⟩
      exact le_trans hsoft (by exact_mod_cast hg.bounded.soft)
    · rename_i hsoft
      split
      · rename_i hhard
        exact .editFolio (fun _ => hf) rfl rfl fun hg => (Folio.good_iff _).mpr
          ⟨hg.bounded.resumed (.inr rfl), fun _ => hhard, fun _ => not_le.mp hsoft, by simp [Folio.reactivated]⟩
      · exact .refl s

theorem decideSetLimits_accounts (body : List Byte) (s : State) : KeepsAccounts s (decideSetLimits body s).state :=
  .checked fun q hq => .withFolio fun f hf => .refuseIf fun hle => by
    obtain ⟨hhard, hallow⟩ := readSetLimits_range hq
    refine .storeReevaluated hf rfl rfl fun hg => ?_
    exact
      { hg.bounded with
        soft := not_lt.mp hle
        hard := hhard
        allowance := hallow
        grace := by
          show (if f.state = .active then q.allowance else min f.grace q.allowance) ≤ q.allowance
          split
          · exact le_refl _
          · exact Nat.min_le_right _ _ }

/-- A host posting that keeps the balance in its range keeps the folio within its bounds (R99, R116, R117). -/
theorem hostPosting_accounts {slot : Nat} {f : Folio} {balance : Int} {spend : Nat} {leaves : Bool}
    (hf : s.folio slot = some f)
    (hb : leaves = false → f.good → -1000000000 ≤ balance ∧ balance ≤ 1000000000)
    (hs : f.good → spend ≤ spendTop) :
    KeepsAccounts s (hostPosting slot f { f with balance := balance, spend := spend } leaves s).state :=
  .refuseIf fun hopen => .refuseIf fun hrange => .storeReevaluated hf rfl rfl fun hg =>
    { hg.bounded with
      balance := hb (Bool.not_eq_true _ ▸ hrange) hg
      spend := hs hg
      closed := fun hc => absurd hc hopen }

theorem decidePayment_accounts (body : List Byte) (s : State) : KeepsAccounts s (decidePayment body s).state :=
  .checked fun q _ => .withFolio fun f hf =>
    hostPosting_accounts hf
      (fun hlow hg => by
        have := hg.bounded.balance
        simp only [tooLow, decide_eq_false_iff_not] at hlow
        omega)
      fun hg => hg.bounded.spend

theorem decideRefund_accounts (body : List Byte) (s : State) : KeepsAccounts s (decideRefund body s).state :=
  .checked fun q _ => .withFolio fun f hf =>
    hostPosting_accounts hf
      (fun hlow hg => by
        have := hg.bounded.balance
        simp only [tooLow, decide_eq_false_iff_not] at hlow
        omega)
      fun hg => (Nat.sub_le _ _).trans hg.bounded.spend

theorem decideAdjustment_accounts (body : List Byte) (s : State) : KeepsAccounts s (decideAdjustment body s).state :=
  .checked fun q _ => .withFolio fun f hf =>
    hostPosting_accounts hf
      (fun hhigh hg => by
        have := hg.bounded.balance
        simp only [tooHigh, decide_eq_false_iff_not] at hhigh
        omega)
      fun _ => addSpend_le _ _

theorem decideAddPrepaid_accounts (body : List Byte) (s : State) : KeepsAccounts s (decideAddPrepaid body s).state :=
  .checked fun q _ => .withFolio fun f hf => .refuseIf fun _ =>
    .editFolio (fun _ => hf) rfl rfl fun hg => by
      obtain ⟨hb, hset⟩ := f.good_iff.mp hg
      exact (Folio.good_iff _).mpr
        ⟨{ hb with prepaid := Nat.min_le_right _ _ }, hset.within, hset.graced, hset.held⟩

/-! ### Tabs -/

theorem releaseTab_eq {entry : Nat} {t : Tab} {f : Folio} (h : s.folio t.folio = some f) :
    releaseTab entry t s = report .tabs (storeReevaluated t.folio (f.released t.hold) (freeTab entry s)) := by
  have h' : (freeTab entry s).folio t.folio = some f := h
  simp only [releaseTab, h']

/-- The end of an open tab with nothing posted (R148, R152 to R154). -/
theorem releaseTab_accounts {entry : Nat} {t : Tab} (ht : (entry, t) ∈ s.tabs.entries) :
    KeepsAccounts s (releaseTab entry t s) := by
  cases hf : s.folio t.folio with
  | some f =>
    rw [releaseTab_eq hf]
    exact (KeepsAccounts.closeTab ht fun hs => ⟨f, hf, rfl, rfl, by
      obtain ⟨-, -, hagree, -⟩ := hs
      exact (hagree _ f hf).1.bounded.released _⟩).thenQuiet (report_ledger _ _) rfl
  | none =>
    have hbad : ¬ s.foliosGood := fun hs => by
      have hsec := (State.foliosGood_iff s).mp hs
      exact hsec.inUse entry t (Table.find_of_mem hsec.tabsWf ht) hf
    have hf' : (freeTab entry s).folio t.folio = none := hf
    refine ⟨fun hs => absurd hs hbad, fun hs => ?_⟩
    rw [State.tabsGood_iff] at hs ⊢
    obtain ⟨hw, hn, ho⟩ := hs
    simp only [releaseTab, hf']
    exact ⟨hw, hn.drop entry, ho.drop entry⟩

theorem expireTab_accounts (entry : Nat) (s : State) : KeepsAccounts s (expireTab entry s) := by
  unfold expireTab
  split
  · rename_i t ht
    split
    · exact (releaseTab_accounts (Table.mem_of_find ht)).thenQuiet (raise_ledger _ _) rfl
    · exact .refl s
  · exact .refl s

theorem decideHostVoidTab_accounts (body : List Byte) (s : State) :
    KeepsAccounts s (decideHostVoidTab body s).state :=
  .checked fun _ _ => by
    split
    · exact .refl s
    · exact releaseTab_accounts (tab_mem ‹_›)

theorem decideVoidTab_accounts (e : TerminalEntry) (f : Frame) (s : State) :
    KeepsAccounts s (decideVoidTab e f s).state := by
  unfold decideVoidTab
  split
  · exact .refl s
  · split
    · exact .refl s
    · exact releaseTab_accounts (tab_mem ‹_›)

end

end Sys2Proof.Machine
end

section
/-! O9: the purchases, the requests of the terminals, and every step. -/

namespace Sys2Proof.Machine

/-! ### The limit stage -/

theorem effectiveLimits_le (s : State) (f : Folio) (c : Category) :
    (effectiveLimits s f c).1 ≤ f.soft ∧ (effectiveLimits s f c).2 ≤ f.hard := by
  unfold effectiveLimits
  split
  · exact ⟨Nat.min_le_left _ _, Nat.min_le_left _ _⟩
  · exact ⟨le_refl _, le_refl _⟩

/-- What the limit stage approves adds nothing to the balance, or stays within the greater of its limits (R135). -/
theorem limitStage_room {x : Int} {e soft hard grace top : Nat} (h : limitStage x e soft hard grace ≠ .deny)
    (hs : soft ≤ top) (hh : hard ≤ top) : e = 0 ∨ x + e ≤ top := by
  unfold limitStage at h
  split at h
  · exact .inl ‹_›
  · split at h
    · exact .inr (by omega)
    · split at h
      · exact .inr (by omega)
      · exact absurd rfl h

/-- What the limit stage of a close approves, and that it gives no grace on a SUSPENDED folio (R149). -/
theorem closeStage_room {f : Folio} {x : Int} {e soft hard top : Nat} (h : closeStage f x e soft hard ≠ .deny)
    (hs : soft ≤ top) (hh : hard ≤ top) : e = 0 ∨ x + e ≤ top := by
  unfold closeStage at h
  split at h
  · unfold suspendedStage at h
    split at h
    · rename_i hx
      exact hx.imp_right fun hx => by omega
    · exact absurd rfl h
  · exact limitStage_room h hs hh

theorem closeStage_suspended {f : Folio} {x : Int} {e soft hard : Nat} (h : f.state = .suspended) :
    closeStage f x e soft hard = suspendedStage x e soft := by
  rw [closeStage, if_pos h]

theorem closeStage_grace {f : Folio} {x : Int} {e soft hard : Nat} (h : closeStage f x e soft hard = .grace) :
    f.state ≠ .suspended := by
  intro hs
  rw [closeStage_suspended hs, suspendedStage] at h
  split at h <;> cases h

/-- A folio that a purchase passes is ACTIVE or GRACE (R129). -/
theorem purchaseRefusal_state {r : Record} {alcohol : Bool} {v : Venue} {f : Folio}
    (h : purchaseRefusal r alcohol v f = none) : f.state = .active ∨ f.state = .grace := by
  unfold purchaseRefusal at h
  split at h
  · cases h
  · split at h
    · cases h
    · split at h
      · cases h
      · unfold folioRefusal at h
        cases hs : f.state with
        | active => exact .inl rfl
        | grace => exact .inr rfl
        | suspended | closed => simp [hs] at h

section
variable {s : State}

/-! ### CHARGE -/

theorem declineLimit_accounts {slot : Nat} {f : Folio} (x : Int) (e : Nat)
    (h : s.foliosGood → s.folio slot = some f) : KeepsAccounts s (declineLimit slot f x e s) := by
  unfold declineLimit
  split
  · rename_i hg
    have hput : KeepsAccounts s (s.putFolio slot (f.suspendedFor .limit)) :=
      .editFolio h rfl rfl fun hgood => hgood.limitDeclined hg.1
    exact hput.thenQuiet (raise_ledger _ _) rfl
  · exact .refl s

/-- A posting that the limit stage approved (R107, R135). -/
theorem postCharge_accounts {slot folio : Nat} {f : Folio} {g : Figures} {graced : Bool} (h : s.folio folio = some f)
    (hstate : f.state = .active ∨ f.state = .grace) (hroom : f.good → g.e = 0 ∨ f.exposure + g.e ≤ f.hard) :
    KeepsAccounts s (postCharge slot folio f g graced s) := by
  have hpost : KeepsAccounts s (storeReevaluated folio (f.posted g graced) s) :=
    .storeReevaluated h (by simp) (by simp) fun hg =>
      hg.bounded.posted
        (by
          have h1 := hg.bounded.balance
          have h2 := hg.bounded.hard
          have h3 := hroom hg
          simp only [Folio.exposure] at h3
          omega)
        (by rcases hstate with h | h <;> simp [h]) (fun _ => by rcases hstate with h | h <;> simp [h])
  unfold postCharge
  dsimp only
  split
  · exact postToRecord_accounts _ _ _
  · exact hpost.trans (postToRecord_accounts _ _ _)

theorem computeCharge_accounts {slot : Nat} {r : Record} {f : Folio} (amount : Nat) (flags : ItemFlags) (v : Venue)
    (message : Option Nat) (h : s.folio r.folio = some f) (hstate : f.state = .active ∨ f.state = .grace) :
    KeepsAccounts s (computeCharge slot r amount flags v f message s).2.2 := by
  obtain ⟨hsoft, hhard⟩ := effectiveLimits_le s f v.category
  unfold computeCharge
  dsimp only
  split
  · exact .refl s
  · dsimp only
    have hroom {e : Nat} (ha : limitStage f.exposure e (effectiveLimits s f v.category).1
        (effectiveLimits s f v.category).2 f.grace ≠ .deny) (hg : f.good) : e = 0 ∨ f.exposure + e ≤ f.hard :=
      limitStage_room ha (hsoft.trans hg.bounded.soft) hhard
    split
    · exact declineLimit_accounts _ _ fun _ => h
    · rename_i ha
      exact postCharge_accounts h hstate (hroom (by simp [ha]))
    · rename_i ha
      exact postCharge_accounts h hstate (hroom (by simp [ha]))

theorem decideCharge_accounts (p : Port) (e : TerminalEntry) (f : Frame) (s : State) :
    KeepsAccounts s (decideCharge p e f s).state := by
  unfold decideCharge
  dsimp only
  split
  · exact .refl s
  · exact .refl s
  · split
    · rename_i slot r hl
      have h1 : KeepsAccounts s (consumeMessage slot r s) := consumeMessage_accounts (lookup_found hl)
      split
      · exact h1
      · rename_i hp
        refine h1.trans (computeCharge_accounts _ _ _ _ ?_ (purchaseRefusal_state hp))
        rw [r.shown_sameCounts.folio, State.folio, consumeMessage_folios]
        exact folioOf_inUse hp
    · exact .quiet (notFound_ledger _ _ _ _ _ _) (notFound_tabs _ _ _ _ _ _)

/-! ### OPEN_TAB -/

/-- The gate of an OPEN_TAB passes a hold in its range alone (R144). -/
theorem purchaseGate_range {rangeGood : Bool} {venue : Nat} (h : purchaseGate rangeGood venue s = none) :
    rangeGood = true := by
  simp only [purchaseGate, check_none_iff] at h
  obtain ⟨-, hr, -⟩ := h
  simpa using hr

theorem decideOpenTab_accounts (p : Port) (e : TerminalEntry) (f : Frame) (s : State) :
    KeepsAccounts s (decideOpenTab p e f s).state := by
  unfold decideOpenTab
  dsimp only
  split
  · exact .refl s
  · rename_i hgate
    have hhold := holdRange_iff.mp (purchaseGate_range hgate)
    split
    · rename_i slot r hl
      split
      · exact .refl s
      · rename_i hp
        split
        · exact .refl s
        · exact .refl s
        · rename_i entry hopen hfree
          obtain ⟨-, hentry, hnone, -⟩ := Table.lowestFree_spec hfree
          simp only [openTabRefusal, check_none_iff, not_le] at hopen
          obtain ⟨hfour, -⟩ := hopen
          have hstate := purchaseRefusal_state hp
          exact .openTab (hentry.trans_eq (Nat.zero_add _)) hnone (folioOf_inUse hp) hfour
            (by rcases hstate with h | h <;> simp [h]) hhold rfl (lookup_found hl) rfl
    · exact .quiet (notFound_ledger _ _ _ _ _ _) (notFound_tabs _ _ _ _ _ _)

/-! ### CLOSE_TAB -/

/-- The close of an open tab whose limit stage approved the sum: the hold is released first, so that the balance has
room for the part that is posted to it (R149, R150). -/
theorem postClose_accounts {entry : Nat} {t : Tab} {f : Folio} {g : Figures} {graced : Bool}
    (ht : (entry, t) ∈ s.tabs.entries) (h : s.foliosGood → s.folio t.folio = some f)
    (hroom : f.good → g.e = 0 ∨ f.exposure - t.hold + g.e ≤ f.hard) (hgraced : graced = true → f.state ≠ .suspended) :
    KeepsAccounts s (postClose entry t f g graced s) := by
  have hclose : KeepsAccounts s
      (storeReevaluated t.folio ((f.released t.hold).posted g graced) (freeTab entry s)) :=
    .closeTab ht fun hs => by
      have hsec := (State.foliosGood_iff s).mp hs
      have hf := h hs
      have hentry := Table.find_of_mem hsec.tabsWf ht
      have hhold := hsec.hold_le hentry hf
      obtain ⟨hgood, -⟩ := hsec.agree _ f hf
      obtain ⟨-, -, -, htabs⟩ := hs
      obtain ⟨-, f', hf', hopen⟩ := htabs entry t hentry
      obtain rfl := Option.some.inj (hf.symm.trans hf')
      refine ⟨f, hf, by simp [Folio.released], by simp [Folio.released], ?_⟩
      refine (hgood.bounded.released t.hold).posted ?_ hopen hgraced
      have h1 := hgood.bounded.balance
      have h2 := hgood.bounded.hard
      have h3 := hroom hgood
      simp only [Folio.exposure] at h3
      simp only [Folio.released]
      omega
  exact (hclose.trans (postToRecord_accounts _ _ _)).thenQuiet (report_ledger _ _) rfl

theorem computeClose_accounts {entry : Nat} {t : Tab} {f : Folio} (amount : Nat) (flags : ItemFlags) (v : Venue)
    (r : Record) (ht : (entry, t) ∈ s.tabs.entries) (h : s.foliosGood → s.folio t.folio = some f) :
    KeepsAccounts s (computeClose entry t amount flags v r f s).state := by
  obtain ⟨hsoft, hhard⟩ := effectiveLimits_le s f v.category
  unfold computeClose
  dsimp only
  split
  · exact .refl s
  · split
    · exact .refl s
    · split
      · exact declineLimit_accounts _ _ h
      · rename_i ha
        exact postClose_accounts ht h (fun hg => closeStage_room ha (hsoft.trans hg.bounded.soft) hhard)
          fun hgr => closeStage_grace (of_decide_eq_true hgr)

theorem decideCloseTab_accounts (e : TerminalEntry) (f : Frame) (s : State) :
    KeepsAccounts s (decideCloseTab e f s).state := by
  unfold decideCloseTab
  dsimp only
  split
  · exact .refl s
  · split
    · exact .refl s
    · split
      · exact .refl s
      · rename_i entry t ht
        have hmem := tab_mem ht
        split
        · exact .refl s
        · split
          · exact releaseTab_accounts hmem
          · split
            · refine computeClose_accounts _ _ _ _ hmem fun hs => ?_
              obtain ⟨hwf, hwt, hagree, htabs⟩ := hs
              obtain ⟨-, g, hg, -⟩ := htabs entry t (Table.find_of_mem hwt hmem)
              simp [tabFolio, hg]
            · exact .refl s

/-! ### The other requests of the terminals -/

theorem decideUnlock_accounts (p : Port) (e : TerminalEntry) (f : Frame) (s : State) :
    KeepsAccounts s (decideUnlock p e f s).state := by
  unfold decideUnlock
  dsimp only
  split
  · exact consumeMessage_accounts (lookup_found ‹_›)
  · exact .quiet (notFound_ledger _ _ _ _ _ _) (notFound_tabs _ _ _ _ _ _)

theorem decideLockMode_accounts (e : TerminalEntry) (f : Frame) (s : State) :
    KeepsAccounts s (decideLockMode e f s).state := by
  unfold decideLockMode
  split
  · exact .refl s
  · dsimp only
    split <;> exact .quiet rfl rfl

theorem passEffect_accounts {slot : Nat} {r : Record} (gangway : Nat) (d : Direction) (o : Result × Option Location)
    (h : s.record slot = some r) : KeepsAccounts s (passEffect slot r gangway d o s) := by
  unfold passEffect
  dsimp only
  split
  · exact (changeLocation_accounts _ h).trans (setLastPassage_accounts _ _ _)
  · split
    · exact setLastPassage_accounts _ _ s
    · exact .refl s

theorem decideGangway_accounts (p : Port) (e : TerminalEntry) (f : Frame) (s : State) :
    KeepsAccounts s (decideGangway p e f s).state := by
  unfold decideGangway
  dsimp only
  split
  · exact .refl s
  · split
    · exact .refl s
    · split
      · have hr := lookup_found ‹_›
        exact (consumeMessage_accounts hr).trans (passEffect_accounts _ _ _ (consumeMessage_record hr))
      · exact .quiet (notFound_ledger _ _ _ _ _ _) (notFound_tabs _ _ _ _ _ _)

theorem decideMusterTap_accounts (p : Port) (e : TerminalEntry) (f : Frame) (s : State) :
    KeepsAccounts s (decideMusterTap p e f s).state := by
  unfold decideMusterTap
  dsimp only
  split
  · exact .refl s
  · split
    · rename_i slot r hl
      have hr := lookup_found hl
      have h1 : KeepsAccounts s (consumeMessage slot r s) := consumeMessage_accounts hr
      split
      · have hcheck : KeepsAccounts (consumeMessage slot r s)
            ((consumeMessage slot r s).putRecord slot (r.shown.checkedIn e.boundTo)) :=
          .editRecord (consumeMessage_record hr) rfl
        exact (h1.trans hcheck).trans (.ofRecords rfl rfl id fun _ k x hx _ => ⟨x, hx, rfl⟩)
      · exact h1
    · exact .quiet (notFound_ledger _ _ _ _ _ _) (notFound_tabs _ _ _ _ _ _)

theorem decideLookup_accounts (p : Port) (e : TerminalEntry) (f : Frame) (s : State) :
    KeepsAccounts s (decideLookup p e f s).state := by
  unfold decideLookup
  dsimp only
  split
  · exact .refl s
  · exact .quiet (notFound_ledger _ _ _ _ _ _) (notFound_tabs _ _ _ _ _ _)

end

/-! ### Every command -/

theorem sweep_accounts (s : State) : KeepsAccounts s (sweep s) := by
  have hlinks : KeepsAccounts s (sweepLinks s) := .forEach (fun p s => .quiet (by simp) (by simp)) _ s
  have hres := hlinks.trans (.forEach expireReservation_accounts (Table.keys (sweepLinks s).store.records) _)
  have htabs := hres.trans (.forEach expireTab_accounts (Table.keys (sweepLinks s).tabs.entries) _)
  have hports := htabs.trans
    (.forEach (fun p s => .quiet (expireSilence_ledger s p) (expireSilence_tabs s p)) (List.finRange 6) _)
  exact hports.thenQuiet ((endHoldoff_ledger _).trans ((endPulse_ledger _).trans (expireWatchdog_ledger _)))
    ((endHoldoff_tabs _).trans ((endPulse_tabs _).trans (expireWatchdog_tabs _)))

theorem advance_accounts (s : State) : KeepsAccounts s (advance s) := by
  rcases advance_cases s with ⟨-, h⟩ | ⟨-, h⟩ <;> rw [h]
  · exact .quiet rfl rfl
  · exact (KeepsAccounts.quiet rfl rfl : KeepsAccounts s (tick s)).trans (rolloverTest_accounts _)

/-- The tables after a power-on reset are empty (R191). -/
theorem powerOn_accounts (s : State) : KeepsAccounts s { State.reset with pending := s.pending } where
  folios _ := (State.foliosGood_iff _).mpr .empty
  tabs _ := (State.tabsGood_iff _).mpr
    ⟨rfl, ⟨rfl, ⟨le_refl _, by simp [State.reset]⟩, List.nodup_nil, fun _ he => absurd he List.not_mem_nil⟩,
      fun _ he => absurd he List.not_mem_nil⟩

theorem exec_accounts {i : Instr} {s t : State} (h : exec i s = .next t) : KeepsAccounts s t := by
  cases i
  case writeDiscarded => exact .quiet (writeDiscarded_ledger h) (writeDiscarded_tabs h)
  case readReply => exact .quiet (readReply_ledger h) (readReply_tabs h)
  case runTimeAdvance =>
    obtain rfl : advance (sweep s) = t := Host.Outcome.next.inj h
    exact (sweep_accounts s).trans (advance_accounts _)
  all_goals cases h
  case frameArrival p => exact .quiet (settle_ledger s p) (settle_tabs s p)
  case interByteGap p => exact .quiet (endGap_ledger s p) (endGap_tabs s p)
  case receivedByte p b g => exact .quiet (receive_ledger s p b g) (receive_tabs s p b g)
  case portSilenceExpiry p => exact .quiet (expireSilence_ledger s p) (expireSilence_tabs s p)
  case unknownRequestKind p => exact .quiet (takeUnknownKind_ledger s p) (takeUnknownKind_tabs s p)
  case unknownKind kind body => exact .quiet (takeUnlisted_ledger s kind body) (takeUnlisted_tabs s kind body)
  case serverWatchdogExpiry => exact .quiet (expireWatchdog_ledger s) (expireWatchdog_tabs s)
  case pulseEnd => exact .quiet (endPulse_ledger s) (endPulse_tabs s)
  case holdoffEnd => exact .quiet (endHoldoff_ledger s) (endHoldoff_tabs s)
  case powerOnReset => exact powerOn_accounts s
  case reservationExpiry slot => exact expireReservation_accounts slot s
  case tabExpiry entry => exact expireTab_accounts entry s
  case rollover => exact rolloverTest_accounts s
  case ping => exact .takeRequest _ _ _ (fun _ _ s => .refl s) s
  case unlock p => exact .takeRequest _ _ _ (decideUnlock_accounts p) s
  case lockMode => exact .takeRequest _ _ _ decideLockMode_accounts s
  case charge p => exact .takeRequest _ _ _ (decideCharge_accounts p) s
  case openTab p => exact .takeRequest _ _ _ (decideOpenTab_accounts p) s
  case closeTab => exact .takeRequest _ _ _ decideCloseTab_accounts s
  case voidTab => exact .takeRequest _ _ _ decideVoidTab_accounts s
  case gangway p => exact .takeRequest _ _ _ (decideGangway_accounts p) s
  case musterTap p => exact .takeRequest _ _ _ (decideMusterTap_accounts p) s
  case lookup p => exact .takeRequest _ _ _ (decideLookup_accounts p) s
  case issueRecord body => exact .manage _ _ (decideIssue_accounts body) s
  case reserveCredential body => exact .manage _ _ (decideReserve_accounts body) s
  case confirmCredential body => exact .manage _ _ (decideConfirm_accounts body) s
  case cancelCredential body => exact .manage _ _ (decideCancel_accounts body) s
  case revokeCredential body => exact .manage _ _ (decideRevoke_accounts body) s
  case removeRevoked body => exact .manage _ _ (decideRemoveRevoked_accounts body) s
  case holdRecord body => exact .manage _ _ (decideHold_accounts body) s
  case releaseRecord body => exact .manage _ _ (decideRelease_accounts body) s
  case retireRecord body => exact .manage _ _ (decideRetire_accounts body) s
  case setMessage | setWatch | setFinal | setTier | setCap | setStation =>
    exact .manage _ _ (fun _ => .editRequest (by exact fun _ _ => rfl)) s
  case setCabinZones body =>
    exact .manage _ _ (fun _ => .quietRequest fun q => ⟨loadZones_ledger _ q.1 q.2, loadZones_tabs _ q.1 q.2⟩) s
  case assignCabin body => exact .manage _ _ (decideAssignCabin_accounts body) s
  case vacateCabin body => exact .manage _ _ (decideVacateCabin_accounts body) s
  case setRole body => exact .manage _ _ (decideSetRole_accounts body) s
  case setLocation body => exact .manage _ _ (decideSetLocation_accounts body) s
  case setTime body => exact .manage _ _ (decideSetTime_accounts body) s
  case setPhase body => exact .manage _ _ (decideSetPhase_accounts body) s
  case endMuster body => exact .manage _ _ (decideEndMuster_accounts body) s
  case openFolio body => exact .manage _ _ (decideOpenFolio_accounts body) s
  case closeFolio body => exact .manage _ _ (decideCloseFolio_accounts body) s
  case reopenFolio body => exact .manage _ _ (decideReopenFolio_accounts body) s
  case suspendFolio body => exact .manage _ _ (decideSuspendFolio_accounts body) s
  case resumeFolio body => exact .manage _ _ (decideResumeFolio_accounts body) s
  case setLimits body => exact .manage _ _ (decideSetLimits_accounts body) s
  case postPayment body => exact .manage _ _ (decidePayment_accounts body) s
  case postRefund body => exact .manage _ _ (decideRefund_accounts body) s
  case postAdjustment body => exact .manage _ _ (decideAdjustment_accounts body) s
  case addPrepaid body => exact .manage _ _ (decideAddPrepaid_accounts body) s
  case linkRecord body => exact .manage _ _ (decideLink_accounts body) s
  case hostVoidTab body => exact .manage _ _ (decideHostVoidTab_accounts body) s
  case setTerminalEnabled body =>
    exact .manage _ _ (fun _ => .checked fun _ _ => .refuseIf fun _ => .quiet rfl rfl) s
  case openService body =>
    exact .manage _ _ (fun _ => .checked fun _ _ => .refuseIf fun _ => .refuseIf fun _ => .quiet rfl rfl) s
  case resumeService body => exact .manage _ _ (fun _ => .checked fun _ _ => .refuseIf fun _ => .quiet rfl rfl) s
  case serviceReset body =>
    exact .manage _ _ (fun _ => .quietRequest fun _ => ⟨resetService_ledger _, resetService_tabs _⟩) s
  case setSetting body => exact .manage _ _ (fun s => .checked fun v _ => applySetting_accounts v s) s
  case readNotices body =>
    exact .manage _ _ (fun s => .quietRequest fun _ => by cases s.settings.ackMode <;> exact ⟨rfl, rfl⟩) s
  case readRecord body =>
    exact .manage _ _ (fun s => .quietRequest fun slot => by cases s.record slot <;> exact ⟨rfl, rfl⟩) s
  case readFolio body =>
    exact .manage _ _ (fun s => .quietRequest fun slot => by cases s.folio slot <;> exact ⟨rfl, rfl⟩) s
  case readTab body =>
    exact .manage _ _ (fun s => .quietRequest fun n => by cases s.tab n <;> exact ⟨rfl, rfl⟩) s
  case findCredential | readRevoked | readCabin | readRole | readCounts | scan | readTime | readMuster | readVenue
      | readTier | listTabs | readTerminals | readSettings | readService | setCabinMode | loadRole | setClassPolicy
      | readWatch | loadVenue | setVenueOpen | loadTier | loadTerminal | portReset | readPort | ackNotices =>
    exact .manage _ _ (fun _ => .quietRequest fun _ => ⟨rfl, rfl⟩) s

theorem step_accounts {s t : State} (h : step s = .next t) : KeepsAccounts s t := by
  unfold step at h
  split at h
  · cases h
    exact .refl s
  · rename_i c rest _
    have hrest : KeepsAccounts s { s with pending := rest } := .quiet rfl rfl
    exact hrest.trans (exec_accounts h)

/-- Settles O9: every command keeps both laws. Re-evaluation settles each folio that is rewritten within its bounds, the
hold of a tab comes and goes with its entry, a number found by the search is held by no open tab, and a record that opens
a tab neither moves to another folio nor retires. -/
theorem stepKeepsFoliosWithTabs : Obligations.StepKeepsFoliosWithTabs :=
  ⟨fun _ _ hs h => (step_accounts h).folios hs, fun _ _ hs h => (step_accounts h).tabs hs⟩

end Sys2Proof.Machine
end

section
/-! The requests of the host on the folios: O36, O37, O38 and O39. -/

namespace Sys2Proof.Machine

/-! ### Re-evaluation -/

section
variable {f : Folio}

theorem Folio.reevaluated_active (h : f.state = .active) :
    f.reevaluated = if f.hard < f.exposure then (f.suspendedFor .ceiling, true) else (f, false) := by
  simp only [Folio.reevaluated, h, gt_iff_lt]

theorem Folio.reevaluated_grace (h : f.state = .grace) :
    f.reevaluated =
      if f.exposure ≤ f.soft then (f.reactivated, false)
      else if f.exposure ≤ f.hard then (f, false)
      else (f.suspendedFor .ceiling, true) := by
  simp only [Folio.reevaluated, h]

theorem Folio.reevaluated_suspended (h : f.state = .suspended) :
    f.reevaluated =
      if f.resumeMode = .auto ∧ f.cause ≠ some .host ∧ f.exposure ≤ f.soft then (f.reactivated, false)
      else (f, false) := by
  simp only [Folio.reevaluated, h]

theorem Folio.reevaluated_closed (h : f.state = .closed) : f.reevaluated = (f, false) := by
  simp only [Folio.reevaluated, h]

end

theorem storeReevaluated_entering {slot : Nat} {f : Folio} {s : State} (h : f.reevaluated.2 = true) :
    storeReevaluated slot f s = raise .folioSuspended (s.putFolio slot f.reevaluated.1) := by
  simp only [storeReevaluated, h, if_true]

theorem storeReevaluated_staying {slot : Nat} {f : Folio} {s : State} (h : f.reevaluated.2 = false) :
    storeReevaluated slot f s = s.putFolio slot f.reevaluated.1 := by
  simp only [storeReevaluated, h, Bool.false_eq_true, if_false]

/-! ### Requests that name a folio -/

/-- A request whose body reads as `a` and names a folio in use, decided by the same effect at whatever management
port. -/
theorem manage_folio {α : Type} {s u : State} {f : Folio} {kind : Byte} {body reply : List Byte} {code : ReplyCode}
    {read : List Byte → Parsed α} {a : α} {slot : α → Nat} {run : α → Folio → State → Decision} (h : s.ready)
    (hb : body.length ≤ 1024) (ha : read body = .good a) (hf : s.folio (slot a) = some f)
    (hd : ∀ m, run a f (s.setManagement m) = { code := code, body := reply, state := u.setManagement m })
    (hm : u.management = s.management) (hw : u.settings.watchdogCode = s.settings.watchdogCode)
    (hc : u.clock.runTime = s.clock.runTime) :
    (.next (manage kind body (fun t => checked (read body) t fun q => withFolio (slot q) t fun x => run q x t) s) :
        Host.Outcome State Fault Refusal) = .next (u.replied kind body code reply) :=
  manage_checked h hb ha (fun m => (withFolio_some (s := s.setManagement m) hf).trans (hd m)) hm hw hc

section
variable {s u : State} {slot : Nat} {f : Folio} {kind : Byte} {reply : List Byte} {code : ReplyCode}
  {run : Nat → Folio → State → Decision}

/-- A request whose body is a folio slot alone. -/
theorem manage_folioSlot (h : s.ready) (hslot : slot < 8192) (hf : s.folio slot = some f)
    (hd : ∀ m, run slot f (s.setManagement m) = { code := code, body := reply, state := u.setManagement m })
    (hm : u.management = s.management) (hw : u.settings.watchdogCode = s.settings.watchdogCode)
    (hc : u.clock.runTime = s.clock.runTime) :
    (.next (manage kind (bytes 2 slot)
        (fun t => checked (readFolioSlot (bytes 2 slot)) t fun q => withFolio q t fun x => run q x t) s) :
        Host.Outcome State Fault Refusal) = .next (u.replied kind (bytes 2 slot) code reply) :=
  manage_folio (slot := id) h (by simp) (readFolioSlot_body hslot) hf hd hm hw hc

end

/-! ### O36 -/

section
variable {s : State} {slot : Nat} {f : Folio}

/-- SUSPEND_FOLIO suspends a folio that the host has not suspended, and raises nothing (R113). -/
theorem exec_suspendFolio (h : s.ready) (hslot : slot < 8192) (hf : s.folio slot = some f)
    (hopen : ¬ (f.state = .closed ∨ (f.state = .suspended ∧ f.cause = some .host))) :
    exec (.suspendFolio (bytes 2 slot)) s =
      .next ((s.putFolio slot (f.suspendedFor .host)).replied 0x43 (bytes 2 slot) .done (folioStateBytes f)) :=
  manage_folioSlot h hslot hf (fun _ => if_neg hopen) rfl rfl rfl

theorem exec_suspendFolio_refused (h : s.ready) (hslot : slot < 8192) (hf : s.folio slot = some f)
    (hshut : f.state = .closed ∨ (f.state = .suspended ∧ f.cause = some .host)) :
    exec (.suspendFolio (bytes 2 slot)) s = .next (s.replied 0x43 (bytes 2 slot) .wrongState []) :=
  manage_folioSlot (u := s) h hslot hf (fun _ => if_pos hshut) rfl rfl rfl

end

/-- Settles O36: the cases of the re-evaluation, and a suspension by the host, which leaves the notices as they were. -/
theorem reevaluationByExposure : Obligations.ReevaluationByExposure := by
  refine ⟨fun f => ⟨fun h hx => ?_, fun h hx => ?_, fun h hx => ?_, fun h hs hh => ?_, fun h hs hh => ?_,
    fun h hc hm hx => ?_, fun h hx => ?_, Folio.reevaluated_closed⟩,
    fun s slot f => ⟨storeReevaluated_entering, storeReevaluated_staying, rfl, fun hready hslot hf t ht => ?_⟩⟩
  · rw [Folio.reevaluated_active h, if_pos hx]
    rfl
  · rw [Folio.reevaluated_active h, if_neg (not_lt.mpr hx)]
  · rw [Folio.reevaluated_grace h, if_pos hx]
    rfl
  · rw [Folio.reevaluated_grace h, if_neg (not_le.mpr hs), if_pos hh]
  · rw [Folio.reevaluated_grace h, if_neg (not_le.mpr hs), if_neg (not_le.mpr hh)]
    rfl
  · have hhost : f.cause ≠ some .host := by rcases hc with hc | hc <;> simp [hc]
    rw [Folio.reevaluated_suspended h, if_pos ⟨hm, hhost, hx⟩]
    rfl
  · rw [Folio.reevaluated_suspended h, if_neg]
    rintro ⟨hm, hhost, hle⟩
    rcases hx with hx | hx | hx
    · exact absurd hle (not_le.mpr hx)
    · simp [hx] at hm
    · exact hhost hx
  · by_cases hshut : f.state = .closed ∨ (f.state = .suspended ∧ f.cause = some .host)
    · rw [exec_suspendFolio_refused hready hslot hf hshut] at ht
      exact Host.Outcome.next.inj ht ▸ rfl
    · rw [exec_suspendFolio hready hslot hf hshut] at ht
      exact Host.Outcome.next.inj ht ▸ rfl

/-! ### O37 -/

theorem lowestFree_folio {s : State} {slot : Nat} (h : s.lowestFreeFolio slot) :
    s.folios.lowestFree Config.folioSlots 0 = some slot := by
  obtain ⟨hlt, hfree, hlow⟩ := h
  exact Table.lowestFree_eq (Nat.zero_le _) (by omega) hfree fun k _ hk => hlow k hk

section
variable {s : State} {slot : Nat} {f : Folio}

/-- OPEN_FOLIO into the lowest-numbered FREE slot (R110). -/
theorem exec_openFolio {soft hard allowance : Nat} {m : ResumeMode} (h : s.ready) (hfree : s.lowestFreeFolio slot)
    (hs : soft ≤ hard) (hh : hard ≤ 100000000) (ha : allowance < 256) :
    exec (.openFolio (openFolioBody soft hard allowance m)) s =
      .next ((s.putFolio slot (openedFolio ⟨soft, hard, min allowance 15, m⟩)).replied 0x40
        (openFolioBody soft hard allowance m) .done (bytes 2 slot ++ byte (min allowance 15))) :=
  manage_checked h (by simp [openFolioBody]) (readOpenFolio_body hs hh ha)
    (fun _ => by simp only [State.setManagement_folios, lowestFree_folio hfree]; rfl) rfl rfl rfl

theorem closeRefusal_of_firstRefusal {code : ReplyCode}
    (h : firstRefusal
      [(f.state = .closed, .wrongState), (0 < f.openTabs, .tabsOpen), (f.balance ≠ 0, .stillOver)] code) :
    closeRefusal f = some code := by
  unfold closeRefusal
  rcases h with ⟨h1, rfl⟩ | ⟨h1, ⟨h2, rfl⟩ | ⟨h2, ⟨h3, rfl⟩ | ⟨-, h⟩⟩⟩
  · rw [if_pos h1]
  · rw [if_neg h1, if_pos h2]
  · rw [if_neg h1, if_neg h2, if_pos h3]
  · exact h.elim

theorem closeRefusal_none (hs : f.state ≠ .closed) (ho : f.openTabs = 0) (hb : f.balance = 0) :
    closeRefusal f = none := by
  simp [closeRefusal, hs, ho, hb]

/-- CLOSE_FOLIO past its checks: an empty folio becomes FREE, another CLOSED (R111). -/
theorem exec_closeFolio (h : s.ready) (hslot : slot < 8192) (hf : s.folio slot = some f)
    (hnone : closeRefusal f = none) :
    (f.members = 0 → exec (.closeFolio (bytes 2 slot)) s =
      .next ((s.dropFolio slot).replied 0x41 (bytes 2 slot) .done (bytes 4 f.prepaid ++ [0x00]))) ∧
    (f.members ≠ 0 → exec (.closeFolio (bytes 2 slot)) s =
      .next ((s.putFolio slot { f with state := .closed, cause := none, prepaid := 0 }).replied 0x41 (bytes 2 slot)
        .done (bytes 4 f.prepaid ++ [0x04]))) :=
  ⟨fun hm => manage_folioSlot h hslot hf (fun _ => by simp only [hnone, hm, if_true]; rfl) rfl rfl rfl,
    fun hm => manage_folioSlot h hslot hf (fun _ => by simp only [hnone, hm, if_false]; rfl) rfl rfl rfl⟩

theorem resumeBytes_active (h : f.state = .active) :
    resumeBytes f = [0x01] ++ signedBytes 4 f.exposure ++ byte f.grace := by
  rw [resumeBytes, h]
  rfl

theorem resumeBytes_grace (h : f.state = .grace) :
    resumeBytes f = [0x02] ++ signedBytes 4 f.exposure ++ byte f.grace := by
  rw [resumeBytes, h]
  rfl

/-- RESUME_FOLIO of a SUSPENDED folio, by its exposure (R114). -/
theorem exec_resumeFolio (h : s.ready) (hslot : slot < 8192) (hf : s.folio slot = some f) (hs : f.state = .suspended) :
    (f.exposure ≤ f.soft → exec (.resumeFolio (bytes 2 slot)) s =
      .next ((s.putFolio slot f.reactivated).replied 0x44 (bytes 2 slot) .done
        ([0x01] ++ signedBytes 4 f.exposure ++ byte f.allowance))) ∧
    (f.soft < f.exposure → f.exposure ≤ f.hard → exec (.resumeFolio (bytes 2 slot)) s =
      .next ((s.putFolio slot { f.reactivated with state := .grace }).replied 0x44 (bytes 2 slot) .done
        ([0x02] ++ signedBytes 4 f.exposure ++ byte f.allowance))) ∧
    (f.soft < f.exposure → f.hard < f.exposure → exec (.resumeFolio (bytes 2 slot)) s =
      .next (s.replied 0x44 (bytes 2 slot) .stillOver [])) := by
  have hsus : ¬ f.state ≠ .suspended := not_not.mpr hs
  have hactive := resumeBytes_active (f := f.reactivated) rfl
  have hgrace := resumeBytes_grace (f := { f.reactivated with state := .grace }) rfl
  refine ⟨fun hx => ?_, fun hx hy => ?_, fun hx hy => ?_⟩
  · exact manage_folioSlot h hslot hf
      (fun _ => (if_neg hsus).trans ((if_pos hx).trans (congrArg (done · _) hactive))) rfl rfl rfl
  · exact manage_folioSlot h hslot hf
      (fun _ => (if_neg hsus).trans ((if_neg (not_le.mpr hx)).trans ((if_pos hy).trans
        (congrArg (done · _) hgrace)))) rfl rfl rfl
  · exact manage_folioSlot (u := s) h hslot hf
      (fun _ => (if_neg hsus).trans ((if_neg (not_le.mpr hx)).trans (if_neg (not_le.mpr hy)))) rfl rfl rfl

end

/-- Settles O37: each request finds its folio, and the check that decides it is named. -/
theorem folioStateRequestsComplete : Obligations.FolioStateRequestsComplete := by
  intro s hready
  refine ⟨fun slot soft hard allowance m hfree hs hh ha => exec_openFolio hready hfree hs hh ha,
    fun slot f hslot hf => ⟨fun hs ho hb => (exec_closeFolio hready hslot hf (closeRefusal_none hs ho hb)).1,
      fun hs ho hb => (exec_closeFolio hready hslot hf (closeRefusal_none hs ho hb)).2, fun code hcode => ?_,
      fun hs => ?_, fun hs => exec_suspendFolio hready hslot hf ?_, fun hs => (exec_resumeFolio hready hslot hf hs).1,
      fun hs => (exec_resumeFolio hready hslot hf hs).2.1, fun hs => (exec_resumeFolio hready hslot hf hs).2.2⟩⟩
  · exact manage_folioSlot (u := s) hready hslot hf
      (fun _ => by simp only [closeRefusal_of_firstRefusal hcode]; rfl) rfl rfl rfl
  · exact manage_folioSlot hready hslot hf (fun _ => if_neg (not_not.mpr hs)) rfl rfl rfl
  · rcases hs with hs | hs | ⟨hs, hn⟩
    · simp [hs]
    · simp [hs]
    · simp [hs, hn]

/-! ### O38 -/

theorem storeReevaluated_folio (slot : Nat) (f : Folio) (s : State) :
    (storeReevaluated slot f s).folio slot = some f.reevaluated.1 := by
  rw [State.folio, storeReevaluated_folios, Table.find_put_same]

section
variable {s : State} {slot : Nat} {f : Folio}

/-- SET_LIMITS (R115). -/
theorem exec_setLimits {soft hard allowance : Nat} {m : ResumeMode} (h : s.ready) (hslot : slot < 8192)
    (hf : s.folio slot = some f) (hs : soft ≤ hard) (hh : hard ≤ 100000000) (ha : allowance < 256) :
    exec (.setLimits (bytes 2 slot ++ openFolioBody soft hard allowance m)) s =
      .next ((storeReevaluated slot (f.limited ⟨slot, soft, hard, min allowance 15, m⟩) s).replied 0x45
        (bytes 2 slot ++ openFolioBody soft hard allowance m) .done
        (folioStateBytes (f.limited ⟨slot, soft, hard, min allowance 15, m⟩).reevaluated.1)) := by
  refine manage_folio (slot := SetLimitsFields.folio) h (by simp [openFolioBody])
    (readSetLimits_body hslot (hs.trans hh) hh ha) hf (fun n => ?_) (by simp) (by simp) (by simp)
  rw [if_neg (not_lt.mpr hs)]
  simp only [stateBytesAt, storeReevaluated_folio, storeReevaluated_setManagement, State.setManagement_folio]
  rfl

/-- A host posting whose balance stays in its range (R116, R117). -/
theorem hostPosting_posted {posted : Folio} (hopen : f.state ≠ .closed) (m : ManagementPort) :
    hostPosting slot f posted false (s.setManagement m) =
      { code := .done, body := postingReply posted.reevaluated.1,
        state := (storeReevaluated slot posted s).setManagement m } := by
  rw [hostPosting, if_neg hopen, if_neg Bool.false_ne_true]
  simp only [postingBytes, storeReevaluated_folio, storeReevaluated_setManagement, State.setManagement_folio]
  simp [done, postingReply, folioStateBytes]

theorem hostPosting_outOfRange {posted : Folio} (hopen : f.state ≠ .closed) (m : ManagementPort) :
    hostPosting slot f posted true (s.setManagement m) = refuse .range (s.setManagement m) := by
  rw [hostPosting, if_neg hopen, if_pos rfl]

theorem tooLow_iff (b : Int) : tooLow b = true ↔ b < -1000000000 := by simp [tooLow]

theorem tooHigh_iff (b : Int) : tooHigh b = true ↔ 1000000000 < b := by simp [tooHigh]

/-- A request whose body is a folio slot and an amount in the range of a posting. -/
theorem manage_amount {u : State} {kind : Byte} {amount : Nat} {reply : List Byte} {code : ReplyCode}
    {run : Nat × Nat → Folio → State → Decision} (h : s.ready) (hslot : slot < 8192) (hf : s.folio slot = some f)
    (h1 : 1 ≤ amount) (h2 : amount ≤ 2000000000)
    (hd : ∀ m, run (slot, amount) f (s.setManagement m) = { code := code, body := reply, state := u.setManagement m })
    (hm : u.management = s.management) (hw : u.settings.watchdogCode = s.settings.watchdogCode)
    (hc : u.clock.runTime = s.clock.runTime) :
    (.next (manage kind (bytes 2 slot ++ bytes 4 amount) (fun t =>
        checked (readPosting postingTop (bytes 2 slot ++ bytes 4 amount)) t fun q =>
          withFolio q.1 t fun x => run q x t) s) : Host.Outcome State Fault Refusal) =
      .next (u.replied kind (bytes 2 slot ++ bytes 4 amount) code reply) :=
  manage_folio (slot := Prod.fst) h (by simp) (readPosting_body (top := postingTop) hslot h1 h2 (by decide)) hf hd
    hm hw hc

/-- POST_PAYMENT (R116). -/
theorem exec_postPayment {amount : Nat} (h : s.ready) (hslot : slot < 8192) (hf : s.folio slot = some f)
    (hopen : f.state ≠ .closed) (h1 : 1 ≤ amount) (h2 : amount ≤ 2000000000) :
    let posted : Folio := { f with balance := f.balance - amount }
    (tooLow (f.balance - amount) = false → exec (.postPayment (bytes 2 slot ++ bytes 4 amount)) s =
      .next ((storeReevaluated slot posted s).replied 0x46 (bytes 2 slot ++ bytes 4 amount) .done
        (postingReply posted.reevaluated.1))) ∧
    (tooLow (f.balance - amount) = true → exec (.postPayment (bytes 2 slot ++ bytes 4 amount)) s =
      .next (s.replied 0x46 (bytes 2 slot ++ bytes 4 amount) .range [])) :=
  ⟨fun hin => manage_amount h hslot hf h1 h2 (fun m => (congrArg (hostPosting slot f _ · _) hin).trans
      (hostPosting_posted hopen m)) (by simp) (by simp) (by simp),
    fun hout => manage_amount (u := s) h hslot hf h1 h2 (fun m => (congrArg (hostPosting slot f _ · _) hout).trans
      (hostPosting_outOfRange hopen m)) rfl rfl rfl⟩

/-- POST_REFUND (R116). -/
theorem exec_postRefund {amount : Nat} (h : s.ready) (hslot : slot < 8192) (hf : s.folio slot = some f)
    (hopen : f.state ≠ .closed) (h1 : 1 ≤ amount) (h2 : amount ≤ 2000000000) :
    let posted : Folio := { f with balance := f.balance - amount, spend := f.spend - amount }
    (tooLow (f.balance - amount) = false → exec (.postRefund (bytes 2 slot ++ bytes 4 amount)) s =
      .next ((storeReevaluated slot posted s).replied 0x47 (bytes 2 slot ++ bytes 4 amount) .done
        (postingReply posted.reevaluated.1))) ∧
    (tooLow (f.balance - amount) = true → exec (.postRefund (bytes 2 slot ++ bytes 4 amount)) s =
      .next (s.replied 0x47 (bytes 2 slot ++ bytes 4 amount) .range [])) :=
  ⟨fun hin => manage_amount h hslot hf h1 h2 (fun m => (congrArg (hostPosting slot f _ · _) hin).trans
      (hostPosting_posted hopen m)) (by simp) (by simp) (by simp),
    fun hout => manage_amount (u := s) h hslot hf h1 h2 (fun m => (congrArg (hostPosting slot f _ · _) hout).trans
      (hostPosting_outOfRange hopen m)) rfl rfl rfl⟩

/-- POST_ADJUSTMENT (R117). -/
theorem exec_postAdjustment {amount : Nat} (h : s.ready) (hslot : slot < 8192) (hf : s.folio slot = some f)
    (hopen : f.state ≠ .closed) (h1 : 1 ≤ amount) (h2 : amount ≤ 2000000000) :
    let posted : Folio := { f with balance := f.balance + amount, spend := addSpend f.spend amount }
    (tooHigh (f.balance + amount) = false → exec (.postAdjustment (bytes 2 slot ++ bytes 4 amount)) s =
      .next ((storeReevaluated slot posted s).replied 0x48 (bytes 2 slot ++ bytes 4 amount) .done
        (postingReply posted.reevaluated.1))) ∧
    (tooHigh (f.balance + amount) = true → exec (.postAdjustment (bytes 2 slot ++ bytes 4 amount)) s =
      .next (s.replied 0x48 (bytes 2 slot ++ bytes 4 amount) .range [])) :=
  ⟨fun hin => manage_amount h hslot hf h1 h2 (fun m => (congrArg (hostPosting slot f _ · _) hin).trans
      (hostPosting_posted hopen m)) (by simp) (by simp) (by simp),
    fun hout => manage_amount (u := s) h hslot hf h1 h2 (fun m => (congrArg (hostPosting slot f _ · _) hout).trans
      (hostPosting_outOfRange hopen m)) rfl rfl rfl⟩

/-- ADD_PREPAID (R118). -/
theorem exec_addPrepaid {amount : Nat} (h : s.ready) (hslot : slot < 8192) (hf : s.folio slot = some f)
    (hopen : f.state ≠ .closed) (h1 : 1 ≤ amount) (h2 : amount ≤ 10000000) :
    exec (.addPrepaid (bytes 2 slot ++ bytes 4 amount)) s =
      .next ((s.putFolio slot { f with prepaid := min (f.prepaid + amount) 10000000 }).replied 0x49
        (bytes 2 slot ++ bytes 4 amount) .done
        (bytes 4 (min (f.prepaid + amount) 10000000 - f.prepaid) ++ bytes 4 (min (f.prepaid + amount) 10000000))) :=
  manage_folio (slot := Prod.fst) h (by simp) (readPosting_body hslot h1 h2 (by decide)) hf
    (fun _ => if_neg hopen) rfl rfl rfl

end

/-- Settles O38: each posting finds its folio, and the balance decides it. -/
theorem folioPostingsComplete : Obligations.FolioPostingsComplete := by
  intro s slot f hready hslot hf
  refine ⟨fun soft hard allowance m hs hh ha => exec_setLimits hready hslot hf hs hh ha,
    fun amount hopen h1 h2 => ?_, fun amount hopen h1 h2 => exec_addPrepaid hready hslot hf hopen h1 h2⟩
  refine ⟨fun hin => ?_, fun hout => ?_, fun hin => ?_, fun hout => ?_⟩
  · have hlow : tooLow (f.balance - amount) = false := by
      rw [Bool.eq_false_iff, ne_eq, tooLow_iff]
      omega
    exact ⟨(exec_postPayment hready hslot hf hopen h1 h2).1 hlow, (exec_postRefund hready hslot hf hopen h1 h2).1 hlow⟩
  · have hlow := (tooLow_iff _).mpr hout
    exact ⟨(exec_postPayment hready hslot hf hopen h1 h2).2 hlow, (exec_postRefund hready hslot hf hopen h1 h2).2 hlow⟩
  · refine (exec_postAdjustment hready hslot hf hopen h1 h2).1 ?_
    rw [Bool.eq_false_iff, ne_eq, tooHigh_iff]
    omega
  · exact (exec_postAdjustment hready hslot hf hopen h1 h2).2 ((tooHigh_iff _).mpr hout)

/-! ### O39 -/

section
variable {s : State} {slot target : Nat} {r : Record} {old f : Folio}

theorem linkRefusal_none (hne : r.folio ≠ target) (hopens : ∀ e ∈ s.tabs.entries, e.2.opener ≠ slot)
    (hstate : f.state = .active ∨ f.state = .grace) (hm : f.members < 8) : linkRefusal slot r target f s = none := by
  have hno : ¬ s.opensTabs slot = true := fun h => by
    obtain ⟨e, he, ho⟩ := opensTabs_iff.mp h
    exact hopens e he ho
  have hst : ¬ (f.state ≠ .active ∧ f.state ≠ .grace) := by
    rintro ⟨h1, h2⟩
    exact hstate.elim h1 h2
  rw [linkRefusal, if_neg hne, if_neg hno, if_neg hst,
    if_neg (show ¬ Config.folioMembers ≤ f.members from not_le.mpr hm)]

theorem linkRefusal_of_firstRefusal {code : ReplyCode}
    (h : firstRefusal
      [(r.folio = target, .duplicate), (∃ e ∈ s.tabs.entries, e.2.opener = slot, .tabsOpen),
        (f.state ≠ .active ∧ f.state ≠ .grace, .wrongState), (8 ≤ f.members, .full)] code) :
    linkRefusal slot r target f s = some code := by
  unfold linkRefusal
  rcases h with ⟨h1, rfl⟩ | ⟨h1, ⟨h2, rfl⟩ | ⟨h2, ⟨h3, rfl⟩ | ⟨h3, ⟨h4, rfl⟩ | ⟨-, h⟩⟩⟩⟩
  · rw [if_pos h1]
  · rw [if_neg h1, if_pos (opensTabs_iff.mpr h2)]
  · rw [if_neg h1, if_neg fun hc => h2 (opensTabs_iff.mp hc), if_pos h3]
  · rw [if_neg h1, if_neg fun hc => h2 (opensTabs_iff.mp hc), if_neg h3,
      if_pos (show Config.folioMembers ≤ f.members from h4)]
  · exact h.elim

theorem byte_zero : byte 0 = [0x00] := byte_eq 0

theorem flagByte_false : flagByte false = [0x00] := byte_eq 0

theorem flagByte_true : flagByte true = [0x01] := byte_eq 1

/-- The state in which the record is linked to the target, which has gained a member (R103). -/
def State.linkedTo (s : State) (slot : Nat) (r : Record) (target : Nat) (f : Folio) : State :=
  (s.putRecord slot { r with folio := target }).putFolio target { f with members := f.members + 1 }

theorem linkedTo_old (hold : s.folio r.folio = some old) (hne : r.folio ≠ target) :
    (s.linkedTo slot r target f).folio r.folio = some old :=
  (Table.find_put_other _ _ hne).trans hold

theorem linkedTo_oldPut (g : Folio) :
    ((s.linkedTo slot r target f).putFolio r.folio g).folio r.folio = some g :=
  Table.find_put_same _ _ _

theorem linkedTo_targetPut {g : Folio} (hne : r.folio ≠ target) :
    ((s.linkedTo slot r target f).putFolio r.folio g).folio target = some { f with members := f.members + 1 } :=
  (Table.find_put_other _ _ hne.symm).trans (Table.find_put_same _ _ _)

theorem linkedTo_oldDrop (hwf : Table.wf s.folios = true) :
    ((s.linkedTo slot r target f).dropFolio r.folio).folio r.folio = none :=
  Table.find_drop_same _ (Table.wf_put _ _ hwf)

theorem linkedTo_targetDrop (hne : r.folio ≠ target) :
    ((s.linkedTo slot r target f).dropFolio r.folio).folio target = some { f with members := f.members + 1 } :=
  (Table.find_drop_other _ hne.symm).trans (Table.find_put_same _ _ _)

theorem membersOf_eq {k : Nat} (h : s.folio k = some f) : s.membersOf k = f.members := by
  simp only [State.membersOf, h, Option.map_some, Option.getD_some]

/-- What the link leaves of the old folio: one member less, or nothing (R98, R103). -/
theorem relink_eq (hf : s.folio target = some f) (hold : s.folio r.folio = some old) (hne : r.folio ≠ target) :
    relink slot r target s =
      if old.state = .closed ∧ old.members - 1 = 0 then (s.linkedTo slot r target f).dropFolio r.folio
      else (s.linkedTo slot r target f).putFolio r.folio { old with members := old.members - 1 } := by
  have hgain : gainMember target (s.putRecord slot { r with folio := target }) = s.linkedTo slot r target f :=
    gainMember_some hf
  simp only [relink, hgain, loseMember, linkedTo_old hold hne]

/-- LINK_RECORD past its checks: the link moves, and the reply names what became of both folios (R103). -/
theorem exec_linkRecord {u : State} (h : s.ready) (hslot : slot < 12288) (htarget : target < 8192)
    (hr : s.record slot = some r) (hf : s.folio target = some f) (hnone : linkRefusal slot r target f s = none)
    (hu : relink slot r target s = u) (hport : u.management = s.management) (hset : u.settings = s.settings)
    (hclock : u.clock = s.clock) :
    exec (.linkRecord (bytes 2 slot ++ bytes 2 target)) s =
      .next (u.replied 0x4A (bytes 2 slot ++ bytes 2 target) .done
        (bytes 2 r.folio ++ byte (u.membersOf r.folio) ++ byte (u.membersOf target) ++
          flagByte (u.folio r.folio).isNone)) := by
  refine manage_checked h (by simp) (readLink_body hslot htarget) (fun m => ?_) hport (by rw [hset]) (by rw [hclock])
  have hrelink : relink slot r target (s.setManagement m) = u.setManagement m := by
    simp only [← hu, relink, State.putRecord_setManagement, gainMember_setManagement, loseMember_setManagement]
  have hnone' : linkRefusal slot r target f (s.setManagement m) = none := hnone
  rw [withRecord_some (s := s.setManagement m) hr, withFolio_some (s := s.setManagement m) hf]
  simp only [hnone', hrelink]
  rfl

end

/-- Settles O39: the checks of LINK_RECORD in their order, and the two ends of the old folio. -/
theorem linkRecordMovesTheMembership : Obligations.LinkRecordMovesTheMembership := by
  refine ⟨fun s slot target r old f hready hslot htarget hr hold hf hne hopens hstate hm => ?_,
    fun s slot target r f code hready hslot htarget hr hf hcode => ?_⟩
  · have hnone := linkRefusal_none hne hopens hstate hm
    refine ⟨fun hkept => ?_, fun hclosed hlast hwf => ?_⟩
    · have hu := (relink_eq (slot := slot) hf hold hne).trans (if_neg fun hc => by
        obtain ⟨hclosed, hgone⟩ := hc
        rcases hkept with hkept | hkept
        · exact hkept hclosed
        · omega)
      refine (exec_linkRecord hready hslot htarget hr hf hnone hu rfl rfl rfl).trans ?_
      rw [membersOf_eq (linkedTo_oldPut ..), membersOf_eq (linkedTo_targetPut hne), linkedTo_oldPut,
        Option.isNone_some, flagByte_false, State.linkedTo]
    · have hu := (relink_eq (slot := slot) hf hold hne).trans (if_pos ⟨hclosed, by omega⟩)
      refine (exec_linkRecord hready hslot htarget hr hf hnone hu rfl rfl rfl).trans ?_
      rw [State.membersOf, linkedTo_oldDrop hwf, membersOf_eq (linkedTo_targetDrop hne), Option.isNone_none,
        flagByte_true, Option.map_none, Option.getD_none, byte_zero, State.linkedTo]
  · refine manage_checked (u := s) hready (by simp) (readLink_body hslot htarget) (fun m => ?_) rfl rfl rfl
    have hcode' : linkRefusal slot r target f (s.setManagement m) = some code := linkRefusal_of_firstRefusal hcode
    rw [withRecord_some (s := s.setManagement m) hr, withFolio_some (s := s.setManagement m) hf]
    simp only [hcode']
    rfl

end Sys2Proof.Machine
end

section
/-! CHARGE past its checks: O42. What the limit stage gives, what a posting and a decline leave, and the answer of a
charge in terms of its computation. -/

namespace Sys2Proof.Machine

/-! ### The limit stage (R135, R136) -/

section
variable {x : Int} {e soft hard grace : Nat}

theorem limitStage_ok (h : e = 0 ∨ x + e ≤ soft) : limitStage x e soft hard grace = .ok := by
  unfold limitStage
  split
  · rfl
  · rw [if_pos (h.resolve_left ‹_›)]

theorem limitStage_over (he : 0 < e) (hs : soft < x + e) :
    limitStage x e soft hard grace = if x + e ≤ hard ∧ 0 < grace then .grace else .deny := by
  rw [limitStage, if_neg he.ne', if_neg (not_le.mpr hs)]

theorem limitStage_grace (he : 0 < e) (hs : soft < x + e) (hh : x + e ≤ hard) (hg : 0 < grace) :
    limitStage x e soft hard grace = .grace := by
  rw [limitStage_over he hs, if_pos ⟨hh, hg⟩]

theorem limitStage_deny (he : 0 < e) (hs : soft < x + e) (h : hard < x + e ∨ grace = 0) :
    limitStage x e soft hard grace = .deny := by
  rw [limitStage_over he hs, if_neg]
  rintro ⟨hh, hg⟩
  omega

theorem limitStage_deny_iff (he : 0 < e) :
    limitStage x e soft hard grace = .deny ↔ soft < x + e ∧ (hard < x + e ∨ grace = 0) := by
  refine ⟨fun h => ?_, fun h => limitStage_deny he h.1 h.2⟩
  have hs : soft < x + e := not_le.mp fun hc => by simp [limitStage_ok (.inr hc)] at h
  refine ⟨hs, ?_⟩
  by_contra hc
  have hgrace := limitStage_grace he hs (hard := hard) (grace := grace) (by omega) (by omega)
  simp [hgrace] at h

end

/-! ### What a decline and a posting leave -/

section
variable {s : State} {slot folio : Nat} {f : Folio} {r : Record} {g : Figures} {x : Int} {e : Nat}

theorem graceAt_eq (h : s.folio slot = some f) : graceAt slot s = f.grace := by
  simp only [graceAt, h, Option.map_some, Option.getD_some]

/-- A decline suspends a folio in GRACE, with cause LIMIT, when the stored limits give it too (R136). -/
theorem declineLimit_eq (he : 0 < e) :
    declineLimit folio f x e s =
      if f.state = .grace ∧ f.soft < x + e ∧ (f.hard < x + e ∨ f.grace = 0) then
        raise .folioSuspended (s.putFolio folio { f with state := .suspended, cause := some .limit })
      else s := by
  simp only [declineLimit, againstStored, decide_eq_true_eq, limitStage_deny_iff he]
  rfl

theorem graceAt_declineLimit (h : s.folio folio = some f) : graceAt folio (declineLimit folio f x e s) = f.grace := by
  unfold declineLimit
  split
  · exact graceAt_eq (f := f.suspendedFor .limit) (Table.find_put_same _ _ _)
  · exact graceAt_eq h

@[simp] theorem declineLimit_setPorts (b : Vector PortBlock 6) :
    declineLimit folio f x e (s.setPorts b) = (declineLimit folio f x e s).setPorts b := by
  unfold declineLimit
  split
  · exact limitDecline_setPorts ..
  · rfl

@[simp] theorem declineLimit_ports : (declineLimit folio f x e s).ports = s.ports := by
  unfold declineLimit
  split
  · exact limitDecline_ports ..
  · rfl

/-- The record of a posting: its spend, and its drinks when a package covered part of the amount (R107, R130). -/
theorem postToRecord_eq (h : s.record slot = some r) :
    postToRecord slot g s =
      s.putRecord slot
        { r with spend := addSpend r.spend g.d, drinks := if 0 < g.k then r.drinks + 1 else r.drinks } := by
  simp only [postToRecord, h, gt_iff_lt]

@[simp] theorem postCharge_setPorts (graced : Bool) (b : Vector PortBlock 6) :
    postCharge slot folio f g graced (s.setPorts b) = (postCharge slot folio f g graced s).setPorts b := by
  unfold postCharge
  split
  · exact postToRecord_setPorts ..
  · simp

@[simp] theorem postCharge_ports (graced : Bool) : (postCharge slot folio f g graced s).ports = s.ports := by
  unfold postCharge
  split
  · exact postToRecord_ports ..
  · simp

/-- A sum due of 0 is not handed to the folio (R137). -/
theorem postCharge_zero (graced : Bool) (h : g.d = 0) :
    postCharge slot folio f g graced s = postToRecord slot g s := by
  simp only [postCharge, if_pos h]

theorem postCharge_pos (graced : Bool) (h : 0 < g.d) :
    postCharge slot folio f g graced s = postToRecord slot g (storeReevaluated folio (f.posted g graced) s) := by
  simp only [postCharge, if_neg h.ne']

/-- A posting of a sum: the folio re-evaluated with it, and the record's part (R107). -/
theorem postCharge_posted (graced : Bool) (h : 0 < g.d) (hr : s.record slot = some r) :
    postCharge slot folio f g graced s =
      (storeReevaluated folio (f.posted g graced) s).putRecord slot
        { r with spend := addSpend r.spend g.d, drinks := if 0 < g.k then r.drinks + 1 else r.drinks } := by
  have hkept : (storeReevaluated folio (f.posted g graced) s).record slot = some r := by
    rw [State.record, storeReevaluated_store]
    exact hr
  rw [postCharge_pos graced h, postToRecord_eq hkept]

theorem graceAt_postToRecord : graceAt folio (postToRecord slot g s) = graceAt folio s := by
  simp only [graceAt, State.folio, postToRecord_folios]

theorem graceAt_postCharge (graced : Bool) (h : 0 < g.d) :
    graceAt folio (postCharge slot folio f g graced s) = (f.posted g graced).reevaluated.1.grace := by
  rw [postCharge_pos graced h, graceAt_postToRecord, graceAt_eq (storeReevaluated_folio ..)]

end

/-- A folio after a posting (R107). -/
theorem Folio.posted_pos {f : Folio} {g : Figures} (graced : Bool) (h : 0 < g.d) :
    f.posted g graced =
      { f with
        balance := f.balance + g.e
        prepaid := f.prepaid - g.w
        spend := addSpend f.spend g.d
        grace := if graced then f.grace - 1 else f.grace
        state := if graced then .grace else f.state } := by
  rw [Folio.posted, if_neg h.ne']

theorem figures_e_le (amount : Nat) (flags : ItemFlags) (r : Record) (t : Tier) (v : Venue) (prepaid : Nat) :
    (figures amount flags r t v prepaid).e ≤ (figures amount flags r t v prepaid).d := Nat.sub_le ..

/-- With nothing due, no part of the sum comes from prepaid credit or the balance (R133). -/
theorem figures_zero {amount : Nat} {flags : ItemFlags} {r : Record} {t : Tier} {v : Venue} {prepaid : Nat}
    (h : (figures amount flags r t v prepaid).d = 0) :
    (figures amount flags r t v prepaid).w = 0 ∧ (figures amount flags r t v prepaid).e = 0 :=
  ⟨Nat.le_zero.mp (h ▸ Nat.min_le_right ..), Nat.le_zero.mp (h ▸ figures_e_le ..)⟩

/-! ### The computation of a charge (R130 to R137) -/

section
variable {s : State} {slot amount : Nat} {flags : ItemFlags} {r : Record} {v : Venue} {f : Folio} {m : Option Nat}
  {g : Figures} {soft hard : Nat}

theorem computeCharge_capped (hg : figures amount flags r (s.tier r.tier) v f.prepaid = g)
    (hcap : overCap r g.d = true) :
    computeCharge slot r amount flags v f m s =
      (.denyCap, chargeBody (some g.k) (some g.v) none none (some f.grace) m, s) := by
  simp only [computeCharge, hg, hcap, if_true]

/-- An approved charge, at the cost of a grace charge or not. -/
theorem computeCharge_approved (graced : Bool) (hg : figures amount flags r (s.tier r.tier) v f.prepaid = g)
    (hl : effectiveLimits s f v.category = (soft, hard)) (hcap : overCap r g.d = false)
    (ha : limitStage f.exposure g.e soft hard f.grace = if graced then .grace else .ok) :
    let t := postCharge slot r.folio f g graced s
    computeCharge slot r amount flags v f m s =
      (if graced then .okGrace else .ok,
        chargeBody (some g.k) (some g.v) (some g.w) (some g.e) (some (graceAt r.folio t)) m, t) := by
  cases graced <;> simp only [computeCharge, hg, hl, hcap, ha, Bool.false_eq_true, if_false, if_true] <;> rfl

theorem computeCharge_declined (hg : figures amount flags r (s.tier r.tier) v f.prepaid = g)
    (hl : effectiveLimits s f v.category = (soft, hard)) (hcap : overCap r g.d = false)
    (ha : limitStage f.exposure g.e soft hard f.grace = .deny) (hf : s.folio r.folio = some f) :
    computeCharge slot r amount flags v f m s =
      (.denyLimit, chargeBody (some g.k) (some g.v) (some g.w) (some g.e) (some f.grace) m,
        declineLimit r.folio f f.exposure g.e s) := by
  simp only [computeCharge, hg, hl, hcap, ha, Bool.false_eq_true, if_false, graceAt_declineLimit hf]
  rfl

theorem computeCharge_setPorts (b : Vector PortBlock 6) :
    computeCharge slot r amount flags v f m (s.setPorts b) =
      ((computeCharge slot r amount flags v f m s).1, (computeCharge slot r amount flags v f m s).2.1,
        (computeCharge slot r amount flags v f m s).2.2.setPorts b) := by
  have htier : (s.setPorts b).tier = s.tier := rfl
  have hlimits : effectiveLimits (s.setPorts b) = effectiveLimits s := rfl
  have hgrace : ∀ t : State, graceAt r.folio (t.setPorts b) = graceAt r.folio t := fun _ => rfl
  simp only [computeCharge, htier, hlimits]
  split
  · rfl
  · split <;> simp only [declineLimit_setPorts, postCharge_setPorts, hgrace]

@[simp] theorem computeCharge_ports : (computeCharge slot r amount flags v f m s).2.2.ports = s.ports := by
  simp only [computeCharge]
  split
  · rfl
  · split <;> simp only [declineLimit_ports, postCharge_ports]

end

/-! ### A record with its message shown (R24) -/

section
variable (r : Record)

@[simp] theorem Record.shown_tier : r.shown.tier = r.tier := by unfold Record.shown; split <;> rfl
@[simp] theorem Record.shown_drinks : r.shown.drinks = r.drinks := by unfold Record.shown; split <;> rfl
@[simp] theorem Record.shown_cap : r.shown.cap = r.cap := by unfold Record.shown; split <;> rfl
@[simp] theorem Record.shown_spend : r.shown.spend = r.spend := by unfold Record.shown; split <;> rfl
@[simp] theorem Record.shown_folio : r.shown.folio = r.folio := by unfold Record.shown; split <;> rfl

/-- A message shown changes neither the figures of a charge nor its daily cap. -/
theorem figures_shown (amount : Nat) (flags : ItemFlags) (t : Tier) (v : Venue) (prepaid : Nat) :
    figures amount flags r.shown t v prepaid = figures amount flags r t v prepaid := by
  simp only [figures, coverage, Record.shown_tier, Record.shown_drinks]

theorem overCap_shown (d : Nat) : overCap r.shown d = overCap r d := by
  simp only [overCap, Record.shown_cap, Record.shown_spend]

end

/-! ### The answer of a charge -/

section
variable {s : State} {p : Port} {e : TerminalEntry} {f : Frame} {n slot venue amount : Nat} {flags : ItemFlags}
  {r : Record} {folio : Folio}

/-- The checks after the lookup pass (R128, R129). -/
theorem purchaseRefusal_none {alcohol : Bool} {v : Venue} (hlife : r.life = .active) (hloc : r.location = .aboard)
    (hclass : v.classes.getLsbD (classCode r.cls) = true) (hdrink : alcohol = true → r.cls ≠ .guestMinor)
    (hstate : folio.state = .active ∨ folio.state = .grace) : purchaseRefusal r alcohol v folio = none := by
  have hadmitted : ¬ (!v.admits r.cls || (alcohol && decide (r.cls = .guestMinor))) = true := by
    simp only [Venue.admits, hclass, Bool.not_true, Bool.false_or, Bool.and_eq_true, decide_eq_true_eq]
    exact fun h => hdrink h.1 h.2
  rw [purchaseRefusal, if_neg (by simp [hlife])]
  simp only [purchaseLocation, hloc]
  rw [if_neg hadmitted]
  rcases hstate with hstate | hstate <;> simp only [folioRefusal, hstate]

theorem decideCharge_passed {o : Result × List Byte × State} (hn : f.field 0 6 = n) (ha : f.field 6 4 = amount)
    (hi : f.field 10 1 = itemCode flags)
    (hx : purchaseGate (decide (1 ≤ amount) && decide (amount ≤ 2000000) && (itemFlags (itemCode flags)).isSome)
      e.boundTo s = none) (hl : lookup s n = .found slot r)
    (hr : purchaseRefusal r flags.alcohol (s.venue e.boundTo) (folioOf r s) = none)
    (ho : computeCharge slot r.shown amount flags (s.venue e.boundTo) (folioOf r s) r.guestMessage
      (consumeMessage slot r s) = o) :
    decideCharge p e f s =
      { result := o.1, body := o.2.1, credential := some n, slot := some slot, state := o.2.2 } := by
  simp only [itemFlags_itemCode] at hx
  simp only [decideCharge, hn, ha, hi, itemFlags_itemCode, hx, hl, hr, ho]

/-- A charge that passes its checks is answered with what its computation gives. -/
theorem exec_charge_computed (h : purchaseReady s p e f n slot venue r folio) (hk : f.kind = 0x20)
    (hbody : f.body = chargeRequest n amount flags) (h1 : 1 ≤ amount) (h2 : amount ≤ 2000000)
    (hdrink : flags.alcohol = true → r.cls ≠ .guestMinor) {x : Result} {reply : List Byte} {t : State}
    (ho : computeCharge slot r.shown amount flags (s.venue venue) folio r.guestMessage (consumeMessage slot r s) =
      (x, reply, t)) :
    exec (.charge p) s = .next ((reportRefusal p f.term x (some n) (some slot) t).answered p f x reply) := by
  obtain ⟨htakes, hkind, hbind, hfinds, hphase, hopen, hlife, hloc, hclass, hfolio, hstate⟩ := h
  have hlookup := lookup_of_finds hfinds
  obtain ⟨-, hsmall, -, -⟩ := hfinds
  have hcode := itemCode_lt flags
  have hitem : (BitVec.ofNat 8 (itemCode flags)).toNat = itemCode flags := by simp; omega
  have hbytes : f.body = bytes 6 n ++ bytes 4 amount ++ [BitVec.ofNat 8 (itemCode flags)] := by
    rw [hbody, chargeRequest, byte_eq, itemCode]
  obtain ⟨f1, f2, f3⟩ := charge_fields hbytes hsmall (by omega)
  rw [hitem] at f3
  have hbound : e.boundTo = venue := TerminalEntry.boundTo_of hbind
  have hgate := purchaseGate_open hphase (chargeRange_iff.mpr ⟨h1, h2, hcode⟩) hopen
  have hof : folioOf r s = folio := by rw [folioOf, hfolio, Option.getD_some]
  have hnone := purchaseRefusal_none hlife hloc hclass hdrink hstate
  have hports : t.ports = s.ports := by
    have := computeCharge_ports (slot := slot) (r := r.shown) (amount := amount) (flags := flags) (v := s.venue venue)
      (f := folio) (m := r.guestMessage) (s := consumeMessage slot r s)
    rwa [ho, consumeMessage_ports] at this
  refine takeRequest_decided ⟨x, reply, some n, some slot, t⟩ htakes hk (isPos_of hkind hbind) (by simp [hbytes])
    (fun b => ?_) hports
  refine decideCharge_passed (s := s.setPorts b) (o := (x, reply, t.setPorts b)) f1 f2 f3 (hbound ▸ hgate)
    hlookup ?_ ?_
  · rw [hbound]
    exact hof.symm ▸ hnone
  · have hof' : folioOf r (s.setPorts b) = folio := hof
    have hvenue : (s.setPorts b).venue venue = s.venue venue := rfl
    rw [consumeMessage_setPorts, hof', hbound, hvenue]
    exact (computeCharge_setPorts b).trans (by rw [ho])

end

/-- Settles O42: the limit stage decides the computation of the charge, and the posting or the decline is what it
leaves. -/
theorem chargePostsOrDeclines : Obligations.ChargePostsOrDeclines := by
  intro s p e f n slot venue amount flags r folio h hk hbody h1 h2 hdrink v g x soft hard shown bought posted reply
  have hpassed := h
  obtain ⟨-, -, -, hfinds, -, -, -, -, -, hfolio, -⟩ := hpassed
  obtain ⟨-, -, -, hrecord⟩ := hfinds
  have hg : figures amount flags r.shown (shown.tier r.shown.tier) v folio.prepaid = g := by
    rw [Record.shown_tier, figures_shown, State.tier, consumeMessage_charge]
    rfl
  have hlimits : effectiveLimits shown folio v.category = (soft, hard) := by
    rw [effectiveLimits, consumeMessage_management, consumeMessage_settings]
    rfl
  have hshown : shown.record slot = some r.shown := consumeMessage_record hrecord
  have hshownFolio : shown.folio r.folio = some folio := by
    rw [State.folio, consumeMessage_folios]
    exact hfolio
  have answered := fun {x : Result} {body : List Byte} {t : State} =>
    exec_charge_computed (x := x) (reply := body) (t := t) h hk hbody h1 h2 hdrink
  have hsame : r.shown.folio = r.folio := Record.shown_folio r
  have approved (graced : Bool) (hcap : overCap r g.d = false)
      (ha : limitStage x g.e soft hard folio.grace = if graced then .grace else .ok) :
      exec (.charge p) s =
        .next ((postCharge slot r.folio folio g graced shown).answered p f (if graced then .okGrace else .ok)
          (reply (some g.w) (some g.e) (some (graceAt r.folio (postCharge slot r.folio folio g graced shown))))) := by
    have hcap' := (overCap_shown r g.d).trans hcap
    rw [answered (computeCharge_approved graced hg hlimits hcap' ha), hsame,
      reportRefusal_ok (by cases graced <;> rfl)]
    rfl
  have posting (graced : Bool) (hd : 0 < g.d) :
      postCharge slot r.folio folio g graced shown =
        (storeReevaluated r.folio (posted (if graced then folio.grace - 1 else folio.grace)
          (if graced then .grace else folio.state)) shown).putRecord slot bought := by
    rw [postCharge_posted graced hd hshown, Folio.posted_pos graced hd, Record.shown_spend, Record.shown_drinks]
    rfl
  refine ⟨fun hcap => ?_, fun hcap hd => ?_, fun hcap hd hin => ?_, fun hcap he hs hh hgrace => ?_,
    fun hcap he hs hdeny => ?_⟩
  · exact answered (computeCharge_capped hg ((overCap_shown r g.d).trans hcap))
  · obtain ⟨hw, he⟩ : g.w = 0 ∧ g.e = 0 := figures_zero hd
    have hzero : postCharge slot r.folio folio g false shown = shown.putRecord slot bought := by
      rw [postCharge_zero false hd, postToRecord_eq hshown, Record.shown_spend, Record.shown_drinks]
      rfl
    have hgrace : graceAt r.folio (shown.putRecord slot bought) = folio.grace := graceAt_eq hshownFolio
    rw [approved false hcap (limitStage_ok (.inl he)), hzero, hgrace, hw, he]
    rfl
  · rw [approved false hcap (limitStage_ok hin), graceAt_postCharge false hd, posting false hd,
      Folio.posted_pos false hd]
    rfl
  · have hd : 0 < g.d := he.trans_le (figures_e_le ..)
    rw [approved true hcap (limitStage_grace he hs hh hgrace), graceAt_postCharge true hd, posting true hd,
      Folio.posted_pos true hd]
    rfl
  · rw [answered (computeCharge_declined hg hlimits ((overCap_shown r g.d).trans hcap) (limitStage_deny he hs hdeny)
      (hsame ▸ hshownFolio)), declineLimit_eq he, hsame]
    rfl

end Sys2Proof.Machine
end

section
/-! OPEN_TAB past its shared checks: O45. -/

namespace Sys2Proof.Machine

/-! ### The tab that an OPEN_TAB opens (R142, R143) -/

section
variable {s : State} {slot venue hold : Nat} {r : Record}

theorem searchTabNumber_setPorts (b : Vector PortBlock 6) (trials n : Nat) :
    searchTabNumber (s.setPorts b) trials n = searchTabNumber s trials n := by
  induction trials generalizing n with
  | zero => rfl
  | succ trials ih =>
    have hheld : (s.setPorts b).tabNumberHeld n = s.tabNumberHeld n := rfl
    simp only [searchTabNumber, hheld, ih]

theorem openedTab_setPorts (b : Vector PortBlock 6) :
    openedTab slot r venue hold (s.setPorts b) = openedTab slot r venue hold s := by
  have hnumber : assignedNumber (s.setPorts b) = assignedNumber s := searchTabNumber_setPorts b _ _
  rw [openedTab, hnumber]
  rfl

theorem openTab_setPorts (entry : Nat) (t : Tab) (f : Folio) (b : Vector PortBlock 6) :
    openTab entry t f (s.setPorts b) = (openTab entry t f s).setPorts b := by
  simp only [openTab, ← report_setPorts, ← storeReevaluated_setPorts]
  rfl

theorem lowestFree_tab {entry : Nat} (h : s.lowestFreeTab entry) :
    s.tabs.entries.lowestFree Config.tabEntries 0 = some entry := by
  obtain ⟨hlt, hfree, hlow⟩ := h
  exact Table.lowestFree_eq (Nat.zero_le _) (by omega) hfree fun k _ hk => hlow k hk

theorem lowestFree_full (h : ∀ k < 1024, s.tabs.entries.find k ≠ none) :
    s.tabs.entries.lowestFree Config.tabEntries 0 = none := by
  cases hfree : s.tabs.entries.lowestFree Config.tabEntries 0 with
  | none => rfl
  | some entry =>
    obtain ⟨-, hlt, hnone, -⟩ := Table.lowestFree_spec hfree
    exact absurd hnone (h entry (by simpa [Config.tabEntries] using hlt))

end

/-! ### The checks from the twelfth to the fourteenth (R145) -/

section
variable {s : State} {f : Folio} {hold entry : Nat} {c : Category}

theorem openTabRefusal_limit (h : 4 ≤ f.openTabs) : openTabRefusal f hold c s = some .denyTabLimit := by
  rw [openTabRefusal, if_pos (show Config.folioTabs ≤ f.openTabs from h)]

theorem openTabRefusal_full (h : f.openTabs < 4) (hfull : ∀ k < 1024, s.tabs.entries.find k ≠ none) :
    openTabRefusal f hold c s = some .denyTableFull := by
  rw [openTabRefusal, if_neg (show ¬ Config.folioTabs ≤ f.openTabs from not_le.mpr h), lowestFree_full hfull,
    if_pos Option.isNone_none]

/-- With room for the tab, the effective soft limit decides. -/
theorem openTabRefusal_room (h : f.openTabs < 4) (hfree : s.lowestFreeTab entry) :
    openTabRefusal f hold c s =
      if f.exposure + hold > (effectiveLimits s f c).1 then some .denyLimit else none := by
  rw [openTabRefusal, if_neg (show ¬ Config.folioTabs ≤ f.openTabs from not_le.mpr h), lowestFree_tab hfree,
    if_neg (by simp)]

end

/-! ### The answer of an OPEN_TAB -/

section
variable {s : State} {p : Port} {e : TerminalEntry} {f : Frame} {n slot venue hold : Nat} {r : Record} {folio : Folio}

/-- An OPEN_TAB whose shared checks pass is decided by what it gives from the twelfth check on, at whatever ports. -/
theorem exec_openTab_decided (h : purchaseReady s p e f n slot venue r folio) (hk : f.kind = 0x21)
    (hbody : f.body = bytes 6 n ++ bytes 4 hold) (h1 : 100 ≤ hold) (h2 : hold ≤ 500000) {x : Result}
    {reply : List Byte} {t : State} (hports : t.ports = s.ports)
    (hd : ∀ b, e.boundTo = venue → f.field 0 6 = n → f.field 6 4 = hold →
      purchaseGate (decide (100 ≤ hold) && decide (hold ≤ 500000)) venue (s.setPorts b) = none →
      lookup (s.setPorts b) n = .found slot r → folioOf r (s.setPorts b) = folio →
      purchaseRefusal r false ((s.setPorts b).venue venue) folio = none →
      decideOpenTab p e f (s.setPorts b) = ⟨x, reply, some n, some slot, t.setPorts b⟩) :
    exec (.openTab p) s = .next ((reportRefusal p f.term x (some n) (some slot) t).answered p f x reply) := by
  obtain ⟨htakes, hkind, hbind, hfinds, hphase, hopen, hlife, hloc, hclass, hfolio, hstate⟩ := h
  have hlookup := lookup_of_finds hfinds
  obtain ⟨-, hsmall, -, -⟩ := hfinds
  obtain ⟨f1, f2⟩ := openTab_fields hbody hsmall (by omega)
  have hgate := purchaseGate_open hphase (holdRange_iff.mpr ⟨h1, h2⟩) hopen
  have hof : folioOf r s = folio := by rw [folioOf, hfolio, Option.getD_some]
  have hnone := purchaseRefusal_none hlife hloc hclass (alcohol := false) (by simp) hstate
  exact takeRequest_decided ⟨x, reply, some n, some slot, t⟩ htakes hk (isPos_of hkind hbind) (by simp [hbody])
    (fun b => hd b (TerminalEntry.boundTo_of hbind) f1 f2 hgate hlookup hof hnone) hports

theorem exec_openTab_refused (h : purchaseReady s p e f n slot venue r folio) (hk : f.kind = 0x21)
    (hbody : f.body = bytes 6 n ++ bytes 4 hold) (h1 : 100 ≤ hold) (h2 : hold ≤ 500000) {x : Result}
    (hx : openTabRefusal folio hold (s.venue venue).category s = some x) :
    exec (.openTab p) s = .next ((reportRefusal p f.term x (some n) (some slot) s).answered p f x []) := by
  refine exec_openTab_decided h hk hbody h1 h2 rfl fun b hbound f1 f2 hgate hlookup hof hnone => ?_
  have hx' : openTabRefusal folio hold ((s.setPorts b).venue venue).category (s.setPorts b) = some x := hx
  simp only [decideOpenTab, hbound, f1, f2, hgate, hlookup, hof, hnone, hx']
  rfl

theorem exec_openTab_opened {entry : Nat} (h : purchaseReady s p e f n slot venue r folio) (hk : f.kind = 0x21)
    (hbody : f.body = bytes 6 n ++ bytes 4 hold) (h1 : 100 ≤ hold) (h2 : hold ≤ 500000)
    (hx : openTabRefusal folio hold (s.venue venue).category s = none) (hfree : s.lowestFreeTab entry) :
    exec (.openTab p) s =
      .next ((openTab entry (openedTab slot r venue hold s) folio s).answered p f .ok
        (openTabBody (openedTab slot r venue hold s) (tabLifetime (s.venue venue).timeoutCode))) := by
  have hreported := reportRefusal_ok (p := p) (term := f.term) (r := .ok) (c := some n) (slot := some slot)
    (s := openTab entry (openedTab slot r venue hold s) folio s) rfl
  rw [← hreported]
  refine exec_openTab_decided h hk hbody h1 h2 (by simp [openTab]) fun b hbound f1 f2 hgate hlookup hof hnone => ?_
  have hx' : openTabRefusal folio hold ((s.setPorts b).venue venue).category (s.setPorts b) = none := hx
  have hfree' : (s.setPorts b).tabs.entries.lowestFree Config.tabEntries 0 = some entry := lowestFree_tab hfree
  simp only [decideOpenTab, hbound, f1, f2, hgate, hlookup, hof, hnone, hx', hfree', openedTab_setPorts,
    openTab_setPorts]
  rfl

end

/-- Settles O45: the three checks of the tables and the limit decide whether the tab is opened. -/
theorem openTabHoldsOrRefuses : Obligations.OpenTabHoldsOrRefuses := by
  intro s p e f n slot venue hold r folio h hk hbody h1 h2
  refine ⟨fun entry ho hfree hin => ?_, fun ho => ?_, fun ho hfull => ?_, fun entry ho hfree hover => ?_⟩
  · have hnone := (openTabRefusal_room (hold := hold) (c := (s.venue venue).category) ho hfree).trans
      (if_neg (not_lt.mpr hin))
    exact exec_openTab_opened h hk hbody h1 h2 hnone hfree
  · exact exec_openTab_refused h hk hbody h1 h2 (openTabRefusal_limit ho)
  · exact exec_openTab_refused h hk hbody h1 h2 (openTabRefusal_full ho hfull)
  · exact exec_openTab_refused h hk hbody h1 h2 ((openTabRefusal_room ho hfree).trans (if_pos hover))

end Sys2Proof.Machine
end

section
/-! The ends of a tab: O48 and O49. -/

namespace Sys2Proof.Machine

/-! ### A tab that ends with nothing posted -/

section
variable {s : State} {entry : Nat} {t : Tab} {folio : Folio}

theorem releaseTab_eq_tabReleased (h : s.folio t.folio = some folio) :
    releaseTab entry t s = tabReleased s entry t folio :=
  releaseTab_eq h

theorem graceAt_tabReleased :
    graceAt t.folio (tabReleased s entry t folio) = (folio.released t.hold).reevaluated.1.grace := by
  refine graceAt_eq ?_
  rw [State.folio, tabReleased, report_folios]
  exact storeReevaluated_folio ..

theorem expireTab_due (ht : s.tabs.entries.find entry = some t) (h : t.expiry ≤ s.clock.runTime) :
    expireTab entry s = raise .tabExpired (releaseTab entry t s) := by
  simp only [expireTab, ht, if_pos h]

theorem expireTab_early (ht : s.tabs.entries.find entry = some t) (h : s.clock.runTime < t.expiry) :
    expireTab entry s = s := by
  simp only [expireTab, ht, if_neg (not_le.mpr h)]

/-- VOID_TAB from the host (R153). -/
theorem exec_hostVoidTab (h : s.ready) (ht : s.tab t.number = some (entry, t)) (h0 : 0 < t.number)
    (h1 : t.number ≤ 65535) :
    exec (.hostVoidTab (bytes 2 t.number)) s =
      .next ((releaseTab entry t s).replied 0x58 (bytes 2 t.number) .done
        (bytes 2 t.folio ++ bytes 2 t.opener ++ byte t.venue ++ bytes 4 t.hold)) := by
  refine manage_checked h (by simp) (readNumber_body (by omega) (decide_eq_true h0)) (fun m => ?_) (by simp) (by simp)
    (by simp)
  simp only [State.setManagement_tab, ht, releaseTab_setManagement]
  rfl

end

/-! ### VOID_TAB from a terminal (R152) -/

theorem boundTo_venue {e : TerminalEntry} {v : Nat} (h : e.binding = some (.venue v)) : e.boundTo = v :=
  TerminalEntry.boundTo_of h

section
variable {s : State} {p : Port} {e : TerminalEntry} {f : Frame} {n entry v : Nat} {t : Tab}

theorem voidTab_field (hbody : f.body = bytes 2 n) (hn : n < 65536) : f.field 0 2 = n :=
  Frame.field_eq (front := []) (rest := []) (by rw [hbody, List.append_nil]; rfl) rfl hn

theorem exec_voidTab_unknown (h : s.takes p e f) (he : e.kind = some .pos) (hb : e.binding = some (.venue v))
    (hk : f.kind = 0x23) (hbody : f.body = bytes 2 n) (hn : n < 65536) (ht : s.tab n = none) :
    exec (.voidTab p) s =
      .next ((reportRefusal p f.term .denyTabUnknown none none s).answered p f .denyTabUnknown []) :=
  takeRequest_decided (bare .denyTabUnknown s) h hk (isPos_of he hb) (by simp [hbody])
    (fun b => by simp only [decideVoidTab, voidTab_field hbody hn, State.setPorts_tab, ht]; rfl) rfl

theorem exec_voidTab_otherVenue (h : s.takes p e f) (he : e.kind = some .pos) (hb : e.binding = some (.venue v))
    (hk : f.kind = 0x23) (hbody : f.body = bytes 2 n) (hn : n < 65536) (ht : s.tab n = some (entry, t))
    (hv : t.venue ≠ v) :
    exec (.voidTab p) s =
      .next ((reportRefusal p f.term .denyWrongVenue none (some t.opener) s).answered p f .denyWrongVenue []) :=
  takeRequest_decided (ofTab .denyWrongVenue [] t s) h hk (isPos_of he hb) (by simp [hbody])
    (fun b => by
      simp only [decideVoidTab, voidTab_field hbody hn, State.setPorts_tab, ht, boundTo_venue hb, if_pos hv]
      rfl) rfl

theorem exec_voidTab (h : s.takes p e f) (he : e.kind = some .pos) (hb : e.binding = some (.venue t.venue))
    (hk : f.kind = 0x23) (hbody : f.body = bytes 2 n) (hn : n < 65536) (ht : s.tab n = some (entry, t)) :
    exec (.voidTab p) s = .next ((releaseTab entry t s).answered p f .ok (bytes 4 t.hold)) := by
  have hreported := reportRefusal_ok (p := p) (term := f.term) (r := .ok) (c := none) (slot := some t.opener)
    (s := releaseTab entry t s) rfl
  rw [← hreported]
  refine takeRequest_decided (ofTab .ok (bytes 4 t.hold) t (releaseTab entry t s)) h hk (isPos_of he hb)
    (by simp [hbody]) (fun b => ?_) (releaseTab_ports ..)
  simp only [decideVoidTab, voidTab_field hbody hn, State.setPorts_tab, ht, boundTo_venue hb, if_neg (not_not.mpr rfl),
    releaseTab_setPorts]
  rfl

end

/-! ### CLOSE_TAB before the computation (R147, R148) -/

section
variable {s : State} {p : Port} {e : TerminalEntry} {f : Frame} {n amount item entry v : Nat} {t : Tab}

/-- The operands of a CLOSE_TAB (R147). -/
theorem closeTab_fields (hbody : f.body = bytes 2 n ++ bytes 4 amount ++ byte item) (hn : n < 65536)
    (ha : amount < 2 ^ 32) (hi : item < 256) : f.field 0 2 = n ∧ f.field 2 4 = amount ∧ f.field 6 1 = item :=
  ⟨Frame.field_eq (front := []) (by rw [hbody, List.append_assoc]; rfl) rfl hn,
    Frame.field_eq (front := bytes 2 n) (by rw [hbody, List.append_assoc]) (by simp) ha,
    Frame.field_eq (front := bytes 2 n ++ bytes 4 amount) (rest := [])
      (by rw [hbody, List.append_nil]; rfl) (by simp) hi⟩

theorem itemFlags_some (h : item < 4) : ∃ flags, itemFlags item = some flags :=
  Option.isSome_iff_exists.mp ((itemFlags_isSome item).mpr h)

theorem itemFlags_none (h : 4 ≤ item) : itemFlags item = none :=
  Option.not_isSome_iff_eq_none.mp fun hc => not_lt.mpr h ((itemFlags_isSome item).mp hc)

/-- A CLOSE_TAB with the operands named, decided as the verdict at whatever ports. -/
theorem exec_closeTab_decided (w : Verdict) (h : s.takes p e f) (he : e.kind = some .pos)
    (hb : e.binding = some (.venue v)) (hk : f.kind = 0x22)
    (hbody : f.body = bytes 2 n ++ bytes 4 amount ++ byte item)
    (hd : ∀ b, decideCloseTab e f (s.setPorts b) = { w with state := w.state.setPorts b })
    (hw : w.state.ports = s.ports) :
    exec (.closeTab p) s =
      .next ((reportRefusal p f.term w.result w.credential w.slot w.state).answered p f w.result w.body) :=
  takeRequest_decided w h hk (isPos_of he hb) (by simp [hbody]) hd hw

section
variable (h : s.takes p e f) (he : e.kind = some .pos) (hb : e.binding = some (.venue v)) (hk : f.kind = 0x22)
  (hbody : f.body = bytes 2 n ++ bytes 4 amount ++ byte item) (hn : n < 65536)
include h he hb hk hbody hn

theorem exec_closeTab_range (ha : amount < 2 ^ 32) (hi : item < 256) (hr : 2000000 < amount ∨ 4 ≤ item) :
    exec (.closeTab p) s = .next ((reportRefusal p f.term .range none none s).answered p f .range []) := by
  obtain ⟨-, f2, f3⟩ := closeTab_fields hbody hn ha hi
  refine exec_closeTab_decided (bare .range s) h he hb hk hbody (fun b => ?_) rfl
  rcases lt_or_ge item 4 with hlt | hge
  · obtain ⟨flags, hflags⟩ := itemFlags_some hlt
    simp only [decideCloseTab, f2, f3, hflags, if_pos (hr.resolve_right (not_le.mpr hlt))]
    rfl
  · simp only [decideCloseTab, f3, itemFlags_none hge]
    rfl

theorem exec_closeTab_unknown (ha : amount ≤ 2000000) (hi : item < 4) (ht : s.tab n = none) :
    exec (.closeTab p) s =
      .next ((reportRefusal p f.term .denyTabUnknown none none s).answered p f .denyTabUnknown []) := by
  obtain ⟨f1, f2, f3⟩ := closeTab_fields hbody hn (by omega) (by omega)
  obtain ⟨flags, hflags⟩ := itemFlags_some hi
  refine exec_closeTab_decided (bare .denyTabUnknown s) h he hb hk hbody (fun b => ?_) rfl
  simp only [decideCloseTab, f1, f2, f3, hflags, if_neg (not_lt.mpr ha), State.setPorts_tab, ht]
  rfl

theorem exec_closeTab_otherVenue (ha : amount ≤ 2000000) (hi : item < 4) (ht : s.tab n = some (entry, t))
    (hv : t.venue ≠ v) :
    exec (.closeTab p) s =
      .next ((reportRefusal p f.term .denyWrongVenue none (some t.opener) s).answered p f .denyWrongVenue []) := by
  obtain ⟨f1, f2, f3⟩ := closeTab_fields hbody hn (by omega) (by omega)
  obtain ⟨flags, hflags⟩ := itemFlags_some hi
  refine exec_closeTab_decided (ofTab .denyWrongVenue [] t s) h he hb hk hbody (fun b => ?_) rfl
  simp only [decideCloseTab, f1, f2, f3, hflags, if_neg (not_lt.mpr ha), State.setPorts_tab, ht,
    boundTo_venue hb, if_pos hv]
  rfl

end

/-- A close of an open tab at its venue is decided by its amount (R148, R149). -/
theorem decideCloseTab_found {flags : ItemFlags} (hb : e.binding = some (.venue t.venue)) (f1 : f.field 0 2 = n)
    (f2 : f.field 2 4 = amount) (f3 : itemFlags (f.field 6 1) = some flags) (ha : amount ≤ 2000000)
    (ht : s.tab n = some (entry, t)) :
    (amount = 0 → decideCloseTab e f s = zeroClose entry t s) ∧
    (∀ r, amount ≠ 0 → s.record t.opener = some r →
      decideCloseTab e f s = computeClose entry t amount flags (s.venue t.venue) r (tabFolio t s) s) := by
  have hv : ¬ t.venue ≠ e.boundTo := not_not.mpr (boundTo_venue hb).symm
  refine ⟨fun h0 => ?_, fun r h0 hr => ?_⟩
  · simp only [decideCloseTab, f1, f2, f3, if_neg (not_lt.mpr ha), ht, if_neg hv, if_pos h0]
  · simp only [decideCloseTab, f1, f2, f3, if_neg (not_lt.mpr ha), ht, if_neg hv, if_neg h0, hr]

theorem zeroClose_setPorts (b : Vector PortBlock 6) :
    zeroClose entry t (s.setPorts b) =
      { zeroClose entry t s with state := (zeroClose entry t s).state.setPorts b } := by
  simp only [zeroClose, releaseTab_setPorts]
  rfl

/-- A close with the amount 0 (R148). -/
theorem exec_closeTab_zero {folio : Folio} (h : s.takes p e f) (he : e.kind = some .pos)
    (hb : e.binding = some (.venue t.venue)) (hk : f.kind = 0x22)
    (hbody : f.body = bytes 2 n ++ bytes 4 0 ++ byte item) (hn : n < 65536) (hi : item < 4)
    (ht : s.tab n = some (entry, t)) (hf : s.folio t.folio = some folio) :
    exec (.closeTab p) s =
      .next ((tabReleased s entry t folio).answered p f .ok
        (closeTabBody (some 0) (some 0) (some 0) (some 0) (some t.hold)
          (some (folio.released t.hold).reevaluated.1.grace))) := by
  obtain ⟨f1, f2, f3⟩ := closeTab_fields hbody hn (by decide) (by omega)
  obtain ⟨flags, hflags⟩ := itemFlags_some hi
  have hanswer := exec_closeTab_decided (zeroClose entry t s) h he hb hk hbody
    (fun b => ((decideCloseTab_found (s := s.setPorts b) hb f1 f2 (f3 ▸ hflags) (by decide) ht).1 rfl).trans
      (zeroClose_setPorts b)) (releaseTab_ports ..)
  rw [hanswer, reportRefusal_ok rfl, zeroClose, releaseTab_eq_tabReleased hf, graceAt_tabReleased]
  rfl

end

/-- Settles O48: each end of a tab releases it, and each refusal is the first check that fails. -/
theorem tabEndsWithItsHoldReleased : Obligations.TabEndsWithItsHoldReleased := by
  refine ⟨fun s entry t folio ht hfind hf h0 h1 => ?_, fun s p e f venue number h he hb hn => ?_⟩
  · have hn : t.number < 65536 := by omega
    rw [← releaseTab_eq_tabReleased hf]
    refine ⟨fun hready => exec_hostVoidTab hready ht h0 h1, fun hdue => congrArg _ (expireTab_due hfind hdue),
      fun hearly => congrArg _ (expireTab_early hfind hearly), fun p e f h he => ⟨fun hb hk hbody => ?_,
        fun item hi hb hk hbody => ?_, fun v hb hv => ⟨fun hk hbody => ?_, fun amount ha item hi hk hbody => ?_⟩⟩⟩
    · exact exec_voidTab h he hb hk hbody hn ht
    · rw [releaseTab_eq_tabReleased hf]
      exact exec_closeTab_zero h he hb hk hbody hn hi ht hf
    · exact exec_voidTab_otherVenue h he hb hk hbody hn ht hv.symm
    · exact exec_closeTab_otherVenue h he hb hk hbody hn ha hi ht hv.symm
  · exact ⟨fun amount item ha hi hk hbody => ⟨exec_closeTab_range h he hb hk hbody hn ha hi,
      exec_closeTab_unknown h he hb hk hbody hn⟩, fun hk hbody => exec_voidTab_unknown h he hb hk hbody hn⟩

end Sys2Proof.Machine
end

section
/-! CLOSE_TAB with an amount: O49. -/

namespace Sys2Proof.Machine

/-! ### The limit stage of a close (R149) -/

section
variable {f : Folio} {x : Int} {e soft hard : Nat}

theorem closeStage_ok (h : e = 0 ∨ x + e ≤ soft) : closeStage f x e soft hard = .ok := by
  unfold closeStage
  split
  · rw [suspendedStage, if_pos h]
  · exact limitStage_ok h

theorem closeStage_costsGrace (he : 0 < e) (hs : soft < x + e) (hh : x + e ≤ hard) (hg : 0 < f.grace)
    (hstate : f.state ≠ .suspended) : closeStage f x e soft hard = .grace := by
  rw [closeStage, if_neg hstate, limitStage_grace he hs hh hg]

theorem closeStage_deny (he : 0 < e) (hs : soft < x + e) (h : hard < x + e ∨ f.grace = 0 ∨ f.state = .suspended) :
    closeStage f x e soft hard = .deny := by
  unfold closeStage
  split
  · rw [suspendedStage, if_neg]
    omega
  · rename_i hstate
    exact limitStage_deny he hs (h.imp_right fun h => h.resolve_right hstate)

end

/-! ### The computation of a close (R149 to R151) -/

section
variable {s : State} {entry amount : Nat} {t : Tab} {flags : ItemFlags} {v : Venue} {r : Record} {f : Folio}
  {g : Figures} {soft hard : Nat}

/-- An approved close: the hold released and the sum posted in one re-evaluation, and the record's part (R150). -/
theorem postClose_eq (graced : Bool) (hr : s.record t.opener = some r) :
    postClose entry t f g graced s =
      report .tabs
        ((storeReevaluated t.folio ((f.released t.hold).posted g graced) (freeTab entry s)).putRecord t.opener
          { r with spend := addSpend r.spend g.d, drinks := if 0 < g.k then r.drinks + 1 else r.drinks }) := by
  have hkept : (storeReevaluated t.folio ((f.released t.hold).posted g graced) (freeTab entry s)).record t.opener =
      some r := by
    rw [State.record, storeReevaluated_store]
    exact hr
  rw [postClose, postToRecord_eq hkept]

theorem graceAt_postClose (graced : Bool) :
    graceAt t.folio (postClose entry t f g graced s) =
      ((f.released t.hold).posted g graced).reevaluated.1.grace := by
  refine graceAt_eq ?_
  rw [State.folio, postClose, report_folios, postToRecord_folios]
  exact storeReevaluated_folio ..

theorem postClose_setPorts (graced : Bool) (b : Vector PortBlock 6) :
    postClose entry t f g graced (s.setPorts b) = (postClose entry t f g graced s).setPorts b := by
  simp only [postClose, freeTab_setPorts, storeReevaluated_setPorts, postToRecord_setPorts, report_setPorts]

theorem computeClose_minor (ha : flags.alcohol = true) (hc : r.cls = .guestMinor) :
    computeClose entry t amount flags v r f s = ofTab .denyClass (List.replicate 6 0x00) t s := by
  rw [computeClose, if_pos ⟨ha, hc⟩]
  rfl

section
variable (hclass : ¬ (flags.alcohol = true ∧ r.cls = .guestMinor))
  (hg : figures amount flags r (s.tier r.tier) v f.prepaid = g)
include hclass hg

theorem computeClose_capped (hcap : overCap r g.d = true) :
    computeClose entry t amount flags v r f s =
      ofTab .denyCap (closeTabBody (some g.k) (some g.v) none none none (some f.grace)) t s := by
  simp only [computeClose, if_neg hclass, hg, hcap, if_true]

/-- An approved close, at the cost of a grace charge or not. -/
theorem computeClose_approved (graced : Bool) (hl : effectiveLimits s f v.category = (soft, hard))
    (hcap : overCap r g.d = false)
    (ha : closeStage f (f.exposure - t.hold) g.e soft hard = if graced then .grace else .ok) :
    let u := postClose entry t f g graced s
    computeClose entry t amount flags v r f s =
      ofTab (if graced then .okGrace else .ok)
        (closeTabBody (some g.k) (some g.v) (some g.w) (some g.e) (some t.hold) (some (graceAt t.folio u))) t u := by
  cases graced <;>
    simp only [computeClose, if_neg hclass, hg, hl, hcap, ha, Bool.false_eq_true, if_false, if_true] <;> rfl

theorem computeClose_declined (hl : effectiveLimits s f v.category = (soft, hard)) (hcap : overCap r g.d = false)
    (ha : closeStage f (f.exposure - t.hold) g.e soft hard = .deny) :
    computeClose entry t amount flags v r f s =
      ofTab .denyLimit (closeTabBody (some g.k) (some g.v) (some g.w) (some g.e) none (some f.grace)) t
        (declineLimit t.folio f (f.exposure - t.hold) g.e s) := by
  simp only [computeClose, if_neg hclass, hg, hl, hcap, ha, Bool.false_eq_true, if_false]

end

theorem computeClose_setPorts (b : Vector PortBlock 6) :
    computeClose entry t amount flags v r f (s.setPorts b) =
      { computeClose entry t amount flags v r f s with
        state := (computeClose entry t amount flags v r f s).state.setPorts b } := by
  have htier : (s.setPorts b).tier = s.tier := rfl
  have hlimits : effectiveLimits (s.setPorts b) = effectiveLimits s := rfl
  have hgrace : ∀ u : State, graceAt t.folio (u.setPorts b) = graceAt t.folio u := fun _ => rfl
  simp only [computeClose, htier, hlimits]
  split
  · rfl
  · split
    · rfl
    · split <;> simp only [ofTab, declineLimit_setPorts, postClose_setPorts, hgrace]

theorem computeClose_ports : (computeClose entry t amount flags v r f s).state.ports = s.ports := by
  simp only [computeClose]
  split
  · rfl
  · split
    · rfl
    · split
      · exact declineLimit_ports
      · simp [ofTab, postClose]

end

/-! ### The answer of a close -/

section
variable {s : State} {p : Port} {e : TerminalEntry} {f : Frame} {entry amount : Nat} {flags : ItemFlags} {t : Tab}
  {r : Record} {folio : Folio}

/-- A close with an amount, of an open tab at its venue, is answered with what its computation gives. -/
theorem exec_closeTab_computed {w : Verdict} (h : s.takes p e f) (he : e.kind = some .pos)
    (hb : e.binding = some (.venue t.venue)) (hk : f.kind = 0x22)
    (hbody : f.body = bytes 2 t.number ++ bytes 4 amount ++ byte (itemCode flags))
    (ht : s.tab t.number = some (entry, t)) (hn : t.number ≤ 65535) (h1 : 1 ≤ amount) (h2 : amount ≤ 2000000)
    (hr : s.record t.opener = some r) (hf : s.folio t.folio = some folio)
    (hw : computeClose entry t amount flags (s.venue t.venue) r folio s = w) :
    exec (.closeTab p) s =
      .next ((reportRefusal p f.term w.result w.credential w.slot w.state).answered p f w.result w.body) := by
  subst hw
  have hcode := itemCode_lt flags
  obtain ⟨f1, f2, f3⟩ := closeTab_fields hbody (by omega) (by omega) (by omega)
  refine exec_closeTab_decided _ h he hb hk hbody (fun b => ?_) computeClose_ports
  have hof : tabFolio t (s.setPorts b) = folio := by
    have hf' : (s.setPorts b).folio t.folio = some folio := hf
    rw [tabFolio, hf', Option.getD_some]
  rw [(decideCloseTab_found (s := s.setPorts b) hb f1 f2 (f3 ▸ itemFlags_itemCode flags) h2 ht).2 r (by omega) hr, hof]
  exact computeClose_setPorts b

end

/-- Settles O49: the limit stage of the close decides its computation, and the posting or the decline is what it
leaves. -/
theorem closeTabPostsOrDeclines : Obligations.CloseTabPostsOrDeclines := by
  intro s p e f entry amount flags t r folio htakes he hb hk hbody ht hn h1 h2 hrecord hfolio
  have answered := fun {w : Verdict} =>
    exec_closeTab_computed (w := w) htakes he hb hk hbody ht hn h1 h2 hrecord hfolio
  refine ⟨fun ha hc => answered (computeClose_minor ha hc), fun hdrink => ?_⟩
  intro v g x soft hard ended bought posted reply closed
  have hclass : ¬ (flags.alcohol = true ∧ r.cls = .guestMinor) := fun h => hdrink h.1 h.2
  have hg : figures amount flags r (s.tier r.tier) v folio.prepaid = g := rfl
  have hlimits : effectiveLimits s folio v.category = (soft, hard) := rfl
  have approved (graced : Bool) (hcap : overCap r g.d = false)
      (ha : closeStage folio x g.e soft hard = if graced then .grace else .ok) :
      exec (.closeTab p) s =
        .next ((closed ((folio.released t.hold).posted g graced)).answered p f (if graced then .okGrace else .ok)
          (reply (some g.w) (some g.e) (some t.hold)
            (some ((folio.released t.hold).posted g graced).reevaluated.1.grace))) := by
    rw [answered (computeClose_approved hclass hg graced hlimits hcap ha), graceAt_postClose,
      postClose_eq graced hrecord]
    simp only [ofTab]
    rw [reportRefusal_ok (by cases graced <;> rfl)]
    rfl
  refine ⟨fun hcap => ?_, fun hcap hd => ?_, fun hcap hd hin => ?_, fun hcap hpos hs hh hgrace hstate => ?_,
    fun hcap hpos hs hdeny => ?_⟩
  · exact answered (computeClose_capped hclass hg hcap)
  · obtain ⟨hw, he⟩ : g.w = 0 ∧ g.e = 0 := figures_zero hd
    have hkept : (folio.released t.hold).posted g false = folio.released t.hold := by rw [Folio.posted, if_pos hd]
    rw [approved false hcap (closeStage_ok (.inl he)), hkept, hw, he]
    rfl
  · rw [approved false hcap (closeStage_ok hin), Folio.posted_pos false hd]
    rfl
  · have hd : 0 < g.d := hpos.trans_le (figures_e_le ..)
    rw [approved true hcap (closeStage_costsGrace hpos hs hh hgrace hstate), Folio.posted_pos true hd]
    rfl
  · rw [answered (computeClose_declined hclass hg hlimits hcap (closeStage_deny hpos hs hdeny)), declineLimit_eq hpos]
    rfl

end Sys2Proof.Machine
end

section
/-! The figures of a charge, the effective limits, and the loads of venues and tiers: O40, O41 and O43. -/

namespace Sys2Proof.Machine

/-! ### The service of a charge (R131) -/

/-- The service is within half a cent of the exact share of the amount, and a half cent is rounded up. -/
theorem service_rounds (amount rate : Nat) :
    10000 * service amount rate ≤ amount * rate + 5000 ∧
      amount * rate + 5000 < 10000 * (service amount rate + 1) :=
  ⟨Nat.mul_div_le _ _, Nat.lt_mul_div_succ _ (by decide)⟩

theorem service_eq_zero {amount rate : Nat} (h : amount * rate < 5000) : service amount rate = 0 :=
  Nat.div_eq_of_lt (by omega)

/-- Settles O40: the service is one rounded division, whose bounds give the half cent. -/
theorem serviceRoundsHalfUp : Obligations.ServiceRoundsHalfUp :=
  ⟨fun _ _ _ _ _ _ => rfl, fun amount rate =>
    ⟨rfl, (service_rounds amount rate).1, (service_rounds amount rate).2, service_eq_zero,
      service_eq_zero (by simp)⟩⟩

/-! ### Coverage and the daily cap (R130, R132) -/

section
variable {amount : Nat} {flags : ItemFlags} {r : Record} {t : Tier} {v : Venue}

theorem coverage_covered (hpackage : flags.package = true) (htier : r.tier ≠ 0) (hleft : r.drinks < t.count)
    (hcategory : v.category = .bar ∨ v.category = .dining) : coverage amount flags r t v = min amount t.cap :=
  if_pos ⟨hpackage, htier, hleft, hcategory⟩

/-- Each of the four conditions of coverage is needed. -/
theorem coverage_uncovered (h : flags.package = false ∨ r.tier = 0 ∨ t.count ≤ r.drinks ∨ v.category = .retail ∨
    v.category = .spa ∨ v.category = .services) : coverage amount flags r t v = 0 := by
  refine if_neg ?_
  rintro ⟨hpackage, htier, hleft, hcategory⟩
  rcases h with h | h | h | h | h | h
  · simp [h] at hpackage
  · exact htier h
  · exact h.not_gt hleft
  all_goals simp [h] at hcategory

theorem coverage_le : coverage amount flags r t v ≤ amount := by
  rw [coverage]
  split
  · exact Nat.min_le_left ..
  · exact Nat.zero_le _

theorem overCap_none {d : Nat} (h : r.cap = none) : overCap r d = false := by rw [overCap, h]

theorem overCap_iff {q d : Nat} (h : r.cap = some q) : overCap r d = true ↔ q < r.spend + d := by
  rw [overCap, h]
  exact decide_eq_true_iff

end

/-! ### The effective limits (R134) -/

section
variable {s : State} {f : Folio} {c : Category}

theorem effectiveLimits_stored (h : s.management.service ≠ .standalone ∨ s.settings.policies.get c = .hold) :
    effectiveLimits s f c = (f.soft, f.hard) := by
  refine if_neg ?_
  rintro ⟨hstandalone, hcap⟩
  rcases h with h | h
  · exact h hstandalone
  · simp [h] at hcap

theorem effectiveLimits_capped (hstandalone : s.management.service = .standalone)
    (hcap : s.settings.policies.get c = .cap) :
    effectiveLimits s f c = (min f.soft s.settings.standaloneLimit, min f.hard s.settings.standaloneLimit) :=
  if_pos ⟨hstandalone, hcap⟩

end

/-- Settles O41: the coverage by its conditions; the sum due and its two parts by their definitions; the cap and the
limits by their cases. -/
theorem chargeFiguresAndEffectiveLimits : Obligations.ChargeFiguresAndEffectiveLimits := by
  refine ⟨fun amount flags r t v prepaid => ?_, fun s f c => ⟨effectiveLimits_stored, effectiveLimits_capped⟩⟩
  intro g
  have hparts : g.d = g.w + g.e := (Nat.add_sub_of_le (Nat.min_le_right prepaid g.d)).symm
  exact ⟨coverage_covered, coverage_uncovered, coverage_le, rfl, rfl, rfl, hparts, overCap_none, fun _ => overCap_iff⟩

/-! ### The loads of venues and tiers (R123 to R125) -/

/-- Settles O43: each request reads its operands, clamped, and writes its entry. -/
theorem venueAndTierRequestsComplete : Obligations.VenueAndTierRequestsComplete := by
  refine fun s hready => ⟨fun n rate code c set hn hrate hcode => ?_, fun n b hn => ?_,
    fun n cap count h1 h7 hcap hcount => ?_⟩
  · exact manage_checked hready (by simp) (readVenueLoad_body hn hrate hcode) (fun m => rfl) rfl rfl rfl
  · exact manage_checked hready (by simp) (readVenueOpen_body hn) (fun m => rfl) rfl rfl rfl
  · exact manage_checked hready (by simp) (readTierLoad_body h1 h7 hcap hcount) (fun m => rfl) rfl rfl rfl

end Sys2Proof.Machine
end

section
/-! The number and the expiry of a new tab: O46 and O47. -/

namespace Sys2Proof.Machine

/-! ### The order of the search for a number (R142) -/

/-- The steps from a tab number up to another, past 65,535 from 1 again. -/
def tabNumberSteps (n k : Nat) : Nat := (k + 65535 - n) % 65535

section
variable {n k : Nat}

theorem nextTabNumber_iterate_steps (hn : 1 ≤ n ∧ n ≤ 65535) (hk : 1 ≤ k ∧ k ≤ 65535) :
    nextTabNumber^[tabNumberSteps n k] n = k := by
  rw [nextTabNumber_iterate hn, tabNumberSteps]
  omega

theorem tabNumberSteps_iterate {i : Nat} (hn : 1 ≤ n ∧ n ≤ 65535) (hi : i < 65535) :
    tabNumberSteps n (nextTabNumber^[i] n) = i := by
  rw [nextTabNumber_iterate hn, tabNumberSteps]
  omega

theorem tabNumberSteps_above (hn : 1 ≤ n) (hnk : n ≤ k) (hk : k ≤ 65535) : tabNumberSteps n k = k - n := by
  rw [tabNumberSteps]
  omega

theorem tabNumberSteps_below (hn : n ≤ 65535) (hkn : k < n) : tabNumberSteps n k = 65535 - (n - k) := by
  rw [tabNumberSteps]
  omega

end

section
variable {s : State} {trials n k : Nat}

theorem searchTabNumber_of_free (h : s.tabNumberHeld n = false) : searchTabNumber s trials n = n := by
  cases trials <;> simp [searchTabNumber, h]

/-- The search ends some steps on, and has met held numbers alone on its way. -/
theorem searchTabNumber_steps (s : State) (trials n : Nat) :
    ∃ i ≤ trials, searchTabNumber s trials n = nextTabNumber^[i] n ∧
      ∀ j < i, s.tabNumberHeld (nextTabNumber^[j] n) = true := by
  induction trials generalizing n with
  | zero => exact ⟨0, le_rfl, rfl, fun j hj => absurd hj (Nat.not_lt_zero j)⟩
  | succ trials ih =>
    by_cases hn : s.tabNumberHeld n = true
    · obtain ⟨i, hi, hend, hmet⟩ := ih (nextTabNumber n)
      refine ⟨i + 1, Nat.succ_le_succ hi, (if_pos hn).trans hend, ?_⟩
      rintro (_ | j) hj
      · exact hn
      · exact hmet j (Nat.lt_of_succ_lt_succ hj)
    · exact ⟨0, Nat.zero_le _, if_neg hn, fun j hj => absurd hj (Nat.not_lt_zero j)⟩

/-- A number that comes before the one found is held. -/
theorem searchTabNumber_first (ht : trials < 65535) (hn : 1 ≤ n ∧ n ≤ 65535) (hk : 1 ≤ k ∧ k ≤ 65535)
    (hbefore : tabNumberSteps n k < tabNumberSteps n (searchTabNumber s trials n)) : s.tabNumberHeld k = true := by
  obtain ⟨i, hi, hend, hmet⟩ := searchTabNumber_steps s trials n
  rw [hend, tabNumberSteps_iterate hn (hi.trans_lt ht)] at hbefore
  have hheld := hmet _ hbefore
  rwa [nextTabNumber_iterate_steps hn hk] at hheld

theorem State.tabNumberHeld_iff_exists (s : State) (n : Nat) :
    s.tabNumberHeld n = true ↔ ∃ e ∈ s.tabs.entries, e.2.number = n := by
  rw [State.tabNumberHeld_iff, List.mem_map]

theorem State.tabNumberHeld_eq_false (s : State) (n : Nat) :
    s.tabNumberHeld n = false ↔ ∀ e ∈ s.tabs.entries, e.2.number ≠ n := by
  simp [State.tabNumberHeld]

end

/-- Settles O46: the search finds a free number in range, and whatever lies fewer steps from the counter is held; of
numbers on the same side of the counter the smaller lies fewer steps from it, and those above it before those below. -/
theorem tabNumberIsTheFirstFree : Obligations.TabNumberIsTheFirstFree := by
  intro s hlength hlow hhigh
  have hcounter := And.intro hlow hhigh
  obtain ⟨hmin, hmax⟩ : 1 ≤ assignedNumber s ∧ assignedNumber s ≤ 65535 := searchTabNumber_range s _ hcounter
  have hfirst (k : Nat) (h1 : 1 ≤ k) (h2 : k ≤ 65535)
      (hk : tabNumberSteps s.tabs.nextNumber k < tabNumberSteps s.tabs.nextNumber (assignedNumber s)) :
      ∃ e ∈ s.tabs.entries, e.2.number = k :=
    (s.tabNumberHeld_iff_exists k).mp (searchTabNumber_first (by decide) hcounter ⟨h1, h2⟩ hk)
  refine ⟨hmin, hmax, (s.tabNumberHeld_eq_false _).mp (searchTabNumber_free hlength (by decide) hcounter),
    fun h => searchTabNumber_of_free ((s.tabNumberHeld_eq_false _).mpr h), fun hplain k hnk hk => ?_,
    fun hwrapped => ⟨fun k hnk hk => ?_, fun k h1 hk => ?_⟩⟩
  · refine hfirst k (by omega) (by omega) ?_
    rw [tabNumberSteps_above hlow hnk (by omega), tabNumberSteps_above hlow hplain hmax]
    omega
  · refine hfirst k (by omega) hk ?_
    rw [tabNumberSteps_above hlow hnk hk, tabNumberSteps_below hhigh hwrapped]
    omega
  · refine hfirst k h1 (by omega) ?_
    rw [tabNumberSteps_below hhigh (hk.trans hwrapped), tabNumberSteps_below hhigh hwrapped]
    omega

/-! ### The expiry of a tab (R143) -/

theorem tabLifetime_table :
    ∀ e ∈ [(0, 10), (1, 15), (2, 20), (3, 30), (4, 45), (5, 60), (6, 90), (7, 120), (8, 150), (9, 180), (10, 240),
        (11, 300), (12, 360), (13, 480), (14, 600), (15, 720)], tabLifetime e.1 = e.2 := by decide

theorem openedTab_expiry (slot : Nat) (r : Record) (venue hold : Nat) (s : State) :
    (openedTab slot r venue hold s).expiry =
      (openedTab slot r venue hold s).opened + 60 * tabLifetime (s.venue venue).timeoutCode :=
  congrArg (s.clock.runTime + ·) (Nat.mul_comm _ _)

/-! ### Requests that leave the open tabs as they are -/

theorem checked_tabs {α : Type} {s : State} {p : Parsed α} {run : α → Decision}
    (h : ∀ a, (run a).state.tabs = s.tabs) : (checked p s run).state.tabs = s.tabs := by
  cases p with
  | good a => exact h a
  | badRequest => rfl
  | range => rfl

theorem manage_tabs {d : State → Decision} (kind : Byte) (body : List Byte) (h : ∀ s, (d s).state.tabs = s.tabs)
    (s : State) : (manage kind body d s).tabs = s.tabs := by
  unfold manage
  split
  · dsimp only [placeReply]
    split
    · rfl
    · exact h _
  · rfl

@[simp] theorem rollOver_tabs (day : Int) (s : State) : (rollOver day s).tabs = s.tabs := rfl

@[simp] theorem rolloverTest_tabs (s : State) : (rolloverTest s).1.tabs = s.tabs := by
  rcases rolloverTest_cases s with ⟨t, l, -, -, -, h⟩ | ⟨-, h⟩ <;> rw [h]
  exact rollOver_tabs _ s

theorem decideLoadVenue_tabs (body : List Byte) (s : State) : (decideLoadVenue body s).state.tabs = s.tabs :=
  checked_tabs fun q => s.putVenue_tabs q.venue _

theorem decideSetTime_tabs (body : List Byte) (s : State) : (decideSetTime body s).state.tabs = s.tabs :=
  checked_tabs fun t => by
    cases hs : s.clock.status with
    | unset => rfl
    | set => exact rolloverTest_tabs (setShipTime t s)

/-- Settles O47: the expiry by the code's lifetime; a venue and a clock rewritten leave the open tabs, and so does a
rollover. -/
theorem tabLifetimeByCode : Obligations.TabLifetimeByCode := by
  refine ⟨fun slot r venue hold s code minutes hrow hcode => ⟨rfl, ?_⟩, fun s t body => ⟨fun h => ?_, fun h => ?_⟩⟩
  · rw [openedTab_expiry, hcode, tabLifetime_table _ hrow]
  · cases h
    exact manage_tabs _ _ (decideLoadVenue_tabs body) s
  · cases h
    exact manage_tabs _ _ (decideSetTime_tabs body) s

end Sys2Proof.Machine
end

section
/-! The receiver of a port: O50. What a discarded frame leaves, and what each byte does in the state of the receiver. -/

namespace Sys2Proof.Machine

/-! ### Discarded frames (R161, R163) -/

theorem portBit_at (p : Port) : (portBit p).getLsbD p.val = true := by
  have hbit : portBit p = BitVec.twoPow 6 p.val := rfl
  simp [hbit, p.isLt]

section
variable (p : Port) (s : State)

theorem raisePortErrors_pending_at (c : Condition) :
    (raisePortErrors p s).notice.pending.getLsbD (conditionCode c) =
      (s.notice.pending.getLsbD (conditionCode c) || decide (c = .portErrors)) := by
  rw [raisePortErrors, changeNotices_eq]
  exact (BitVec.getLsbD_or ..).trans (by rw [Condition.bit_at])

theorem raisePortErrors_errorPorts :
    (raisePortErrors p s).notice.errorPorts = s.notice.errorPorts ||| portBit p := by
  rw [raisePortErrors, changeNotices_eq]

@[simp] theorem raisePortErrors_port (q : Port) : (raisePortErrors p s).port q = s.port q := rfl

end

section
variable {s : State} {p : Port}

theorem discardFrame_counts (h : (s.port p).errors ≠ 15) :
    discardFrame p s = s.setPort p { s.port p with errors := min 255 ((s.port p).errors + 1) } :=
  if_neg h

/-- The sixteenth error is the one that is raised. -/
theorem discardFrame_raises (h : (s.port p).errors = 15) :
    discardFrame p s = raisePortErrors p (s.setPort p { s.port p with errors := 16 }) := by
  rw [discardFrame, if_pos h, h]
  rfl

/-- A discard leaves all of the port but its error counter. -/
theorem discardFrame_port :
    (discardFrame p s).port p = { s.port p with errors := min 255 ((s.port p).errors + 1) } := by
  by_cases h : (s.port p).errors = 15
  · rw [discardFrame_raises h, raisePortErrors_port, State.setPort_port, h]
    rfl
  · rw [discardFrame_counts h, State.setPort_port]

/-! ### The receiver (R160) -/

@[simp] theorem setReceiver_port (r : Receiver) :
    (setReceiver p r s).port p = { s.port p with receiver := r } :=
  s.setPort_port p _

theorem dropPartFrame_whole : ((dropPartFrame p s).port p).whole = (s.port p).whole := by
  rw [dropPartFrame, discardFrame_port, setReceiver_port]

theorem dropPartFrame_receiver : ((dropPartFrame p s).port p).receiver = .hunt := by
  rw [dropPartFrame, discardFrame_port, setReceiver_port]

theorem gapPassed_hunt (h : (s.port p).receiver = .hunt) : s.gapPassed p = false := by
  simp only [State.gapPassed, h]

theorem gapPassed_frame {got : List Byte} {last : Nat} (h : (s.port p).receiver = .frame got last) :
    s.gapPassed p = decide (last + 2 < s.moment) := by
  simp only [State.gapPassed, h]

theorem endGap_passed {got : List Byte} {last : Nat} (h : (s.port p).receiver = .frame got last)
    (hgap : last + 2 < s.moment) : endGap p s = dropPartFrame p s :=
  if_pos (by rw [gapPassed_frame h, decide_eq_true hgap])

theorem endGap_within {got : List Byte} {last : Nat} (h : (s.port p).receiver = .frame got last)
    (hgap : s.moment ≤ last + 2) : endGap p s = s :=
  endGap_eq_self (by rw [gapPassed_frame h, decide_eq_false hgap.not_gt])

variable {b : Byte} {stop : Bool}

theorem receive_hunt (hw : (s.port p).whole = none) (hr : (s.port p).receiver = .hunt) :
    receive p b stop s = huntByte p b s := by
  simp only [receive, settle_eq_self hw, endGap_eq_self (gapPassed_hunt hr), hr]

theorem receive_frame {got : List Byte} {last : Nat} (hw : (s.port p).whole = none)
    (hr : (s.port p).receiver = .frame got last) (hgap : s.moment ≤ last + 2) :
    receive p b stop s = frameByte p got b stop s := by
  simp only [receive, settle_eq_self hw, endGap_within hr hgap, hr]

/-- A byte after a gap is received as if the discard of the frame had come before it. -/
theorem receive_after_gap {got : List Byte} {last : Nat} (hw : (s.port p).whole = none)
    (hr : (s.port p).receiver = .frame got last) (hgap : last + 2 < s.moment) :
    receive p b stop s = receive p b stop (dropPartFrame p s) := by
  have hdropped : endGap p (settle p (dropPartFrame p s)) = dropPartFrame p s := by
    rw [settle_eq_self (dropPartFrame_whole.trans hw), endGap_eq_self (gapPassed_hunt dropPartFrame_receiver)]
  rw [receive, receive, hdropped, settle_eq_self hw, endGap_passed hr hgap]

theorem frameByte_drops {got : List Byte} (h : stop = false ∨ (got = [] ∧ 60 < b.toNat)) :
    frameByte p got b stop s = dropPartFrame p s := by
  rcases h with rfl | ⟨rfl, hb⟩
  · rfl
  · cases stop <;> simp [frameByte, Config.frameBody, hb]

/-- A byte with a good stop bit that is no LENGTH above 60 is collected. -/
theorem frameByte_collects {got : List Byte} (hb : got = [] → b.toNat ≤ 60) :
    frameByte p got b true s =
      if collectedWhole (got ++ [b]) then
        s.setPort p { s.port p with receiver := .hunt, whole := some (got ++ [b]) }
      else setReceiver p (.frame (got ++ [b]) s.moment) s := by
  have hlength : (got.isEmpty && decide (Config.frameBody < b.toNat)) = false :=
    Bool.and_eq_false_imp.mpr fun hgot => decide_eq_false (hb (List.isEmpty_iff.mp hgot)).not_gt
  rw [frameByte, hlength]
  rfl

end

/-- Settles O50: the byte by the state of the receiver and the gap before it; the discard by the error counter. -/
theorem receiverCollectsOrDiscards : Obligations.ReceiverCollectsOrDiscards := by
  refine ⟨fun s p b stop hw => ⟨fun hr => ?_, fun got last hr hgap => ⟨fun hbad => ?_, fun hstop hb hpart => ?_,
      fun hstop hgot hwhole => ?_⟩, fun got last hr => ⟨fun hgap => ?_, fun hgap => ?_, fun hgap => ?_⟩⟩,
    fun s p => ⟨discardFrame_counts, fun h => ?_⟩⟩
  · exact congrArg _ (receive_hunt hw hr)
  · exact congrArg _ ((receive_frame hw hr hgap).trans (frameByte_drops hbad))
  · subst hstop
    refine congrArg _ ((receive_frame hw hr hgap).trans ?_)
    rw [frameByte_collects hb, hpart]
    rfl
  · subst hstop
    refine congrArg _ ((receive_frame hw hr hgap).trans ?_)
    rw [frameByte_collects fun h => absurd h hgot, hwhole]
    rfl
  · exact congrArg _ (endGap_passed hr hgap)
  · exact congrArg _ (endGap_within hr hgap)
  · exact congrArg Host.Outcome.next (receive_after_gap hw hr hgap)
  · refine ⟨by rw [discardFrame_port, h]; rfl, ?_, ?_⟩
    · rw [discardFrame_raises h, raisePortErrors_pending_at]
      simp
    · rw [discardFrame_raises h, raisePortErrors_errorPorts, BitVec.getLsbD_or, portBit_at, Bool.or_true]

end Sys2Proof.Machine
end

section
/-! What a port hears: a frame that arrives and a port that falls silent, O51. -/

namespace Sys2Proof.Machine

/-! ### The frame checks (R159, R161, R162) -/

/-- The bytes of a frame that its check sum sums: those after SYNC (R159, R162). -/
def Frame.summed (f : Frame) : List Byte := bytes 1 f.body.length ++ bytes 1 f.term ++ [f.tag, f.kind] ++ f.body

section
variable {f : Frame} {sum : List Byte}

theorem Frame.summed_append (f : Frame) (sum : List Byte) :
    f.summed ++ sum =
      BitVec.ofNat 8 f.body.length :: BitVec.ofNat 8 f.term :: f.tag :: f.kind :: (f.body ++ sum) := by
  simp [Frame.summed, bytes]

/-- The checks pass a frame of a terminal of the port with its own check sum. -/
theorem frameGood_summed (hterm : f.term < 256) (hsum : sum.length = 2) :
    frameGood (f.summed ++ sum) = (decide (f.term < 64) && decide (sum = checkSumBytes f.summed)) := by
  have hlength : (f.summed ++ sum).length - 2 = f.summed.length := by rw [List.length_append, hsum, Nat.add_sub_cancel]
  have hnumber : (BitVec.ofNat 8 f.term).toNat = f.term := Nat.mod_eq_of_lt hterm
  have hchecks : frameGood (f.summed ++ sum) =
      (decide ((BitVec.ofNat 8 f.term).toNat < 64) &&
        decide ((f.summed ++ sum).drop ((f.summed ++ sum).length - 2) =
          checkSumBytes ((f.summed ++ sum).take ((f.summed ++ sum).length - 2)))) := by
    rw [f.summed_append]
    rfl
  rw [hchecks, hnumber, hlength, List.drop_left, List.take_left]

/-- The bytes of a frame spell it. -/
theorem frameOf_summed (hterm : f.term < 256) (hbody : f.body.length ≤ 60) : frameOf (f.summed ++ sum) = f := by
  have hnumber : (BitVec.ofNat 8 f.term).toNat = f.term := Nat.mod_eq_of_lt hterm
  have hlength : (BitVec.ofNat 8 f.body.length).toNat = f.body.length :=
    Nat.mod_eq_of_lt (show f.body.length < 256 by omega)
  rw [f.summed_append, frameOf, hnumber, hlength, List.take_left]

end

/-! ### The arrival (R164, R168) -/

section
variable {s : State} {p : Port} {bs : List Byte}

theorem settle_discards (hw : (s.port p).whole = some bs) (h : frameGood bs = false) :
    settle p s = discardFrame p (s.setPort p { s.port p with whole := none }) := by
  simp only [settle, hw, h, Bool.false_eq_true, if_false]

theorem settle_arrives (hw : (s.port p).whole = some bs) (h : frameGood bs = true) :
    settle p s = arrive p (frameOf bs) (s.setPort p { s.port p with whole := none }) := by
  simp only [settle, hw, h, if_true]

theorem arrive_queues {f : Frame} (h : (s.port p).queue.length < 8) :
    arrive p f s =
      s.setPort p { (s.port p).heard s.clock.runTime with queue := (s.port p).queue ++ [f] } := by
  rw [arrive, if_pos (show _ < Config.queueSize from h), State.setPort_port, State.setPort_setPort]
  rfl

theorem arrive_full {f : Frame} (h : 8 ≤ (s.port p).queue.length) :
    arrive p f s =
      reportRefusal p f.term .portFull none none
        (s.setPort p
          { (s.port p).heard s.clock.runTime with
            replies :=
              (s.port p).replies ++ [{ term := f.term, tag := f.tag, result := .portFull, body := [] }] }) := by
  rw [arrive, if_neg (show ¬ _ < Config.queueSize from h.not_gt), portFull, State.setPort_port, State.setPort_setPort]
  rfl

end

/-! ### The silence of a port (R168) -/

/-- What the raise of PORT_SILENT writes: the pending bit, the port's bit, and what the NOTICE line makes of it. -/
theorem raisePortSilent_eq (p : Port) (s : State) :
    raisePortSilent p s =
      { s with notice :=
          { s.notice with
            pending := s.notice.pending ||| Condition.portSilent.bit
            silentPorts := s.notice.silentPorts ||| portBit p
            line := (raisePortSilent p s).notice.line
            owed := (raisePortSilent p s).notice.owed } } :=
  changeNotices_eq _ _

theorem expireSilence_due {s : State} {p : Port} {e : Nat} (ha : (s.port p).silence = .active)
    (he : (s.port p).silenceExpiry = some e) (hdue : e ≤ s.clock.runTime) :
    expireSilence p s =
      raisePortSilent p (s.setPort p { s.port p with silence := .silent, silenceExpiry := none }) := by
  simp only [expireSilence, ha, he, hdue, if_true]

/-- Settles O51: the frame checks on the bytes of a frame, the arrival by the room in the queue, and the timer by its
time. -/
theorem frameArrivalAndPortSilence : Obligations.FrameArrivalAndPortSilence := by
  refine ⟨fun s p => ⟨fun term tag kind body sum hterm hbody hsum => ?_, fun hw => congrArg _ (settle_eq_self hw)⟩,
    fun s p e ha he => ⟨fun hdue => ?_, fun hlater => congrArg _ (expireSilence_eq_self fun e' _ he' => ?_)⟩⟩
  · intro checked f b heard hw
    have hgood : frameGood (checked ++ sum) = (decide (term < 64) && decide (sum = checkSumBytes checked)) :=
      frameGood_summed (f := f) hterm hsum
    have hframe : frameOf (checked ++ sum) = f := frameOf_summed (f := f) hterm hbody
    have harrives (hport : term < 64) (hcheck : sum = checkSumBytes checked) :
        settle p s = arrive p f (s.setPort p { b with whole := none }) := by
      rw [settle_arrives hw (by rw [hgood, decide_eq_true hport, decide_eq_true hcheck]; rfl), hframe]
    refine ⟨fun hport hcheck hroom => congrArg Host.Outcome.next ((harrives hport hcheck).trans ?_),
      fun hport hcheck hfull => congrArg Host.Outcome.next ((harrives hport hcheck).trans ?_),
      fun hbad => congrArg Host.Outcome.next (settle_discards hw ?_)⟩
    · rw [arrive_queues (by rw [State.setPort_port]; exact hroom), State.setPort_port, State.setPort_setPort]
      rfl
    · rw [arrive_full (by rw [State.setPort_port]; exact hfull), State.setPort_port, State.setPort_setPort]
      rfl
    · rw [hgood, Bool.and_eq_false_iff]
      exact hbad.imp (fun h => decide_eq_false h.not_gt) (fun h => decide_eq_false h)
  · refine ⟨_, congrArg Host.Outcome.next (expireSilence_due ha he hdue), ?_⟩
    rw [raisePortSilent_eq]
    exact ⟨s.setPort_port p _, fun q hq => s.setPort_port_other _ hq, rfl, rfl, rfl, rfl, rfl, rfl, rfl⟩
  · rw [he] at he'
    cases he'
    exact hlater

end Sys2Proof.Machine
end

section
/-! What a port answers by itself: O52. The terminal requests but PING, each with the judgement that its command makes,
and the order of the checks before it. -/

namespace Sys2Proof.Machine

/-! ### The kinds of terminal that a request is permitted (R171) -/

section
variable {e : TerminalEntry}

/-- A test of an entry permits only the kind of terminal that it is named for. -/
theorem TerminalEntry.kind_of_permitted :
    (isLock e = true → e.kind = some .lock) ∧ (isPos e = true → e.kind = some .pos) ∧
      (isGangway e = true → e.kind = some .gangway) ∧ (isMuster e = true → e.kind = some .muster) := by
  unfold isLock isPos isGangway isMuster
  refine ⟨?_, ?_, ?_, ?_⟩ <;> split <;> simp [*]

/-- An entry with the binding of its kind passes the test of its kind. -/
theorem TerminalEntry.permitted_of_boundAsKind :
    (e.boundAsKind → e.kind = some .lock → isLock e = true) ∧
      (e.boundAsKind → e.kind = some .pos → isPos e = true) ∧
      (e.boundAsKind → e.kind = some .gangway → isGangway e = true) ∧
      (e.boundAsKind → e.kind = some .muster → isMuster e = true) := by
  unfold TerminalEntry.boundAsKind
  split <;> simp_all [isLock, isPos, isGangway, isMuster]

/-- LOCK_MODE is permitted at the lock of a cabin alone. -/
theorem isCabinLock_iff : isCabinLock e = true ↔ e.kind = some .lock ∧ ∃ c, e.binding = some (.cabin c) := by
  refine ⟨fun h => ?_, fun ⟨hk, _, hb⟩ => isCabinLock_of hk hb⟩
  unfold isCabinLock at h
  split at h
  · exact ⟨‹_›, _, ‹_›⟩
  · cases h

end

/-- The command of a request takes it with a body size, a test of the entry and a decision: the test passes only an
entry that the table of R171 permits, and each of those that has the binding of its kind. -/
structure TerminalRequest.Judged (q : TerminalRequest) (p : Port) (e : TerminalEntry)
    (permitted : TerminalEntry → Bool) (d : TerminalEntry → Frame → State → Verdict) : Prop where
  kind : q.kind ≠ 0x00
  take : ∀ s, exec q.take s = .next (takeRequest p q.kind permitted q.size d s)
  only : permitted e = true → q.permitted
  bound : e.boundAsKind → q.permitted → permitted e = true

/-- The body size, the test and the decision of each request in turn (R171). -/
theorem terminalRequests_judged {p : Port} {e : TerminalEntry} {q : TerminalRequest} (hq : q ∈ terminalRequests p e) :
    ∃ permitted d, q.Judged p e permitted d := by
  obtain ⟨hlock, hpos, hgangway, hmuster⟩ := TerminalEntry.kind_of_permitted (e := e)
  obtain ⟨hboundLock, hboundPos, hboundGangway, hboundMuster⟩ := TerminalEntry.permitted_of_boundAsKind (e := e)
  simp only [terminalRequests, List.mem_cons, List.not_mem_nil, or_false] at hq
  rcases hq with rfl | rfl | rfl | rfl | rfl | rfl | rfl | rfl | rfl
  · exact ⟨isLock, decideUnlock p, by simp, fun _ => rfl, hlock, hboundLock⟩
  · exact ⟨isCabinLock, decideLockMode, by simp, fun _ => rfl, isCabinLock_iff.mp, fun _ => isCabinLock_iff.mpr⟩
  · exact ⟨isPos, decideCharge p, by simp, fun _ => rfl, hpos, hboundPos⟩
  · exact ⟨isPos, decideOpenTab p, by simp, fun _ => rfl, hpos, hboundPos⟩
  · exact ⟨isPos, decideCloseTab, by simp, fun _ => rfl, hpos, hboundPos⟩
  · exact ⟨isPos, decideVoidTab, by simp, fun _ => rfl, hpos, hboundPos⟩
  · exact ⟨isGangway, decideGangway p, by simp, fun _ => rfl, hgangway, hboundGangway⟩
  · exact ⟨isMuster, decideMusterTap p, by simp, fun _ => rfl, hmuster, hboundMuster⟩
  · refine ⟨isPosOrKiosk, decideLookup p, by simp, fun _ => rfl, fun h => ?_, fun h hk => ?_⟩
    · rcases Bool.or_eq_true_iff.mp h with h | h
      · exact .inl (hpos h)
      · exact .inr (of_decide_eq_true h)
    · exact Bool.or_eq_true_iff.mpr (hk.imp (hboundPos h) decide_eq_true)

/-! ### The checks before the judgement (R172, R173) -/

section
variable {s : State} {e : TerminalEntry} {permitted : TerminalEntry → Bool} {size : Nat} {f : Frame}

theorem admission_disabled (he : e.enabled = false) :
    admission s e false permitted size f = some .terminalDisabled := by
  simp [admission, he]

theorem admission_wrongTerminal (he : e.enabled = true) (hp : permitted e = false) :
    admission s e false permitted size f = some .wrongTerminal := by
  simp [admission, he, hp]

theorem admission_badRequest (he : e.enabled = true) (hp : permitted e = true) (hs : f.body.length ≠ size) :
    admission s e false permitted size f = some .badRequest := by
  simp [admission, he, hp, hs]

theorem admission_notReady (he : e.enabled = true) (hp : permitted e = true) (hs : f.body.length = size)
    (hl : s.management.service = .loading) : admission s e false permitted size f = some .notReady := by
  simp [admission, he, hp, hs, hl]

/-- A PING is admitted by the size of its body alone. -/
theorem admission_ping : admission s e true (fun _ => true) 0 f = if f.body = [] then none else some .badRequest := by
  simp [admission]

end

section
variable {s : State} {p : Port} {f : Frame}

/-- The end of the request in hand, by whether there is one (R165, R166). -/
theorem endInHand_eq : endInHand p s =
    s.setPort p
      { s.port p with
        inHand := none
        replies := (s.port p).replies ++ (match (s.port p).inHand with | some h => [h.reply] | none => []) } := by
  rw [endInHand, PortBlock.decided]
  cases (s.port p).inHand <;> rfl

/-- A frame of an unknown kind is taken and refused (R172). -/
theorem takeUnknownKind_unknown (h : (s.port p).queue.head? = some f) (hk : f.kind ∉ terminalKinds) :
    takeUnknownKind p s = (reportRefusal p f.term .badRequest none none s).answered p f .badRequest [] := by
  simp only [takeUnknownKind, State.oldestFrame, h, hk, if_false]
  rw [takeFrame_eq, answer]
  simp only [bare, reportRefusal_setPorts]
  exact holdReply_setPorts _ [] (reportRefusal_ports ..)

/-- No frame of a known kind is taken as one of an unknown kind (log 4). -/
theorem takeUnknownKind_known (h : ∀ f, (s.port p).queue.head? = some f → f.kind ∈ terminalKinds) :
    takeUnknownKind p s = endInHand p s := by
  cases hf : (s.port p).queue.head? with
  | none => simp only [takeUnknownKind, State.oldestFrame, hf]
  | some f => simp only [takeUnknownKind, State.oldestFrame, hf, h f hf, if_true]

/-- A frame that passes the checks is judged by its unit and answered. -/
theorem takeRequest_passed {kind : Byte} {permitted : TerminalEntry → Bool} {size : Nat}
    {d : TerminalEntry → Frame → State → Verdict} (h : (s.port p).queue.head? = some f) (hk : f.kind = kind)
    (ha : admission s (s.terminal p f.term) (decide (kind = 0x00)) permitted size f = none) :
    takeRequest p kind permitted size d s = answer p f (d (s.terminal p f.term) f (takeFrame p s)) := by
  simp only [takeRequest, State.oldestFrame, h, hk, if_true, ha]

/-- A PING is answered with the service state and its terminal's entry (R174). -/
theorem takePing (h : (s.port p).queue.head? = some f) (hk : f.kind = 0x00) (hb : f.body = []) :
    takeRequest p 0x00 (fun _ => true) 0 decidePing s = s.answered p f .ok (pingBody (s.terminal p f.term) s) := by
  rw [takeRequest_passed h hk (by rw [decide_eq_true rfl, admission_ping, if_pos hb]), takeFrame_eq, answer,
    reportRefusal_ok rfl]
  exact holdReply_setPorts _ _ rfl

end

/-- Settles O52: what no unit decides, a command whose frame is not the oldest, and the checks of each request. -/
theorem portAnswersBeforeAnyUnit : Obligations.PortAnswersBeforeAnyUnit := by
  refine ⟨fun s p f hf => ⟨fun hk => ?_, fun hk hb => ?_, fun hk hb => ?_⟩, fun s p e => ?_, fun s p f hf => ?_⟩
  · exact congrArg Host.Outcome.next (takeUnknownKind_unknown hf hk)
  · exact congrArg Host.Outcome.next (takePing hf hk hb)
  · refine congrArg Host.Outcome.next (takeRequest_barred hf hk ?_)
    rw [decide_eq_true rfl, admission_ping, if_neg hb]
  · intro decided
    have hdecided : endInHand p s = decided := endInHand_eq
    refine ⟨fun h => ?_, fun h => ?_, fun q hq h => ?_⟩
    · exact congrArg Host.Outcome.next ((takeUnknownKind_known h).trans hdecided)
    · exact congrArg Host.Outcome.next ((takeRequest_other h).trans hdecided)
    · obtain ⟨permitted, d, hj⟩ := terminalRequests_judged hq
      rw [hj.take, takeRequest_other h, hdecided]
  · intro e refused q hq hk
    obtain ⟨permitted, d, hj⟩ := terminalRequests_judged hq
    have hrefused {x : Result} (ha : admission s e false permitted q.size f = some x) :
        exec q.take s = .next (refused x) := by
      rw [hj.take]
      exact congrArg Host.Outcome.next (takeRequest_barred hf hk (by rw [decide_eq_false hj.kind]; exact ha))
    refine ⟨fun he => hrefused (admission_disabled he), fun he hp => hrefused (admission_wrongTerminal he ?_),
      fun he hb hp hs => hrefused (admission_badRequest he (hj.bound hb hp) hs),
      fun he hb hp hs hl => hrefused (admission_notReady he (hj.bound hb hp) hs hl)⟩
    rw [← Bool.not_eq_true]
    exact fun h => hp (hj.only h)

end Sys2Proof.Machine
end

section
/-! The requests of the host on the terminal table and the ports, and the step: O53 and O1. -/

namespace Sys2Proof.Machine

/-! ### The body of LOAD_TERMINAL (R167, R170) -/

/-- The marker byte and the number of a binding as one number of three bytes (R167). -/
def Binding.spelled (b : Binding) : Nat := b.marker * 65536 + b.number

section
variable {b : Binding}

theorem Binding.spelled_lt (h : b.number < 65536) : b.spelled < 256 ^ 3 := by
  have hmarker : b.marker < 5 := by cases b <;> simp [Binding.marker]
  rw [Binding.spelled]
  omega

/-- A binding in its range is read back from the number that it is spelled as. -/
theorem loadedBinding_spelled {kind : TerminalKind} (hk : kind ≠ .kiosk) (hn : b.number < 65536)
    (hb : bindingOf kind b.marker b.number = some b) : loadedBinding kind (.here b.spelled) = some (some b) := by
  have hmarker : b.spelled / 65536 = b.marker := by rw [Binding.spelled]; omega
  have hnumber : b.spelled % 65536 = b.number := by rw [Binding.spelled]; omega
  rw [loadedBinding, if_neg hk, hmarker, hnumber, hb]
  rfl

end

theorem bindingField_optional (binding : Option Binding) (h : ∀ b, binding = some b → b.number < 65536) :
    optional (fun b => byte b.marker ++ bytes 2 b.number) binding =
      optional (bytes 3) (binding.map Binding.spelled) := by
  cases binding with
  | none => rfl
  | some b => exact congrArg (List.cons 0x01) (bindingField b (h b rfl))

theorem readTerminalLoad_body (p : Port) {term : Nat} {kind : TerminalKind} {binding : Option Binding} {enabled : Bool}
    (hterm : term < 64) (hn : ∀ b, binding = some b → b.number < 65536)
    (hb : loadedBinding kind (.ofOption (binding.map Binding.spelled)) = some binding) :
    readTerminalLoad
        (byte p.val ++ byte term ++ byte (terminalKindCode kind) ++
          optional (fun b => byte b.marker ++ bytes 2 b.number) binding ++ flagByte enabled) =
      .good ⟨p, term, ⟨some kind, binding, enabled⟩⟩ := by
  have hp := p.isLt
  have hkind := terminalKindCode_lt kind
  have hflag := flagCode_lt enabled
  have hspelled : ∀ v, binding.map Binding.spelled = some v → v < 256 ^ 3 := by
    intro v hv
    obtain ⟨b, hb, rfl⟩ := Option.map_eq_some_iff.mp hv
    exact b.spelled_lt (hn b hb)
  rw [bindingField_optional binding hn]
  have hs : split [.fixed 1, .fixed 1, .fixed 1, .optional 3, .fixed 1]
      (byte p.val ++ byte term ++ byte (terminalKindCode kind) ++ optional (bytes 3) (binding.map Binding.spelled) ++
        flagByte enabled) =
      some [.here p.val, .here term, .here (terminalKindCode kind), .ofOption (binding.map Binding.spelled),
        .here (flagCode enabled)] := by
    simp only [List.append_assoc, byte, flagByte]
    rw [split_fixed 1 _ _ _ (by omega), split_fixed 1 _ _ _ (by omega), split_fixed 1 _ _ _ (by omega),
      split_optional 3 _ _ _ hspelled, split_last 1 _ _ (by omega)]
    rfl
  simp only [readTerminalLoad, fields, hs, portOf_val]
  simp [Config.terminalsPerPort, hterm, hb]

/-- The bindings that LOAD_TERMINAL takes for a kind (R170). -/
def TerminalKind.loads : TerminalKind → Option Binding → Prop
  | .kiosk, none => True
  | .lock, some (.cabin c) => c < 3072
  | .lock, some (.zone z) => z < 64
  | .pos, some (.venue v) => v < 128
  | .gangway, some (.gangway g) => g < 8
  | .muster, some (.station n) => n < 16
  | _, _ => False

theorem loadedBinding_of_loads {kind : TerminalKind} {binding : Option Binding} (h : kind.loads binding) :
    (∀ b, binding = some b → b.number < 65536) ∧
      loadedBinding kind (.ofOption (binding.map Binding.spelled)) = some binding := by
  have hbound {k : TerminalKind} {b : Binding} (hk : k ≠ .kiosk) (hn : b.number < 65536)
      (hb : bindingOf k b.marker b.number = some b) :
      (∀ b', some b = some b' → b'.number < 65536) ∧ loadedBinding k (.here b.spelled) = some (some b) :=
    ⟨by rintro _ ⟨⟩; exact hn, loadedBinding_spelled hk hn hb⟩
  unfold TerminalKind.loads at h
  split at h
  case h_1 => exact ⟨by simp, rfl⟩
  case h_7 => exact h.elim
  all_goals exact hbound (by decide) (h.trans (by decide)) (if_pos h)

/-! ### The requests (R170, R175, R176) -/

/-- Settles O53: each request reads its operands and writes its entry of the terminal table or its port. -/
theorem terminalAndPortRequestsComplete : Obligations.TerminalAndPortRequestsComplete := by
  refine fun s p => ⟨fun hready term hterm => ⟨fun kind binding enabled hbinding => ?_, fun enabled hkind => ?_,
    fun hkind enabled => ?_⟩, fun hready => ?_, fun hidle => ?_⟩
  · obtain ⟨hn, hloaded⟩ := loadedBinding_of_loads hbinding
    have hlength := optional_bytes_length_le 3 (binding.map Binding.spelled)
    exact manage_checked hready (by simp [bindingField_optional binding hn]; omega)
      (readTerminalLoad_body p hterm hn hloaded) (fun m => rfl) rfl rfl rfl
  · exact manage_checked hready (by simp) (readTerminalEnable_body p hterm)
      (fun m => if_neg (by simp [hkind])) rfl rfl rfl
  · exact manage_checked hready (by simp) (readTerminalEnable_body p hterm)
      (fun m => if_pos (by simp [hkind])) rfl rfl rfl
  · exact manage_checked hready (by simp) (readPort_body p) (fun m => rfl) rfl rfl rfl
  · exact manage_effect hidle (.inr (by decide)) (by simp) (fun m => by rw [decideReadPort, readPort_body]; rfl)
      rfl rfl rfl

/-! ### The step (log 1) -/

/-- No command ends in a fault or a refusal: the meaning of each is a next state. -/
theorem exec_next (c : Instr) (s : State) : ∃ t, exec c s = .next t := by
  cases c <;> exact ⟨_, rfl⟩

/-- Settles O1: the step by the queue, and every command by its meaning. -/
theorem stepRunsTheFrontCommand : Obligations.StepRunsTheFrontCommand :=
  ⟨fun _ _ _ => rfl, fun s h => by rw [step, h], exec_next⟩

end Sys2Proof.Machine
end

section
/-! The part right after a power-on reset: its blocks, O2, and the laws of the state, O3. -/

namespace Sys2Proof.Machine

/-! ### Every block at its power-on value -/

theorem reset_cell (c : PersonClass) (l : Location) : cell State.reset.passage.counts c l = 0 := by
  cases c <;> cases l <;> rfl

/-- R41, R62: CREW has its own policy at power-on, and the other classes share one. -/
theorem reset_classPolicy (c : PersonClass) :
    State.reset.access.policies.get c =
      if c = .crew then { ashoreCheck := false, passback := .soft }
      else { ashoreCheck := true, passback := .hard } := by
  cases c <;> rfl

theorem reset_standalonePolicy (c : Category) : State.reset.settings.policies.get c = .cap := by
  cases c <;> rfl

theorem reset_capacity (t : CapacityTable) :
    State.reset.notice.levels.get t = .below ∧ State.reset.notice.flags.get t = false := by
  cases t <;> exact ⟨rfl, rfl⟩

/-- Settles O2: each block is spelled out by `State.reset`, and a table that lists nothing gives power-on values. -/
theorem resetAndPowerOn : Obligations.ResetAndPowerOn := by
  refine ⟨⟨reset_port, fun _ _ => rfl, ⟨rfl, rfl, rfl, rfl, rfl, rfl, rfl⟩,
    ⟨rfl, rfl, rfl, rfl, reset_standalonePolicy, rfl, rfl, rfl, rfl, rfl, rfl, rfl, rfl, rfl⟩,
    ⟨fun _ => rfl, fun _ => rfl, rfl⟩, ⟨fun _ => rfl, fun _ => rfl, rfl, fun c hc => ?_⟩, ⟨reset_cell, rfl⟩,
    ⟨rfl, rfl, ByClass.get_zero, fun _ => rfl⟩, ⟨rfl, rfl, rfl, rfl, rfl⟩,
    ⟨fun _ => rfl, fun _ => rfl, fun _ => rfl, fun _ => rfl, rfl⟩,
    ⟨rfl, rfl, rfl, reset_capacity, rfl, rfl, rfl⟩⟩, fun _ => rfl⟩
  rw [reset_classPolicy, if_neg hc]

/-! ### The laws of the state -/

theorem reset_serviceGood : State.reset.serviceGood := by
  simp [State.serviceGood, State.reset, ManagementPort.powerOn]

theorem reset_phaseGood : State.reset.phaseGood := by
  simp [State.phaseGood, State.reset]

theorem reset_dayGood : State.reset.dayGood := by
  simp [State.dayGood, State.reset]

theorem reset_lineGood : State.reset.lineGood := ⟨rfl, rfl⟩

theorem reset_countsGood : State.reset.countsGood := ⟨rfl, reset_cell⟩

theorem reset_musterGood : State.reset.musterGood := ⟨rfl, rfl, ByClass.get_zero, fun _ => rfl⟩

theorem reset_membersGood : State.reset.membersGood :=
  ⟨rfl, rfl, by simp [State.record, State.reset], by simp [State.folio, State.reset]⟩

theorem reset_foliosGood : State.reset.foliosGood := (State.foliosGood_iff _).mpr .empty

theorem reset_tabsGood : State.reset.tabsGood :=
  ⟨rfl, rfl, by decide, List.nodup_nil, fun _ he => absurd he List.not_mem_nil⟩

theorem reset_sizesGood : State.reset.sizesGood := ⟨Nat.zero_le _, Nat.zero_le _, List.nodup_nil⟩

/-- Settles O3: each law asks about entries of tables that are empty at reset, or about blocks at power-on. -/
theorem lawsHoldAtReset : Obligations.LawsHoldAtReset :=
  ⟨reset_portsGood, reset_serviceGood, reset_phaseGood, reset_dayGood, reset_lineGood, reset_countsGood,
    reset_musterGood, reset_membersGood, reset_recordsGood, reset_credentialsGood, reset_cabinsGood, reset_foliosGood,
    reset_tabsGood, reset_timersGood, reset_sizesGood⟩

end Sys2Proof.Machine
end

section
/-! Transactions that take no request: the reads and the polls, O14, and the writes that are discarded. -/

namespace Sys2Proof.Machine

/-! ### Reads and polls (R178, R179, R181) -/

section
variable {s : State}

theorem exec_readReply_read (bs : List Byte) (s : State) :
    exec (.readReply (0x02 :: bs)) s = .next (readReply bs.length s) := rfl

theorem exec_readReply_poll {first : Byte} (hw : first ≠ 0x01) (hr : first ≠ 0x02) (bs : List Byte) (s : State) :
    exec (.readReply (first :: bs)) s = .next (poll bs.length s) := by
  simp only [exec, execReadReply, transactionOf_poll hw hr]

theorem readReply_whole {n : Nat} (h : s.management.state = .replyWaiting)
    (hn : (managementReplyBytes s.management.reply).length ≤ n) :
    readReply n s =
      { s with management :=
          { s.management with
            state := .idle
            shiftedOut :=
              0x02 :: (managementReplyBytes s.management.reply ++
                List.replicate (n - (managementReplyBytes s.management.reply).length) 0xFF) } } := by
  simp [readReply, readsWhole, readBytes, ManagementPort.status, h, hn, List.take_of_length_le hn]

theorem readReply_part {n : Nat} (h : s.management.state = .replyWaiting)
    (hn : n < (managementReplyBytes s.management.reply).length) :
    readReply n s =
      { s with management :=
          { s.management with shiftedOut := 0x02 :: (managementReplyBytes s.management.reply).take n } } := by
  simp [readReply, readsWhole, readBytes, ManagementPort.status, h, hn, Nat.sub_eq_zero_of_le hn.le]

/-- A read of a port that is not REPLY_WAITING leaves the port as it was, but for what it shifts out. -/
theorem readReply_kept {n : Nat} (h : s.management.state ≠ .replyWaiting) :
    readReply n s =
      { s with management :=
          { s.management with shiftedOut := s.management.status :: readBytes s.management n } } := by
  simp [readReply, readsWhole, h]

end

/-- Settles O14: a read by the state of the port and the length of the reply, and the other first bytes. -/
theorem readSendsReplyAndFreesPort : Obligations.ReadSendsReplyAndFreesPort := by
  refine fun bs s => ⟨fun h hn => ?_, fun h hn => ?_, fun h => ?_, fun h => ?_, fun first hw hr => ?_, rfl⟩
  · rw [exec_readReply_read, readReply_whole h hn]
  · rw [exec_readReply_read, readReply_part h hn]
  · rw [exec_readReply_read, readReply_kept (by simp [h])]
    simp [readBytes, ManagementPort.status, h]
  · rw [exec_readReply_read, readReply_kept (by simp [h])]
    simp [readBytes, ManagementPort.status, h]
  · exact exec_readReply_poll hw hr bs s

/-! ### Writes that are not taken (R180) -/

theorem discardUntaken_of_not {bs : List Byte} {s : State}
    (h : ¬ (s.management.state = .idle ∧ managementFrameGood bs = true)) :
    discardUntaken bs s = discardWrite bs.length s := if_neg h

theorem exec_writeDiscarded (bs : List Byte) (s : State) :
    exec (.writeDiscarded (0x01 :: bs)) s = .next (discardUntaken bs s) := rfl

end Sys2Proof.Machine
end

section
/-! What every request of the host is: the take, the gate and a decision that is answered. O11, O12 and O13. -/

namespace Sys2Proof.Machine

/-! ### A refused request answers with an empty body (R182) -/

/-- The reply carries no fields unless the request is carried out (R182). -/
def Decision.bareUnlessDone (d : Decision) : Prop := d.code ≠ .done → d.body = []

section
variable {α : Type} {s : State}

@[simp] theorem done_bare (reply : List Byte) (s : State) : (done reply s).bareUnlessDone := fun h => absurd rfl h

@[simp] theorem refuse_bare (c : ReplyCode) (s : State) : (refuse c s).bareUnlessDone := fun _ => rfl

theorem checked_bare {p : Parsed α} {run : α → Decision} (h : ∀ a, (run a).bareUnlessDone) :
    (checked p s run).bareUnlessDone := by
  cases p with
  | good a => exact h a
  | badRequest | range => exact refuse_bare _ s

theorem withRecord_bare {slot : Nat} {run : Record → Decision} (h : ∀ r, (run r).bareUnlessDone) :
    (withRecord slot s run).bareUnlessDone := by
  unfold withRecord
  split
  · exact h _
  · exact refuse_bare _ s

theorem withFolio_bare {slot : Nat} {run : Folio → Decision} (h : ∀ f, (run f).bareUnlessDone) :
    (withFolio slot s run).bareUnlessDone := by
  unfold withFolio
  split
  · exact h _
  · exact refuse_bare _ s

theorem ite_bare {c : Prop} [Decidable c] {d e : Decision} (hd : d.bareUnlessDone) (he : e.bareUnlessDone) :
    (if c then d else e).bareUnlessDone := by
  split
  · exact hd
  · exact he

/-- An ordered list of checks that may refuse, and what the request does when all pass. -/
theorem refuseBy_bare {o : Option ReplyCode} {d : Decision} (h : d.bareUnlessDone) :
    (match o with
      | some c => refuse c s
      | none => d).bareUnlessDone := by
  cases o with
  | some c => exact refuse_bare c s
  | none => exact h

end

section
variable (body : List Byte) (s : State)

theorem decideIssue_bare : (decideIssue body s).bareUnlessDone :=
  checked_bare fun _ => withFolio_bare fun _ => ite_bare (refuse_bare _ s) <| ite_bare (refuse_bare _ s) <| by
    split <;> simp

theorem decideConfirm_bare : (decideConfirm body s).bareUnlessDone :=
  checked_bare fun _ => withRecord_bare fun _ => by
    split
    · simp
    · exact ite_bare (refuse_bare _ s) (by split <;> simp)

theorem decideCancel_bare : (decideCancel body s).bareUnlessDone :=
  checked_bare fun _ => withRecord_bare fun _ => by
    split
    · simp
    · exact ite_bare (refuse_bare _ s) (done_bare _ _)

theorem decideRevoke_bare : (decideRevoke body s).bareUnlessDone :=
  checked_bare fun _ => by
    split
    · simp
    · simp
    · exact ite_bare (refuse_bare _ s) (refuse_bare _ s)

theorem decideRemoveRevoked_bare : (decideRemoveRevoked body s).bareUnlessDone :=
  checked_bare fun _ => by split <;> simp

theorem decideReadRecord_bare : (decideReadRecord body s).bareUnlessDone :=
  checked_bare fun _ => by split <;> simp

theorem decideReadFolio_bare : (decideReadFolio body s).bareUnlessDone :=
  checked_bare fun _ => by split <;> simp

theorem decideOpenFolio_bare : (decideOpenFolio body s).bareUnlessDone :=
  checked_bare fun _ => by split <;> simp

theorem decideHostVoidTab_bare : (decideHostVoidTab body s).bareUnlessDone :=
  checked_bare fun _ => by split <;> simp

theorem decideReadTab_bare : (decideReadTab body s).bareUnlessDone :=
  checked_bare fun _ => by split <;> simp

theorem hostPosting_bare (slot : Nat) (f posted : Folio) (b : Bool) : (hostPosting slot f posted b s).bareUnlessDone :=
  ite_bare (refuse_bare _ s) (ite_bare (refuse_bare _ s) (done_bare _ _))

theorem phaseChange_bare (p : Phase) : (phaseChange p s).bareUnlessDone := by
  unfold phaseChange
  split <;> simp

end

/-! ### The rejected flag and the watchdog as a take leaves them (R180, R185) -/

/-- What a take at a run time leaves at the port, with the run time still the same: the rejected flag is clear, and the
watchdog is set anew by the service state and the code that stand (R180, R185). -/
def State.takenAt (s : State) (now : Nat) : Prop :=
  s.management.rejected = false ∧ s.clock.runTime = now ∧
    s.management.watchdog =
      if s.management.service = .serving then (watchdogTimeout s.settings.watchdogCode).map (now + ·) else none

section
variable {α : Type} {s t : State} {now : Nat}

theorem restartWatchdog_taken (hf : s.management.rejected = false) (hr : s.clock.runTime = now) :
    (restartWatchdog s).takenAt now := by
  subst hr
  exact ⟨hf, rfl, rfl⟩

theorem takeWrite_taken (kind : Byte) (body : List Byte) (s : State) :
    (takeWrite kind body s).takenAt s.clock.runTime := restartWatchdog_taken rfl rfl

/-- A restart of the watchdog, by another service state or another code (R185). -/
theorem State.takenAt.restart (hs : s.takenAt now) (hf : t.management.rejected = s.management.rejected)
    (hr : t.clock.runTime = s.clock.runTime) : (restartWatchdog t).takenAt now := by
  obtain ⟨hflag, hrun, -⟩ := hs
  exact restartWatchdog_taken (hf.trans hflag) (hr.trans hrun)

/-- A change that keeps the port, the watchdog code and the run time. -/
theorem State.takenAt_congr (hm : t.management = s.management)
    (hc : t.settings.watchdogCode = s.settings.watchdogCode) (hr : t.clock.runTime = s.clock.runTime)
    (h : s.takenAt now) : t.takenAt now := by
  unfold State.takenAt at h ⊢
  rwa [hm, hc, hr]

theorem takenAt_of_regime (hr : t.regime = s.regime) (h : s.takenAt now) : t.takenAt now := by
  obtain ⟨hm, hcode, -, -, -, hclock⟩ := State.regime_eq_iff.mp hr
  exact State.takenAt_congr hm hcode (by rw [hclock]) h

theorem rolloverTest_taken (h : s.takenAt now) : (rolloverTest s).1.takenAt now :=
  State.takenAt_congr (by simp) (by simp) (by simp) h

theorem checked_taken {p : Parsed α} {run : α → Decision} (hs : s.takenAt now)
    (h : ∀ a, (run a).state.takenAt now) : (checked p s run).state.takenAt now := by
  cases p with
  | good a => exact h a
  | badRequest | range => exact hs

theorem refuseIf_taken {c : Prop} [Decidable c] {code : ReplyCode} {d : Decision} (hs : s.takenAt now)
    (h : d.state.takenAt now) : (if c then refuse code s else d).state.takenAt now := by
  split
  · exact hs
  · exact h

theorem decideSetTime_taken (body : List Byte) (hs : s.takenAt now) :
    (decideSetTime body s).state.takenAt now :=
  checked_taken hs fun t => by
    cases hc : s.clock.status with
    | unset => exact hs
    | set => exact rolloverTest_taken (s := setShipTime t s) hs

/-- A change of phase leaves the port, the settings and the time base as they were (R84 to R86). -/
theorem phaseChange_taken (p : Phase) (hs : s.takenAt now) : (phaseChange p s).state.takenAt now := by
  unfold phaseChange
  split
  case h_3 => exact takenAt_of_regime (enterCutoff_regime _) (s := setPhase .cutoff s) hs
  case h_5 =>
    dsimp only [done, sail]
    split <;> exact hs
  all_goals exact hs

theorem decideEndMuster_taken (body : List Byte) (hs : s.takenAt now) :
    (decideEndMuster body s).state.takenAt now := by
  obtain ⟨hm, hset, hclock⟩ := leaveMusterPhase_frame (restoredPhase s) s
  have hleft : (leaveMusterPhase (restoredPhase s) s).takenAt now :=
    State.takenAt_congr hm (by rw [hset]) (by rw [hclock]) hs
  exact checked_taken hs fun _ => refuseIf_taken hs hleft

theorem decideOpenService_taken (body : List Byte) (hs : s.takenAt now) :
    (decideOpenService body s).state.takenAt now :=
  checked_taken hs fun _ => refuseIf_taken hs (refuseIf_taken hs (hs.restart rfl rfl))

theorem decideResumeService_taken (body : List Byte) (hs : s.takenAt now) :
    (decideResumeService body s).state.takenAt now :=
  checked_taken hs fun _ => refuseIf_taken hs (hs.restart rfl rfl)

theorem decideServiceReset_taken (body : List Byte) (hs : s.takenAt now) :
    (decideServiceReset body s).state.takenAt now :=
  checked_taken hs fun _ => hs.restart (by split <;> rfl) (by split <;> rfl)

theorem applySetting_taken (v : SettingValue) (hs : s.takenAt now) : (applySetting v s).takenAt now := by
  cases v with
  | watchdogCode n => exact hs.restart rfl rfl
  | rolloverHour n =>
    exact rolloverTest_taken (s := { s with settings := { s.settings with rolloverHour := n } }) hs
  | lineMode m => exact takenAt_of_regime (setLineMode_regime s m) hs
  | reservationCode | blankingCode | policy | standaloneLimit | enables | refusalMask | threshold | latchMode | ackMode
      | pulseCode | holdoff => exact hs

end

/-! ### Every request of the host -/

/-- What a command that writes a request frame is, when the kind is in the table: the take by `manage`, with a decision
that refuses with an empty body, and that keeps the rejected flag and the watchdog as the take left them or restarts the
watchdog (R180, R182, R185). -/
inductive Managed (i : Instr) (kind : Byte) (body : List Byte) : Prop
  | intro (d : State → Decision) (hexec : ∀ s, exec i s = .next (manage kind body d s))
      (hbare : ∀ s, (d s).bareUnlessDone) (htaken : ∀ s now, s.takenAt now → (d s).state.takenAt now)

/-- A request that leaves the regime as the take made it. -/
theorem Managed.quiet {i : Instr} {kind : Byte} {body : List Byte} {d : State → Decision}
    (hexec : ∀ s, exec i s = .next (manage kind body d s)) (hbare : ∀ s, (d s).bareUnlessDone)
    (hregime : ∀ s, (d s).state.regime = s.regime) : Managed i kind body :=
  .intro d hexec hbare fun s _ => takenAt_of_regime (hregime s)

/-- A command that writes a request frame is UNKNOWN_KIND, or the take of a request that its own kind decides (R182). -/
theorem request_cases {i : Instr} {kind : Byte} {body : List Byte} (h : i.request = some (kind, body)) :
    i = .unknownKind kind body ∨ Managed i kind body := by
  cases i
  all_goals cases h
  case unknownKind => exact .inl rfl
  all_goals refine .inr ?_
  case setTime =>
    exact .intro _ (fun _ => rfl) (fun _ => checked_bare fun _ => done_bare _ _) fun _ _ => decideSetTime_taken body
  case setPhase =>
    exact .intro _ (fun _ => rfl) (fun s => checked_bare fun p => phaseChange_bare s p)
      fun _ _ hs => checked_taken hs fun p => phaseChange_taken p hs
  case endMuster =>
    exact .intro _ (fun _ => rfl) (fun s => checked_bare fun _ => ite_bare (refuse_bare _ s) (done_bare _ _))
      fun _ _ => decideEndMuster_taken body
  case openService =>
    exact .intro _ (fun _ => rfl)
      (fun s => checked_bare fun _ => ite_bare (refuse_bare _ s) (ite_bare (refuse_bare _ s) (done_bare _ _)))
      fun _ _ => decideOpenService_taken body
  case resumeService =>
    exact .intro _ (fun _ => rfl) (fun s => checked_bare fun _ => ite_bare (refuse_bare _ s) (done_bare _ _))
      fun _ _ => decideResumeService_taken body
  case serviceReset =>
    exact .intro _ (fun _ => rfl) (fun _ => checked_bare fun _ => done_bare _ _)
      fun _ _ => decideServiceReset_taken body
  case setSetting =>
    exact .intro _ (fun _ => rfl) (fun _ => checked_bare fun _ => done_bare _ _)
      fun _ _ hs => checked_taken hs fun v => applySetting_taken v hs
  case issueRecord => exact .quiet (fun _ => rfl) (decideIssue_bare body) (decideIssue_regime body)
  case reserveCredential =>
    exact .quiet (fun _ => rfl) (fun _ => checked_bare fun _ => withRecord_bare fun _ => refuseBy_bare (done_bare _ _))
      (decideReserve_regime body)
  case confirmCredential => exact .quiet (fun _ => rfl) (decideConfirm_bare body) (decideConfirm_regime body)
  case cancelCredential => exact .quiet (fun _ => rfl) (decideCancel_bare body) (decideCancel_regime body)
  case revokeCredential => exact .quiet (fun _ => rfl) (decideRevoke_bare body) (decideRevoke_regime body)
  case removeRevoked => exact .quiet (fun _ => rfl) (decideRemoveRevoked_bare body) (decideRemoveRevoked_regime body)
  case retireRecord =>
    exact .quiet (fun _ => rfl) (fun _ => checked_bare fun _ => withRecord_bare fun _ => refuseBy_bare (done_bare _ _))
      (fun _ => checked_regime fun _ => withRecord_regime fun _ => refuseBy_regime (retire_regime _ _ _))
  case setCabinZones =>
    exact .quiet (fun _ => rfl) (fun _ => checked_bare fun _ => done_bare _ _)
      (fun _ => checked_regime fun q => loadZones_regime _ q.1 q.2)
  case assignCabin =>
    exact .quiet (fun _ => rfl) (fun _ => checked_bare fun _ => withRecord_bare fun _ => refuseBy_bare (done_bare _ _))
      (fun _ => checked_regime fun _ => withRecord_regime fun _ => refuseBy_regime rfl)
  case setLocation =>
    exact .quiet (fun _ => rfl)
      (fun _ => checked_bare fun _ => withRecord_bare fun _ => ite_bare (done_bare _ _) (done_bare _ _))
      (decideSetLocation_regime body)
  case linkRecord =>
    exact .quiet (fun _ => rfl)
      (fun _ => checked_bare fun _ => withRecord_bare fun _ => withFolio_bare fun _ => refuseBy_bare (done_bare _ _))
      (decideLink_regime body)
  case openFolio => exact .quiet (fun _ => rfl) (decideOpenFolio_bare body) (decideOpenFolio_regime body)
  case closeFolio =>
    exact .quiet (fun _ => rfl)
      (fun _ => checked_bare fun _ => withFolio_bare fun _ => refuseBy_bare (ite_bare (done_bare _ _) (done_bare _ _)))
      (decideCloseFolio_regime body)
  case resumeFolio =>
    exact .quiet (fun _ => rfl)
      (fun s => checked_bare fun _ => withFolio_bare fun _ =>
        ite_bare (refuse_bare _ s) (ite_bare (done_bare _ _) (ite_bare (done_bare _ _) (refuse_bare _ s))))
      (decideResumeFolio_regime body)
  case setLimits =>
    exact .quiet (fun _ => rfl)
      (fun s => checked_bare fun _ => withFolio_bare fun _ => ite_bare (refuse_bare _ s) (done_bare _ _))
      (fun _ => checked_regime fun _ => withFolio_regime fun _ => refuseIf_regime (storeReevaluated_regime _ _ _))
  case postPayment | postRefund | postAdjustment =>
    exact .quiet (fun _ => rfl) (fun s => checked_bare fun _ => withFolio_bare fun _ => hostPosting_bare s _ _ _ _)
      (fun _ => checked_regime fun _ => withFolio_regime fun _ => hostPosting_regime _ _ _ _ _)
  case hostVoidTab => exact .quiet (fun _ => rfl) (decideHostVoidTab_bare body) (decideHostVoidTab_regime body)
  case readNotices =>
    exact .quiet (fun _ => rfl) (fun _ => checked_bare fun _ => done_bare _ _) (decideReadNotices_regime body)
  case readRecord =>
    exact .quiet (fun _ => rfl) (decideReadRecord_bare body) fun s => checked_regime fun slot => by
      cases s.record slot <;> rfl
  case readFolio =>
    exact .quiet (fun _ => rfl) (decideReadFolio_bare body) fun s => checked_regime fun slot => by
      cases s.folio slot <;> rfl
  case readTab =>
    exact .quiet (fun _ => rfl) (decideReadTab_bare body) fun s => checked_regime fun n => by cases s.tab n <;> rfl
  case setMessage | setWatch | setFinal | setTier | setCap | setStation =>
    exact .quiet (fun _ => rfl) (fun _ => checked_bare fun _ => withRecord_bare fun _ => done_bare _ _)
      (fun _ => checked_regime fun _ => withRecord_regime fun _ => rfl)
  case holdRecord | releaseRecord | vacateCabin | setRole =>
    exact .quiet (fun _ => rfl)
      (fun s => checked_bare fun _ => withRecord_bare fun _ => ite_bare (refuse_bare _ s) (done_bare _ _))
      (fun _ => checked_regime fun _ => withRecord_regime fun _ => refuseIf_regime rfl)
  case reopenFolio | suspendFolio | addPrepaid =>
    exact .quiet (fun _ => rfl)
      (fun s => checked_bare fun _ => withFolio_bare fun _ => ite_bare (refuse_bare _ s) (done_bare _ _))
      (fun _ => checked_regime fun _ => withFolio_regime fun _ => refuseIf_regime rfl)
  case setTerminalEnabled =>
    exact .quiet (fun _ => rfl) (fun s => checked_bare fun _ => ite_bare (refuse_bare _ s) (done_bare _ _))
      (fun _ => checked_regime fun _ => refuseIf_regime rfl)
  case findCredential | readRevoked | readCabin | readRole | readCounts | scan | readTime | readMuster | readVenue
      | readTier | listTabs | readTerminals | readSettings | readService | setCabinMode | loadRole | setClassPolicy
      | readWatch | loadVenue | setVenueOpen | loadTier | loadTerminal | portReset | readPort | ackNotices =>
    exact .quiet (fun _ => rfl) (fun _ => checked_bare fun _ => done_bare _ _) (fun _ => checked_regime fun _ => rfl)

/-! ### Well-formed requests (R178, R182) -/

theorem wellFormed_body_le {i : Instr} {kind : Byte} {body : List Byte} (hw : i.wellFormed = true)
    (h : i.request = some (kind, body)) : body.length ≤ 1024 := by
  simp only [Instr.wellFormed, h, Bool.and_eq_true, Option.all_some, decide_eq_true_eq] at hw
  exact hw.2

theorem wellFormed_unlisted {kind : Byte} {body : List Byte} (hw : (Instr.unknownKind kind body).wellFormed = true) :
    kind ∉ managementKinds := by
  simp only [Instr.wellFormed, Instr.kindGood, Bool.and_eq_true, decide_eq_true_eq] at hw
  exact hw.1.1

theorem exec_unknownKind_idle {kind : Byte} {body : List Byte} {s : State} (hk : kind ∉ managementKinds)
    (hb : body.length ≤ 1024) (h : s.idle) :
    exec (.unknownKind kind body) s = .next (placeReply kind (refuse .unknownKind (takeWrite kind body s))) := by
  have htaken : s.management.state = .idle ∧ body.length ≤ Config.managementBody := ⟨h, hb⟩
  simp only [exec, execUnknownKind, takeUnlisted, if_neg hk, if_pos htaken]

theorem exec_unknownKind_busy {kind : Byte} {body : List Byte} {s : State} (hk : kind ∉ managementKinds)
    (h : ¬ s.idle) : exec (.unknownKind kind body) s = .next (discardWrite (requestFrameSize body.length) s) := by
  have hbusy : ¬ (s.management.state = .idle ∧ body.length ≤ Config.managementBody) := fun hc => h hc.1
  simp only [exec, execUnknownKind, takeUnlisted, if_neg hk, if_neg hbusy]

/-- A request refused right after its take changes nothing but the port (R182). -/
theorem placeReply_refuse (kind : Byte) (body : List Byte) (c : ReplyCode) (s : State) :
    placeReply kind (refuse c (takeWrite kind body s)) = s.replied kind body c [] :=
  placeReply_replied (u := s) kind body c [] rfl rfl rfl

/-! ### Writes that are not taken (R180) -/

/-- A request written to a port that is not IDLE is discarded, whatever its kind (R180). -/
theorem exec_request_busy {i : Instr} {kind : Byte} {body : List Byte} {s : State} (hw : i.wellFormed = true)
    (h : i.request = some (kind, body)) (hbusy : ¬ s.idle) :
    exec i s = .next (discardWrite (requestFrameSize body.length) s) := by
  rcases request_cases h with rfl | ⟨d, hexec, -, -⟩
  · exact exec_unknownKind_busy (wellFormed_unlisted hw) hbusy
  · rw [hexec, manage_busy hbusy]

/-- Settles O11: a write of a request to a port that is not IDLE, and a write whose frame is not taken. -/
theorem writeNotTakenIsDiscarded : Obligations.WriteNotTakenIsDiscarded :=
  ⟨fun _ _ _ _ hw hr hbusy => exec_request_busy hw hr hbusy,
    fun bs s h => by rw [exec_writeDiscarded, discardUntaken_of_not h]; rfl⟩

/-! ### The gates (R182) -/

/-- Settles O13: UNKNOWN_KIND by the kind alone, STANDALONE by the gate of the take. -/
theorem gateRefusesBeforeTheRequestsOwnChecks : Obligations.GateRefusesBeforeTheRequestsOwnChecks := by
  refine ⟨fun kind body s hk hb h => ?_, fun i kind body s hw hr hlisted hgated h hs => ?_⟩
  · rw [exec_unknownKind_idle hk hb h, placeReply_refuse]
  · rcases request_cases hr with rfl | ⟨d, hexec, -, -⟩
    · exact absurd hlisted (wellFormed_unlisted hw)
    · rw [hexec, manage_gated h (wellFormed_body_le hw hr) hs hgated, placeReply_refuse]

/-! ### The answer (R181, R182, R185) -/

/-- A taken request is answered with a decision that the gate, the kind or the request itself makes (R182). -/
theorem exec_request_idle {i : Instr} {kind : Byte} {body : List Byte} {s : State} (hw : i.wellFormed = true)
    (hr : i.request = some (kind, body)) (h : s.idle) :
    ∃ d : Decision, exec i s = .next (placeReply kind d) ∧ d.bareUnlessDone ∧
      d.state.takenAt s.clock.runTime := by
  have hb := wellFormed_body_le hw hr
  have htake := takeWrite_taken kind body s
  rcases request_cases hr with rfl | ⟨d, hexec, hbare, htaken⟩
  · exact ⟨_, exec_unknownKind_idle (wellFormed_unlisted hw) hb h, refuse_bare _ _, htake⟩
  · by_cases hg : s.management.service = .standalone ∧ kind ∉ standaloneKinds
    · have hgated := manage_gated (d := d) h hb hg.1 hg.2
      exact ⟨_, (hexec s).trans (congrArg _ hgated), refuse_bare _ _, htake⟩
    · have hpass : s.management.service ≠ .standalone ∨ kind ∈ standaloneKinds := by tauto
      have hpassed := manage_taken (d := d) h hb hpass
      exact ⟨_, (hexec s).trans (congrArg _ hpassed), hbare _, htaken _ _ htake⟩

/-- Settles O12: the reply is placed over a decision, and the watchdog stands as the last restart set it. -/
theorem everyTakenRequestIsAnswered : Obligations.EveryTakenRequestIsAnswered := by
  intro i kind body s hw hr h
  obtain ⟨d, hexec, hbare, hflag, -, hwatchdog⟩ := exec_request_idle hw hr h
  exact ⟨_, hexec, rfl, hflag, rfl, rfl, hbare, hwatchdog⟩

end Sys2Proof.Machine
end

section
/-! The service states: O54. -/

namespace Sys2Proof.Machine

section
variable {u s : State} {kind : Byte} {body reply : List Byte} {code : ReplyCode}

@[simp] theorem takeWrite_service : (takeWrite kind body s).management.service = s.management.service := rfl

@[simp] theorem takeWrite_standaloneSince :
    (takeWrite kind body s).management.standaloneSince = s.management.standaloneSince := rfl

/-- A request that restarts the watchdog after its effect `u`: the restart of its take is not seen (R185; log 24). -/
theorem placeReply_restarted (hm : u.management = s.management) :
    placeReply kind
        { code := code, body := reply, state := restartWatchdog (u.setManagement (takeWrite kind body s).management) } =
      u.replied kind body code reply := by
  simp [placeReply, State.replied, takeWrite, restartWatchdog, writeShiftOut, requestFrameSize, State.setManagement, hm]

/-- A request that makes the service state SERVING after its effect `u` (R184, R187, R190). -/
theorem placeReply_serving (hm : u.management = s.management) :
    placeReply kind
        { code := code
          body := reply
          state := restartWatchdog (setService .serving none (u.setManagement (takeWrite kind body s).management)) } =
      (setService .serving none u).replied kind body code reply := by
  simp [placeReply, State.replied, takeWrite, restartWatchdog, writeShiftOut, requestFrameSize, State.setManagement,
    setService, ManagementPort.status, hm]

/-- A taken request of which the decision makes the service state SERVING after its effect `u`. -/
theorem manage_serving {d : State → Decision} (h : s.idle) (hb : body.length ≤ 1024)
    (hg : s.management.service ≠ .standalone ∨ kind ∈ standaloneKinds)
    (hd : d (takeWrite kind body s) =
      done reply (restartWatchdog (setService .serving none (u.setManagement (takeWrite kind body s).management))))
    (hm : u.management = s.management) :
    manage kind body d s = (setService .serving none u).replied kind body .done reply := by
  rw [manage_taken h hb hg, hd]
  exact placeReply_serving hm

theorem decideOpenService_serves (hl : s.management.service = .loading) (ht : s.clock.status = .set) :
    decideOpenService [] s = done (bytes 4 s.clock.runTime) (restartWatchdog (setService .serving none s)) := by
  simp [decideOpenService, readNothing_body, checked, hl, ht]

theorem decideOpenService_unset (hl : s.management.service = .loading) (ht : s.clock.status = .unset) :
    decideOpenService [] s = refuse .timeNotSet s := by
  simp [decideOpenService, readNothing_body, checked, hl, ht]

theorem decideOpenService_refused (hl : s.management.service ≠ .loading) :
    decideOpenService [] s = refuse .wrongState s := by
  simp [decideOpenService, readNothing_body, checked, hl]

theorem decideResumeService_serves {since : Nat} (hs : s.management.service = .standalone)
    (he : s.management.standaloneSince = some since) :
    decideResumeService [] s =
      done (bytes 4 since ++ bytes 4 s.clock.runTime) (restartWatchdog (setService .serving none s)) := by
  simp [decideResumeService, readNothing_body, checked, hs, he]

theorem decideResumeService_refused (hs : s.management.service ≠ .standalone) :
    decideResumeService [] s = refuse .wrongState s := by
  simp [decideResumeService, readNothing_body, checked, hs]

theorem expireWatchdog_due {e : Nat} (hs : s.management.service = .serving) (he : s.management.watchdog = some e)
    (hdue : e ≤ s.clock.runTime) :
    expireWatchdog s =
      raise .standalone
        { s with management :=
            { s.management with service := .standalone, standaloneSince := some e, watchdog := none } } := by
  simp [expireWatchdog, hs, he, hdue]

theorem expireWatchdog_not_serving (hs : s.management.service ≠ .serving) : expireWatchdog s = s := by
  unfold expireWatchdog
  split
  case h_1 hserving _ => exact absurd hserving hs
  case h_2 => rfl

end

theorem exec_serverWatchdogExpiry (s : State) : exec .serverWatchdogExpiry s = .next (expireWatchdog s) := rfl

/-- Settles O54: each request by the service state and the time status, the expiry by the watchdog. -/
theorem serviceStateChanges : Obligations.ServiceStateChanges := by
  refine fun s => ⟨fun h hl ht => ?_, fun h hl ht => ?_, fun h hs => ⟨?_, ?_⟩, fun since h hs he => ?_,
    fun e hs he => ⟨fun hdue => ?_, fun hearly => ?_⟩, fun hs => ?_⟩
  · exact congrArg _ (manage_serving (u := s) h (by simp) (.inl (by simp [hl]))
      (decideOpenService_serves (by simp [hl]) (by simp [ht])) rfl)
  · exact congrArg _ (manage_refused h (by simp) (.inl (by simp [hl]))
      (decideOpenService_unset (by simp [hl]) (by simp [ht])))
  · exact congrArg _ (manage_refused h (by simp) (.inl (by simp [hs])) (decideOpenService_refused (by simp [hs])))
  · exact congrArg _ (manage_refused h (by simp) (.inl (by simp [hs])) (decideResumeService_refused (by simp [hs])))
  · exact congrArg _ (manage_serving (u := s) h (by simp) (.inr (by decide))
      (decideResumeService_serves (by simp [hs]) (by simpa using he)) rfl)
  · rw [exec_serverWatchdogExpiry, expireWatchdog_due hs he hdue]
  · rw [exec_serverWatchdogExpiry, expireWatchdog_eq_self fun e' he' => Option.some.inj (he.symm.trans he') ▸ hearly]
  · rw [exec_serverWatchdogExpiry, expireWatchdog_not_serving hs]

end Sys2Proof.Machine
end

section
/-! SET_SETTING: O55. -/

namespace Sys2Proof.Machine

/-! ### The body of a SET_SETTING (R188) -/

theorem readSetting_settingByte {name v : Nat} {a : SettingValue} (hn : name ≤ 0x11) (hv : v < 256)
    (hs : settingSize name = 1) (ha : settingOf name v = some a) : readSetting (settingByte name v) = .good a := by
  rw [settingByte, readSetting_byte hn hv hs, ha]

theorem readSetting_settingBytes {name n v : Nat} {a : SettingValue} (hn : name ≤ 0x11) (hv : v < 256 ^ n)
    (hs : settingSize name = n) (ha : settingOf name v = some a) : readSetting (byte name ++ bytes n v) = .good a := by
  rw [readSetting_bytes hn hv hs, ha]

theorem settingOf_policy (c : Category) (p : StandalonePolicy) :
    settingOf (4 + categoryCode c) (policyCode p) = some (.policy c p) := by
  cases c <;> simp [settingOf, categoryCode]

theorem settingSize_policy (c : Category) : settingSize (4 + categoryCode c) = 1 := by
  cases c <;> rfl

theorem settingOf_enables (m : BitVec 17) : settingOf 0x0A m.toNat = some (.enables m) := by
  have hlt : m.toNat < 2 ^ 17 := m.isLt
  rw [settingOf, if_pos hlt, BitVec.ofNat_toNat, BitVec.setWidth_eq]

theorem settingOf_refusalMask {m : BitVec 88} (h : m &&& ~~~refusalCodes = 0) :
    settingOf 0x0B m.toNat = some (.refusalMask m) := by
  rw [settingOf, BitVec.ofNat_toNat, BitVec.setWidth_eq, if_pos h]

theorem settingOf_threshold {n : Nat} (h50 : 50 ≤ n) (h95 : n ≤ 95) (h5 : n % 5 = 0) :
    settingOf 0x0C n = some (.threshold n) := if_pos ⟨h50, h95, h5⟩

/-! ### The step of a setting -/

section
variable {s : State} {v : SettingValue} {body : List Byte}

/-- A setting but the watchdog timeout neither reads nor writes the management port. -/
theorem applySetting_setManagement (m : ManagementPort) (hv : ∀ n, v ≠ .watchdogCode n) :
    applySetting v (s.setManagement m) = (applySetting v s).setManagement m := by
  cases v with
  | watchdogCode n => exact absurd rfl (hv n)
  | rolloverHour n =>
    exact congrArg Prod.fst (rolloverTest_setManagement { s with settings := { s.settings with rolloverHour := n } } m)
  | threshold n => exact reportAll_setManagement { s with settings := { s.settings with threshold := n } } m
  | lineMode mode => exact setLineMode_setManagement s m mode
  | reservationCode | blankingCode | policy | standaloneLimit | enables | refusalMask | latchMode | ackMode | pulseCode
      | holdoff => rfl

/-- A setting but the watchdog timeout leaves the port, the watchdog code and the run time as they were. -/
theorem applySetting_frame (hv : ∀ n, v ≠ .watchdogCode n) :
    (applySetting v s).management = s.management ∧
      (applySetting v s).settings.watchdogCode = s.settings.watchdogCode ∧
      (applySetting v s).clock.runTime = s.clock.runTime := by
  cases v with
  | watchdogCode n => exact absurd rfl (hv n)
  | rolloverHour n => exact ⟨by simp [applySetting], by simp [applySetting], by simp [applySetting]⟩
  | lineMode m =>
    obtain ⟨hm, hcode, -, -, -, hclock⟩ := State.regime_eq_iff.mp (setLineMode_regime s m)
    exact ⟨hm, hcode, congrArg TimeBase.runTime hclock⟩
  | reservationCode | blankingCode | policy | standaloneLimit | enables | refusalMask | threshold | latchMode | ackMode
      | pulseCode | holdoff => exact ⟨rfl, rfl, rfl⟩

/-- SET_SETTING answers the value before, in the state that the step of the setting makes (R188). The restart of the
watchdog by its own setting is the restart that every answer carries (R185; log 24). -/
theorem exec_setSetting (h : s.ready) (hb : body.length ≤ 1024) (hread : readSetting body = .good v) :
    exec (.setSetting body) s = .next ((applySetting v s).replied 0x73 body .done (v.before s.settings)) := by
  by_cases hv : ∃ n, v = .watchdogCode n
  · obtain ⟨n, rfl⟩ := hv
    have hset := placeReply_restarted (u := { s with settings := { s.settings with watchdogCode := n } }) (s := s)
      (kind := 0x73) (body := body) (code := .done) (reply := byte s.settings.watchdogCode) rfl
    refine congrArg _ ((manage_taken h.1 hb (.inl h.2)).trans ?_)
    rw [decideSetSetting, hread]
    exact hset
  · rw [not_exists] at hv
    obtain ⟨hm, hcode, hrun⟩ := applySetting_frame (s := s) hv
    refine manage_checked h hb hread (fun m => ?_) hm hcode hrun
    rw [applySetting_setManagement m hv]
    rfl

/-- A setting of one byte. -/
theorem exec_setSetting_byte (name : Nat) (v : SettingValue) {n : Nat} (h : s.ready) (hv : settingOf name n = some v)
    (hs : settingSize name = 1 := by rfl) (hn : name ≤ 0x11 := by decide) (hlt : n < 256 := by omega) :
    exec (.setSetting (settingByte name n)) s =
      .next ((applySetting v s).replied 0x73 (settingByte name n) .done (v.before s.settings)) :=
  exec_setSetting h (by simp [settingByte]) (readSetting_settingByte hn hlt hs hv)

/-- A setting of another size. -/
theorem exec_setSetting_bytes (name : Nat) (v : SettingValue) {k n : Nat} (h : s.ready)
    (hv : settingOf name n = some v) (hlt : n < 256 ^ k) (hs : settingSize name = k := by rfl)
    (hn : name ≤ 0x11 := by decide) (hk : k ≤ 11 := by decide) :
    exec (.setSetting (byte name ++ bytes k n)) s =
      .next ((applySetting v s).replied 0x73 (byte name ++ bytes k n) .done (v.before s.settings)) :=
  exec_setSetting h (by simp; omega) (readSetting_settingBytes hn hlt hs hv)

/-! ### The line mode (R201) -/

theorem exec_setSetting_lineMode (h : s.ready) (m : LineMode) :
    exec (.setSetting (settingByte 0x0F (lineModeCode m))) s =
      .next
        ((setLineMode m s).replied 0x73 (settingByte 0x0F (lineModeCode m)) .done
          (byte (lineModeCode s.settings.lineMode))) := by
  have hlt : lineModeCode m < 256 := by cases m <;> decide
  exact exec_setSetting_byte 0x0F (.lineMode m) h (by simp [settingOf])

theorem setLineMode_same {m : LineMode} (h : s.settings.lineMode = m) : setLineMode m s = s := if_pos h

theorem setLineMode_level (h : s.settings.lineMode = .pulse) :
    setLineMode .level s =
      { s with
        settings := { s.settings with lineMode := .level }
        notice := { s.notice with
          owed := false
          line :=
            match s.notice.line with
            | .holdoff ends => .holdoff ends
            | _ => if s.demand = 0 then .negated else .asserted } } := by
  rw [setLineMode, if_neg (by simp [h])]
  cases hl : s.notice.line <;> simp [lineModeChange, hl]

theorem setLineMode_pulse (h : s.settings.lineMode = .level) :
    setLineMode .pulse s =
      { s with
        settings := { s.settings with lineMode := .pulse }
        notice :=
          if s.notice.line = .asserted then
            { s.notice with
              owed := false
              line := if s.settings.holdoff = 0 then .negated else .holdoff (s.moment + s.settings.holdoff * 10) }
          else s.notice } := by
  rw [setLineMode, if_neg (by simp [h])]
  cases hl : s.notice.line <;> simp [lineModeChange, restLine, hl]

end

/-! ### Every setting -/

/-- Settles O55: each body reads as its setting, and the step of the setting is what its definition makes of it. -/
theorem setSettingSetsEachSetting : Obligations.SetSettingSetsEachSetting := by
  intro s h answers set
  refine ⟨fun n hn => ?_, fun n hn => ?_, fun n hn => ?_, fun n hn => ?_, fun c p => ?_, fun n hn => ?_, fun m => ?_,
    fun m hm => ?_, fun n h50 h95 h5 => ?_, fun m => ?_, fun m => ?_, fun m hm => ?_, fun hm => ?_, fun hm => ?_,
    fun n hn => ?_, fun n hn => ?_⟩
  · exact exec_setSetting_byte 0x00 (.reservationCode n) h (by simp [settingOf, upTo, hn])
  · exact exec_setSetting_byte 0x01 (.blankingCode n) h (by simp [settingOf, upTo, hn])
  · intro changed
    have hset : answers (settingByte 0x02 n) (byte set.rolloverHour) (rolloverTest changed).1 :=
      exec_setSetting_byte 0x02 (.rolloverHour n) h (by simp [settingOf, upTo, hn])
    refine ⟨fun hunset => ?_, fun o l hs ho hl => ?_⟩
    · rwa [rolloverTest_unset (s := changed) hunset] at hset
    · rwa [rolloverTest_set (s := changed) hs ho hl, apply_ite Prod.fst] at hset
  · exact exec_setSetting_byte 0x03 (.watchdogCode n) h (by simp [settingOf, upTo, hn])
  · have hc := categoryCode_lt c
    have hp : policyCode p < 256 := by cases p <;> decide
    exact exec_setSetting_byte _ (.policy c p) h (settingOf_policy c p) (settingSize_policy c) (by omega)
  · exact exec_setSetting_bytes 0x09 (.standaloneLimit n) h (by simp [settingOf, upTo, hn]) (by omega)
  · have hlt := m.isLt
    exact exec_setSetting_bytes 0x0A (.enables m) h (settingOf_enables m) (by omega)
  · exact exec_setSetting_bytes 0x0B (.refusalMask m) h (settingOf_refusalMask hm) m.isLt
  · exact exec_setSetting_byte 0x0C (.threshold n) h (settingOf_threshold h50 h95 h5)
  · have hlt : latchModeCode m < 256 := by cases m <;> decide
    exact exec_setSetting_byte 0x0D (.latchMode m) h (by simp [settingOf])
  · have hlt : ackModeCode m < 256 := by cases m <;> decide
    exact exec_setSetting_byte 0x0E (.ackMode m) h (by simp [settingOf])
  · subst hm
    have hset := exec_setSetting_lineMode h set.lineMode
    rwa [setLineMode_same rfl] at hset
  · have hset := exec_setSetting_lineMode h .level
    rw [setLineMode_level hm, show s.settings.lineMode = .pulse from hm] at hset
    exact hset
  · have hset := exec_setSetting_lineMode h .pulse
    rw [setLineMode_pulse hm, show s.settings.lineMode = .level from hm] at hset
    exact hset
  · exact exec_setSetting_byte 0x10 (.pulseCode n) h (by simp [settingOf, upTo, hn])
  · exact exec_setSetting_byte 0x11 (.holdoff n) h (by simp [settingOf, upTo, hn])

end Sys2Proof.Machine
end

section
/-! SERVICE_RESET: O56. -/

namespace Sys2Proof.Machine

section
variable {s : State}

/-- The part with its reporting emptied and every table reported afresh (R190). -/
def State.cleaned (s : State) : State := reportAll (emptyReporting s)

theorem cleaned_setManagement (m : ManagementPort) : (s.setManagement m).cleaned = s.cleaned.setManagement m :=
  reportAll_setManagement (emptyReporting s) m

theorem cleaned_management : s.cleaned.management = s.management := rfl

theorem resetService_standalone (h : s.management.service = .standalone) :
    resetService s = restartWatchdog (setService .serving none s) := by
  rw [resetService, if_pos h]

theorem resetService_other (h : s.management.service ≠ .standalone) : resetService s = restartWatchdog s := by
  rw [resetService, if_neg h]

/-- The take of a SERVICE_RESET, which the gate passes in every service state (R182, R190). -/
theorem manage_serviceReset (h : s.idle) :
    manage 0x72 [] (decideServiceReset []) s =
      placeReply 0x72
        (done
          (queueCounts s ++
            byte (serviceCode
              (resetService (s.cleaned.setManagement (takeWrite 0x72 [] s).management)).management.service))
          (resetService (s.cleaned.setManagement (takeWrite 0x72 [] s).management))) := by
  rw [manage_taken h (by simp) (.inr (by decide)), takeWrite_eq, ← cleaned_setManagement]
  rfl

/-- In STANDALONE the part is made SERVING (R190). -/
theorem exec_serviceReset_standalone (h : s.idle) (hs : s.management.service = .standalone) :
    exec (.serviceReset []) s =
      .next
        ((setService .serving none s.cleaned).replied 0x72 [] .done
          (queueCounts s ++ byte (serviceCode .serving))) := by
  have hclean := manage_serviceReset h
  rw [resetService_standalone (s := s.cleaned.setManagement (takeWrite 0x72 [] s).management) hs] at hclean
  exact congrArg Host.Outcome.next (hclean.trans (placeReply_serving cleaned_management))

/-- In LOADING and SERVING the service state stays as it is (R190). -/
theorem exec_serviceReset_other (h : s.idle) (hs : s.management.service ≠ .standalone) :
    exec (.serviceReset []) s =
      .next (s.cleaned.replied 0x72 [] .done (queueCounts s ++ byte (serviceCode s.management.service))) := by
  have hclean := manage_serviceReset h
  rw [resetService_other (s := s.cleaned.setManagement (takeWrite 0x72 [] s).management) hs] at hclean
  exact congrArg Host.Outcome.next (hclean.trans (placeReply_restarted cleaned_management))

end

/-- Settles O56: the reset by the service state, and both leave every table as the reports left it. -/
theorem serviceResetKeepsTheTables : Obligations.ServiceResetKeepsTheTables := by
  intro s h emptied reported queues
  refine ⟨exec_serviceReset_other h, exec_serviceReset_standalone h, fun t ht => ?_⟩
  by_cases hs : s.management.service = .standalone
  · obtain rfl := Host.Outcome.next.inj ((exec_serviceReset_standalone h hs).symm.trans ht)
    exact ⟨rfl, rfl, rfl, rfl, rfl, rfl, rfl, rfl, rfl⟩
  · obtain rfl := Host.Outcome.next.inj ((exec_serviceReset_other h hs).symm.trans ht)
    exact ⟨rfl, rfl, rfl, rfl, rfl, rfl, rfl, rfl, rfl⟩

end Sys2Proof.Machine
end

section
/-! How the NOTICE line follows the demand: O58. The event of the line by the line mode and the state that it meets, the
events that make it, and the ends of a pulse and a holdoff. -/

namespace Sys2Proof.Machine

/-! ### One event of the line (R199, R200) -/

section
variable {set : Settings} {now ends : Nat} {was is : BitVec 17} {n : NoticeUnit}

theorem lineEvent_level_negated (hm : set.lineMode = .level) (hl : n.line = .negated) :
    lineEvent set now was is n = if was = 0 ∧ is ≠ 0 then { n with line := .asserted } else n := by
  simp [lineEvent, hm, hl]

theorem lineEvent_level_asserted (hm : set.lineMode = .level) (hl : n.line = .asserted) :
    lineEvent set now was is n = if was ≠ 0 ∧ is = 0 then { n with line := restLine set now } else n := by
  simp [lineEvent, hm, hl]

theorem lineEvent_level_timed (hm : set.lineMode = .level) (hl : n.line = .pulse ends ∨ n.line = .holdoff ends) :
    lineEvent set now was is n = n := by
  rcases hl with hl | hl <;> simp [lineEvent, hm, hl]

theorem lineEvent_pulse_negated (hm : set.lineMode = .pulse) (hl : n.line = .negated) :
    lineEvent set now was is n =
      if is &&& ~~~was ≠ 0 then { n with line := .pulse (now + pulseWidth set.pulseCode) } else n := by
  simp [lineEvent, hm, hl]

theorem lineEvent_pulse_timed (hm : set.lineMode = .pulse) (hl : n.line = .pulse ends ∨ n.line = .holdoff ends) :
    lineEvent set now was is n = if is &&& ~~~was ≠ 0 then { n with owed := true } else n := by
  rcases hl with hl | hl <;> simp [lineEvent, hm, hl]

/-- In PULSE mode an event that demands nothing new leaves the line. -/
theorem lineEvent_pulse_old (hm : set.lineMode = .pulse) (h : is &&& ~~~was = 0) : lineEvent set now was is n = n := by
  cases hl : n.line <;> simp [lineEvent, hm, hl, h]

/-- In LEVEL mode no event makes a pulse owed. -/
theorem lineEvent_level_owed (hm : set.lineMode = .level) : (lineEvent set now was is n).owed = n.owed := by
  cases hl : n.line with
  | negated => rw [lineEvent_level_negated hm hl, apply_ite NoticeUnit.owed, ite_self]
  | asserted => rw [lineEvent_level_asserted hm hl, apply_ite NoticeUnit.owed, ite_self]
  | pulse ends => rw [lineEvent_level_timed hm (.inl hl)]
  | holdoff ends => rw [lineEvent_level_timed hm (.inr hl)]

/-- In LEVEL mode an event that leaves a demand asserts the line if there was none, and does nothing else. -/
theorem lineEvent_level_demanded (hm : set.lineMode = .level) (h : is ≠ 0) :
    lineEvent set now was is n = if n.line = .negated ∧ was = 0 then { n with line := .asserted } else n := by
  cases hl : n.line with
  | negated => simp only [lineEvent_level_negated hm hl, true_and, ne_eq, h, not_false_eq_true, and_true]
  | asserted => simp only [lineEvent_level_asserted hm hl, h, and_false, if_false, reduceCtorEq, false_and]
  | pulse ends => simp [lineEvent_level_timed hm (.inl hl)]
  | holdoff ends => simp [lineEvent_level_timed hm (.inr hl)]

/-- An event that leaves the demand as it was leaves the line. -/
theorem lineEvent_same : lineEvent set now was was n = n := by
  cases hm : set.lineMode with
  | pulse => exact lineEvent_pulse_old hm (by simp)
  | level =>
    cases hl : n.line with
    | negated => simp [lineEvent_level_negated hm hl]
    | asserted => simp [lineEvent_level_asserted hm hl]
    | pulse ends => exact lineEvent_level_timed hm (.inl hl)
    | holdoff ends => exact lineEvent_level_timed hm (.inr hl)

end

/-! ### The events that the line follows -/

/-- A change that leaves the moment, the line, the pulse owed and the settings of the line, made an event of the line:
the line follows the demand. -/
theorem changeNotices_lineFollows {s u : State} (hn : u.moment = s.moment := by rfl)
    (hm : u.settings.lineMode = s.settings.lineMode := by rfl)
    (hp : u.settings.pulseCode = s.settings.pulseCode := by rfl)
    (hh : u.settings.holdoff = s.settings.holdoff := by rfl) (hl : u.notice.line = s.notice.line := by rfl)
    (ho : u.notice.owed = s.notice.owed := by rfl) : lineFollows s (changeNotices s u) := by
  have hevent : (changeNotices s u).notice = lineEvent u.settings s.moment s.demand u.demand u.notice := by
    rw [changeNotices, hn]
  rw [lineFollows, changeNotices_demand, hevent]
  refine ⟨fun hlevel => ?_, fun hpulse => ?_⟩
  · rw [← hm] at hlevel
    refine ⟨(lineEvent_level_owed hlevel).trans ho, fun h => ?_, fun h => ?_, fun ends h => ?_⟩
    · rw [← hl] at h
      rw [lineEvent_level_negated hlevel h, apply_ite NoticeUnit.line, h]
    · rw [← hl] at h
      rw [lineEvent_level_asserted hlevel h, apply_ite NoticeUnit.line, h, restLine, hh]
    · rw [lineEvent_level_timed hlevel (.inr (hl.trans h)), hl]
  · rw [← hm] at hpulse
    refine ⟨fun hold => ?_, fun hnew => ⟨fun h => ?_, fun ends h => ?_⟩⟩
    · rw [lineEvent_pulse_old hpulse hold]
      exact ⟨hl, ho⟩
    · rw [← hl] at h
      rw [lineEvent_pulse_negated hpulse h, if_pos hnew, hp]
      exact ⟨rfl, ho⟩
    · rw [← hl] at h
      rw [lineEvent_pulse_timed hpulse h, if_pos hnew]
      exact ⟨hl, rfl⟩

section
variable (s : State)

theorem raise_lineFollows (c : Condition) : lineFollows s (raise c s) := changeNotices_lineFollows
theorem acknowledge_lineFollows (set : BitVec 17) : lineFollows s (acknowledge set s) := changeNotices_lineFollows
theorem setWatch_lineFollows (w : List WatchEntry) : lineFollows s (setWatch w s) := changeNotices_lineFollows
theorem report_lineFollows (t : CapacityTable) : lineFollows s (report t s) := changeNotices_lineFollows
theorem setEnables_lineFollows (e : BitVec 17) : lineFollows s (setEnables e s) := changeNotices_lineFollows
theorem setLatchMode_lineFollows (m : LatchMode) : lineFollows s (setLatchMode m s) := changeNotices_lineFollows

/-! ### A raise (R192) -/

theorem raise_pendingConditions (c : Condition) : (raise c s).pendingConditions = s.pendingConditions ||| c.bit := by
  rw [raise_eq]
  simp only [State.pendingConditions]
  ac_rfl

/-- A raise makes a condition newly demanded: it was not pending, and it is enabled (R200). -/
def newlyDemanded (c : Condition) : Prop :=
  s.pendingConditions.getLsbD (conditionCode c) = false ∧ s.settings.enables.getLsbD (conditionCode c) = true

variable {s} {c : Condition}

theorem raise_demand_new (h : newlyDemanded s c) : (raise c s).demand &&& ~~~s.demand ≠ 0 := by
  obtain ⟨hpending, henabled⟩ := h
  intro hzero
  have hat := congrArg (·.getLsbD (conditionCode c)) hzero
  simp only [State.demand, raise_pendingConditions, raise_settings, BitVec.getLsbD_and, BitVec.getLsbD_or,
    BitVec.getLsbD_not, Condition.bit_getLsbD, hpending, henabled, conditionCode_lt] at hat
  simp at hat

theorem raise_demand_ne_zero (h : newlyDemanded s c) : (raise c s).demand ≠ 0 := fun hzero =>
  raise_demand_new h (by rw [hzero]; simp)

theorem Condition.bit_elsewhere {i : Nat} (h : i ≠ conditionCode c) : c.bit.getLsbD i = false := by
  have hbit : c.bit = BitVec.twoPow 17 (conditionCode c) := rfl
  rw [hbit, BitVec.getLsbD_twoPow, decide_eq_false h.symm, Bool.and_false]

/-- A raise of a condition that was pending, or that is not enabled, leaves the demand. -/
theorem raise_demand_old (h : ¬ newlyDemanded s c) : (raise c s).demand = s.demand := by
  refine BitVec.eq_of_getLsbD_eq fun i _ => ?_
  simp only [State.demand, raise_pendingConditions, raise_settings, BitVec.getLsbD_and, BitVec.getLsbD_or]
  by_cases hi : i = conditionCode c
  · subst hi
    rw [newlyDemanded] at h
    rw [Condition.bit_getLsbD]
    revert h
    cases s.pendingConditions.getLsbD (conditionCode c) <;> simp
  · rw [Condition.bit_elsewhere hi, Bool.or_false]

/-- A raise is one event of the line, on a notice unit in which the condition is pending. -/
theorem raise_notice :
    (raise c s).notice =
      lineEvent s.settings s.moment s.demand (raise c s).demand
        { s.notice with pending := s.notice.pending ||| c.bit } := by
  rw [raise, changeNotices_demand]
  rfl

theorem raise_line_old (h : ¬ newlyDemanded s c) :
    (raise c s).notice.line = s.notice.line ∧ (raise c s).notice.owed = s.notice.owed := by
  rw [raise_notice, raise_demand_old h, lineEvent_same]
  exact ⟨rfl, rfl⟩

/-- In LEVEL mode the first demand asserts the line, and a raise does nothing else (R199). -/
theorem raise_line_level (h : newlyDemanded s c) (hm : s.settings.lineMode = .level) :
    (raise c s).notice.line =
        (if s.notice.line = .negated ∧ s.demand = 0 then .asserted else s.notice.line) ∧
      (raise c s).notice.owed = s.notice.owed := by
  rw [raise_notice]
  refine ⟨?_, lineEvent_level_owed hm⟩
  rw [lineEvent_level_demanded hm (raise_demand_ne_zero h)]
  exact apply_ite NoticeUnit.line _ _ _

end

/-! ### The enables and the latch mode (R193, R195) -/

section
variable (s : State)

theorem setEnables_pendingConditions (e : BitVec 17) : (setEnables e s).pendingConditions = s.pendingConditions := by
  rw [setEnables, changeNotices_eq]
  rfl

theorem changeNotices_flags (before after : State) :
    (changeNotices before after).notice.flags = after.notice.flags := by
  rw [changeNotices_eq]

theorem setLatchMode_flags (m : LatchMode) (t : CapacityTable) :
    (setLatchMode m s).notice.flags.get t =
      if m = .live then decide (s.notice.levels.get t = .at) else s.notice.flags.get t := by
  rw [setLatchMode, changeNotices_flags]
  cases m with
  | latched => rfl
  | live => cases t <;> rfl

/-- The latch mode moves the capacity flags and the line, and nothing else (R195). -/
theorem setLatchMode_eq (m : LatchMode) :
    setLatchMode m s =
      { s with
        settings := { s.settings with latchMode := m }
        notice :=
          { s.notice with
            flags := (setLatchMode m s).notice.flags
            line := (setLatchMode m s).notice.line
            owed := (setLatchMode m s).notice.owed } } :=
  (changeNotices_eq _ _).trans (by rw [setLatchMode, changeNotices_flags])

/-! ### The ends of a pulse and of a holdoff (R199, R200) -/

variable {s} {ends : Nat}

theorem endPulse_due (hl : s.notice.line = .pulse ends) (h : ends ≤ s.moment) :
    endPulse s =
      { s with notice :=
          { s.notice with
            line := restLine s.settings s.moment
            owed := if s.settings.holdoff = 0 then false else s.notice.owed } } := by
  simp only [endPulse, hl, h, if_true]

theorem endPulse_early (hl : s.notice.line = .pulse ends) (h : s.moment < ends) : endPulse s = s := by
  simp only [endPulse, hl, Nat.not_le.mpr h, if_false]

theorem endHoldoff_due (hl : s.notice.line = .holdoff ends) (h : ends ≤ s.moment) :
    endHoldoff s = { s with notice := { s.notice with line := afterHoldoff s, owed := false } } := by
  simp only [endHoldoff, hl, h, if_true]

theorem endHoldoff_early (hl : s.notice.line = .holdoff ends) (h : s.moment < ends) : endHoldoff s = s := by
  simp only [endHoldoff, hl, Nat.not_le.mpr h, if_false]

theorem afterHoldoff_level (hm : s.settings.lineMode = .level) :
    afterHoldoff s = if s.demand = 0 then .negated else .asserted := by
  simp only [afterHoldoff, hm, ne_eq, ite_not]

theorem afterHoldoff_pulse (hm : s.settings.lineMode = .pulse) :
    afterHoldoff s =
      if s.notice.owed = true ∧ s.demand ≠ 0 then .pulse (s.moment + pulseWidth s.settings.pulseCode)
      else .negated := by
  simp only [afterHoldoff, hm]

end

/-- Settles O58: a raise by whether it demands something new, the events that the line follows, and the ends of a pulse
and of a holdoff by their time, the holdoff and the line mode. -/
theorem noticeLineMovements : Obligations.NoticeLineMovements := by
  refine ⟨fun s c _ _ => ⟨raise_pendingConditions s c, raise_eq c s, raise_line_old, fun hnew hm => ?_,
      fun hnew hm => ?_⟩,
    fun s => ⟨raise_lineFollows s, acknowledge_lineFollows s, setWatch_lineFollows s, report_lineFollows s,
      fun m => ⟨setEnables_lineFollows s m, setEnables_pendingConditions s m, ?_⟩,
      fun m => ⟨setLatchMode_lineFollows s m, setLatchMode_flags s m, ?_⟩⟩,
    fun s ends => ⟨fun hl => ⟨fun hdue hz => ?_, fun hdue hpos => ?_, fun hearly => ?_⟩,
      fun hl => ⟨fun hdue hm => ?_, fun hdue hm => ?_, fun hearly => ?_⟩⟩⟩
  · obtain ⟨hline, howed⟩ := raise_line_level hnew hm
    refine ⟨howed, fun hl hd => hline.trans (if_pos ⟨hl, hd⟩), fun h => hline.trans (if_neg ?_)⟩
    rintro ⟨hl, hd⟩
    exact h.elim (· hl) (· hd)
  · obtain ⟨-, hpulse⟩ := raise_lineFollows s c
    exact (hpulse hm).2 (raise_demand_new hnew)
  · exact changeNotices_eq _ _
  · exact setLatchMode_eq s m
  · exact congrArg Host.Outcome.next ((endPulse_due hl hdue).trans (by rw [restLine, if_pos hz, if_pos hz]))
  · have hne : s.settings.holdoff ≠ 0 := Nat.ne_of_gt hpos
    exact congrArg Host.Outcome.next ((endPulse_due hl hdue).trans (by rw [restLine, if_neg hne, if_neg hne]))
  · exact congrArg Host.Outcome.next (endPulse_early hl hearly)
  · exact congrArg Host.Outcome.next ((endHoldoff_due hl hdue).trans (by rw [afterHoldoff_level hm]))
  · exact congrArg Host.Outcome.next ((endHoldoff_due hl hdue).trans (by rw [afterHoldoff_pulse hm]))
  · exact congrArg Host.Outcome.next (endHoldoff_early hl hearly)

end Sys2Proof.Machine
end

section
/-! O6, first part: what the law of the NOTICE line reads, what keeps it, and the shared operations that keep it. An
event that the line follows keeps the law; so does whatever leaves the line, the pulse owed, the mode and the demand. -/

namespace Sys2Proof.Machine

/-- What the law of the NOTICE line reads of the state. -/
structure LineView where
  mode : LineMode
  demand : BitVec 17
  line : Line
  owed : Bool

/-- The line as the law sees it. -/
def State.lineView (s : State) : LineView where
  mode := s.settings.lineMode
  demand := s.demand
  line := s.notice.line
  owed := s.notice.owed

/-- States with the same notice unit, settings and watch set have one view of the line. -/
theorem State.lineView_congr {s t : State} (hn : t.notice = s.notice := by simp)
    (hs : t.settings = s.settings := by simp) (hp : t.passage = s.passage := by simp) : t.lineView = s.lineView := by
  simp only [State.lineView, State.demand, State.pendingConditions, hn, hs, hp]

theorem State.lineGood_congr {s t : State} (h : t.lineView = s.lineView) (hs : s.lineGood) : t.lineGood := by
  obtain ⟨hm, hd, hl, ho⟩ := LineView.mk.inj h
  unfold State.lineGood at hs ⊢
  rwa [hm, hl, hd, ho]

/-! ### The law, mode by mode (R199 to R201) -/

section
variable {s t : State}

theorem State.lineGood_level_iff (hm : s.settings.lineMode = .level) :
    s.lineGood ↔ s.notice.owed = false ∧ (s.notice.line = .negated → s.demand = 0) ∧
      (s.notice.line = .asserted → s.demand ≠ 0) ∧ ∀ ends, s.notice.line ≠ .pulse ends := by
  unfold State.lineGood
  rw [hm]
  cases hl : s.notice.line <;> simp [and_comm]

theorem State.lineGood_pulse_iff (hm : s.settings.lineMode = .pulse) :
    s.lineGood ↔ s.notice.line ≠ .asserted ∧ (s.notice.line = .negated → s.notice.owed = false) := by
  unfold State.lineGood
  rw [hm]
  cases hl : s.notice.line <;> simp

/-- In LEVEL mode the law holds where the demand alone leads the line, with no pulse owed. -/
theorem State.lineGood_of_led (hm : s.settings.lineMode = .level) (ho : s.notice.owed = false)
    (hl : s.notice.line = if s.demand = 0 then .negated else .asserted) : s.lineGood := by
  rw [State.lineGood_level_iff hm, hl]
  by_cases hd : s.demand = 0
  · rw [if_pos hd]
    simp [ho, hd]
  · rw [if_neg hd]
    simpa [ho] using hd

/-- In LEVEL mode a line that agrees with the demand agrees with it after an event that it follows. -/
theorem State.lineGood.level_follows (hs : s.lineGood) (h : lineFollows s t) (hm : s.settings.lineMode = .level)
    (ht : t.settings.lineMode = .level) : t.lineGood := by
  obtain ⟨howed, hneg, hass, hhold⟩ := h.1 hm
  obtain ⟨ho, hzero, hsome, hpulse⟩ := (State.lineGood_level_iff hm).mp hs
  refine (State.lineGood_level_iff ht).mpr ⟨howed.trans ho, ?_⟩
  cases hl : s.notice.line with
  | negated =>
    have hline := hneg hl
    by_cases hd : t.demand = 0
    · rw [if_neg fun h => h.2 hd] at hline
      simp [hline, hd]
    · rw [if_pos ⟨hzero hl, hd⟩] at hline
      simpa [hline] using hd
  | asserted =>
    have hline := hass hl
    by_cases hd : t.demand = 0
    · rw [if_pos ⟨hsome hl, hd⟩] at hline
      split at hline <;> simp [hline, hd]
    · rw [if_neg fun h => hd h.2] at hline
      simpa [hline] using hd
  | pulse ends => exact absurd hl (hpulse ends)
  | holdoff ends => simp [(hhold ends hl).trans hl]

/-- In PULSE mode an event that the line follows starts a pulse, or has one owed during a pulse or a holdoff. -/
theorem State.lineGood.pulse_follows (hs : s.lineGood) (h : lineFollows s t) (hm : s.settings.lineMode = .pulse)
    (ht : t.settings.lineMode = .pulse) : t.lineGood := by
  obtain ⟨hold, hnew⟩ := h.2 hm
  obtain ⟨hna, ho⟩ := (State.lineGood_pulse_iff hm).mp hs
  rw [State.lineGood_pulse_iff ht]
  by_cases hd : t.demand &&& ~~~s.demand = 0
  · obtain ⟨hline, howed⟩ := hold hd
    rw [hline, howed]
    exact ⟨hna, ho⟩
  · obtain ⟨hneg, htimed⟩ := hnew hd
    cases hl : s.notice.line with
    | negated => simp [(hneg hl).1]
    | asserted => exact absurd hl hna
    | pulse ends => simp [(htimed ends (.inl hl)).1, hl]
    | holdoff ends => simp [(htimed ends (.inr hl)).1, hl]

end

/-- What leads from one state to another keeps the law of the NOTICE line. -/
structure KeepsLine (s t : State) : Prop where
  keeps : s.lineGood → t.lineGood

namespace KeepsLine

variable {s t u : State}

theorem refl (s : State) : KeepsLine s s := ⟨id⟩

theorem trans (h : KeepsLine s t) (k : KeepsLine t u) : KeepsLine s u := ⟨k.keeps ∘ h.keeps⟩

/-- What leaves all that the law reads. -/
theorem quiet (h : t.lineView = s.lineView) : KeepsLine s t := ⟨State.lineGood_congr h⟩

theorem thenQuiet (h : KeepsLine s t) (k : u.lineView = t.lineView) : KeepsLine s u := h.trans (quiet k)

/-- An event that the line follows, in an unchanged line mode (R199, R200). -/
theorem event (h : lineFollows s t) (hm : t.settings.lineMode = s.settings.lineMode) : KeepsLine s t where
  keeps hs := by
    cases hmode : s.settings.lineMode with
    | level => exact hs.level_follows h hmode (hm.trans hmode)
    | pulse => exact hs.pulse_follows h hmode (hm.trans hmode)

theorem ite {c : Prop} [Decidable c] (ht : KeepsLine s t) (hu : KeepsLine s u) : KeepsLine s (if c then t else u) := by
  split
  · exact ht
  · exact hu

theorem forEach {α : Type} {f : α → State → State} (h : ∀ a s, KeepsLine s (f a s)) (l : List α) (s : State) :
    KeepsLine s (forEach f l s) :=
  ⟨forEach_keeps (fun a t => (h a t).keeps) l⟩

/-! ### The events of the line -/

theorem raise (c : Condition) (s : State) : KeepsLine s (raise c s) := event (raise_lineFollows s c) rfl

theorem raisePortSilent (p : Port) (s : State) : KeepsLine s (raisePortSilent p s) :=
  event changeNotices_lineFollows rfl

theorem raisePortErrors (p : Port) (s : State) : KeepsLine s (raisePortErrors p s) :=
  event changeNotices_lineFollows rfl

theorem report (c : CapacityTable) (s : State) : KeepsLine s (report c s) := event (report_lineFollows s c) rfl

theorem reportAll (s : State) : KeepsLine s (reportAll s) :=
  (((report .records s).trans (report .credentials _)).trans (report .revocations _)).trans (report .tabs _)

theorem acknowledge (set : BitVec 17) (s : State) : KeepsLine s (acknowledge set s) :=
  event (acknowledge_lineFollows s set) rfl

theorem setWatch (w : List WatchEntry) (s : State) : KeepsLine s (setWatch w s) := event (setWatch_lineFollows s w) rfl

theorem setEnables (e : BitVec 17) (s : State) : KeepsLine s (setEnables e s) := event (setEnables_lineFollows s e) rfl

theorem setLatchMode (m : LatchMode) (s : State) : KeepsLine s (setLatchMode m s) :=
  event (setLatchMode_lineFollows s m) rfl

theorem reportRefusal (p : Port) (term : Nat) (r : Result) (c slot : Option Nat) (s : State) :
    KeepsLine s (reportRefusal p term r c slot s) := by
  unfold Machine.reportRefusal
  refine ite ?_ (refl s)
  exact (quiet rfl : KeepsLine s
    { s with notice := { s.notice with lastRefusal := some (s.refusal p term r c slot) } }).trans (raise _ _)

/-! ### The line mode, and the ends of a pulse and of a holdoff (R199 to R201) -/

/-- A change to LEVEL lets the demand lead the line at once, unless a holdoff runs; a change to PULSE negates an
asserted line, or lets it rest. -/
theorem setLineMode (m : LineMode) (s : State) : KeepsLine s (setLineMode m s) where
  keeps hs := by
    cases hmode : s.settings.lineMode with
    | level =>
      cases m with
      | level => rwa [setLineMode_same hmode]
      | pulse =>
        obtain ⟨ho, -⟩ := (State.lineGood_level_iff hmode).mp hs
        rw [setLineMode_pulse hmode, State.lineGood_pulse_iff rfl]
        by_cases hl : s.notice.line = .asserted
        · simp only [if_pos hl, implies_true, and_true]
          split <;> simp
        · simp only [if_neg hl]
          exact ⟨hl, fun _ => ho⟩
    | pulse =>
      cases m with
      | pulse => rwa [setLineMode_same hmode]
      | level =>
        rw [setLineMode_level hmode]
        cases s.notice.line with
        | holdoff ends => simp [State.lineGood]
        | negated | asserted | pulse => exact State.lineGood_of_led rfl rfl rfl

/-- The end of a pulse leaves none owed, unless a holdoff follows. In LEVEL mode no pulse ends. -/
theorem endPulse (s : State) : KeepsLine s (endPulse s) where
  keeps hs := by
    unfold Machine.endPulse
    split
    · rename_i ends hl
      split
      · cases hmode : s.settings.lineMode with
        | level =>
          obtain ⟨-, -, -, hnone⟩ := (State.lineGood_level_iff hmode).mp hs
          exact absurd hl (hnone ends)
        | pulse =>
          refine (State.lineGood_pulse_iff (by exact hmode)).mpr ?_
          by_cases hz : s.settings.holdoff = 0 <;> simp [restLine, hz]
      · exact hs
    · exact hs

/-- A holdoff ends by the demand, with no pulse owed. -/
theorem endHoldoff (s : State) : KeepsLine s (endHoldoff s) where
  keeps hs := by
    unfold Machine.endHoldoff
    split
    · split
      · cases hmode : s.settings.lineMode with
        | level => exact State.lineGood_of_led (by exact hmode) rfl (afterHoldoff_level hmode)
        | pulse =>
          refine (State.lineGood_pulse_iff (by exact hmode)).mpr ⟨?_, fun _ => rfl⟩
          rw [afterHoldoff_pulse hmode]
          dsimp only
          split <;> simp
      · exact hs
    · exact hs

/-! ### The shared operations -/

theorem raiseReconciled (a b : Bool) (m : ByClass (ByLocation Nat)) (s : State) :
    KeepsLine s (raiseReconciled a b m s) := by
  have h1 : KeepsLine s (if allAboard m && !a then Machine.raise .allAboard s else s) := ite (raise _ s) (refl s)
  exact ite (h1.trans (raise _ _)) h1

theorem reconcile (m : ByClass (ByLocation Nat)) (s : State) : KeepsLine s (reconcile m s) :=
  ite (raiseReconciled _ _ _ s) (refl s)

theorem enterCutoff (s : State) : KeepsLine s (enterCutoff s) := raiseReconciled _ _ _ s

theorem storeReevaluated (slot : Nat) (f : Folio) (s : State) : KeepsLine s (storeReevaluated slot f s) := by
  have h1 : KeepsLine s (s.putFolio slot f.reevaluated.1) := quiet rfl
  exact ite (h1.trans (raise _ _)) h1

theorem declineLimit (folio : Nat) (f : Folio) (x : Int) (e : Nat) (s : State) :
    KeepsLine s (declineLimit folio f x e s) := by
  have h1 : KeepsLine s (s.putFolio folio (f.suspendedFor .limit)) := quiet rfl
  exact ite (h1.trans (raise _ _)) (refl s)

theorem leaveIndex (n : Nat) (s : State) : KeepsLine s (leaveIndex n s) := by
  have h1 : KeepsLine s (s.dropIndex n) := quiet rfl
  exact ite (h1.trans (report _ _)) (refl s)

/-- An entry of the revocation list is no part of what the law reads, and its report or raise is an event (R5). -/
theorem appendRevocation (v : Revocation) (s : State) : KeepsLine s (appendRevocation v s) := by
  have hstore (store : RecordStore) : KeepsLine s { s with store := store } := quiet rfl
  exact ite ((hstore _).trans (report _ _)) ((hstore _).trans (raise _ _))

theorem revoke (slot n : Nat) (reason : RevocationReason) (s : State) : KeepsLine s (revoke slot n reason s) := by
  unfold Machine.revoke
  cases s.record slot with
  | none => exact (leaveIndex n s).trans (appendRevocation _ _)
  | some r =>
    have h1 : KeepsLine s
        (s.putRecord slot { r with credentials := r.credentials.filter fun c => decide (c.number ≠ n) }) := quiet rfl
    exact (h1.trans (leaveIndex n _)).trans (appendRevocation _ _)

theorem endReservation (slot : Nat) (r : Record) (v : Reservation) (s : State) :
    KeepsLine s (endReservation slot r v s) := by
  have h1 : KeepsLine s (s.putRecord slot { r with reservation := none }) := quiet rfl
  exact h1.trans (leaveIndex v.number _)

theorem leaveWatch (slot : Nat) (s : State) : KeepsLine s (leaveWatch slot s) := ite (setWatch _ s) (refl s)

theorem vacateSlot (slot : Nat) (r : Record) (s : State) : KeepsLine s (vacateSlot slot r s) := by
  have hcabin (n : Option Nat) (t : State) : KeepsLine t (leaveCabin? slot n t) := by
    cases n <;> exact quiet rfl
  have hcount (m : ByClass (ByLocation Nat)) (t : State) : KeepsLine t (t.setCounts m) := quiet rfl
  have hmember (n : Nat) (t : State) : KeepsLine t (loseMember n t) := quiet State.lineView_congr
  have hfree (t : State) : KeepsLine t (freeRecord slot t) := by
    have h1 : KeepsLine t { t with store := { t.store with records := t.store.records.drop slot } } := quiet rfl
    exact h1.trans (report _ _)
  exact ((((((hcabin _ s).trans (hcabin _ _)).trans (leaveWatch slot _)).trans (hcount _ _)).trans
    (reconcile _ _)).trans (hmember _ _)).trans (hfree _)

theorem retire (slot : Nat) (r : Record) (s : State) : KeepsLine s (retire slot r s) := by
  rw [retire_eq]
  have h1 : KeepsLine s (retireCredentials slot r s) :=
    ⟨retireCredentials_keeps (fun n t => (revoke slot n .retired t).keeps)
      (fun r' v t _ => (endReservation slot r' v t).keeps) r⟩
  exact h1.trans (vacateSlot slot r _)

theorem enterWatch (slot : Nat) (h : Hit) (s : State) : KeepsLine s (enterWatch slot h s) :=
  ite (setWatch _ s) (ite (setWatch _ s) (raise _ s))

/-- The five effects of a change of location: TAB_ASHORE, the watch hit and the reconciliation are events (R55). -/
theorem changeLocation (slot : Nat) (r : Record) (new : Location) (s : State) :
    KeepsLine s (changeLocation slot r new s) := by
  have hmoved : KeepsLine s (s.relocated slot r new) := quiet rfl
  have htabs (t : State) : KeepsLine t (raiseTabAshore slot r t) := ite (raise _ t) (refl t)
  have hhit (hit : Option Hit) (t : State) : KeepsLine t (enterHit slot hit t) := by
    cases hit with
    | none => exact refl t
    | some h => exact enterWatch slot h t
  rw [changeLocation_eq]
  exact ((hmoved.trans (htabs _)).trans (hhit _ _)).trans (reconcile _ _)

theorem releaseTab (entry : Nat) (t : Tab) (s : State) : KeepsLine s (releaseTab entry t s) := by
  have h1 : KeepsLine s (freeTab entry s) := quiet rfl
  unfold Machine.releaseTab
  dsimp only
  split
  · exact (h1.trans (storeReevaluated _ _ _)).trans (report _ _)
  · exact h1.trans (report _ _)

theorem rollOver (day : Int) (s : State) : KeepsLine s (rollOver day s) := by
  have h1 : KeepsLine s { s with clock := { s.clock with lastRolled := some day } } := quiet rfl
  exact (h1.trans (raise .dayRollover _)).thenQuiet rfl

theorem rolloverTest (s : State) : KeepsLine s (rolloverTest s).1 := by
  rcases rolloverTest_cases s with ⟨t, l, -, -, -, h⟩ | ⟨-, h⟩ <;> rw [h]
  · exact rollOver _ s
  · exact refl s

theorem consumeMessage (slot : Nat) (r : Record) (s : State) : KeepsLine s (consumeMessage slot r s) :=
  quiet State.lineView_congr

theorem setLastPassage (slot : Nat) (p : Option Passage) (s : State) : KeepsLine s (setLastPassage slot p s) :=
  quiet State.lineView_congr

theorem postToRecord (slot : Nat) (g : Figures) (s : State) : KeepsLine s (postToRecord slot g s) :=
  quiet State.lineView_congr

/-! ### The links, the timers and the advance of time -/

theorem discardFrame (p : Port) (s : State) : KeepsLine s (discardFrame p s) := by
  have h1 : KeepsLine s (s.setPort p { s.port p with errors := min 255 ((s.port p).errors + 1) }) := quiet rfl
  exact ite (h1.trans (raisePortErrors p _)) h1

theorem dropPartFrame (p : Port) (s : State) : KeepsLine s (dropPartFrame p s) :=
  trans (quiet rfl : KeepsLine s (setReceiver p .hunt s)) (discardFrame p _)

theorem endGap (p : Port) (s : State) : KeepsLine s (endGap p s) := ite (dropPartFrame p s) (refl s)

theorem arrive (p : Port) (f : Frame) (s : State) : KeepsLine s (arrive p f s) := by
  have hport (t : State) (b : PortBlock) : KeepsLine t (t.setPort p b) := quiet rfl
  have hheard := hport s ((s.port p).heard s.clock.runTime)
  exact ite (hheard.trans (hport _ _)) ((hheard.trans (hport _ _)).trans (reportRefusal _ _ _ _ _ _))

theorem settle (p : Port) (s : State) : KeepsLine s (settle p s) := by
  unfold Machine.settle
  split
  · have h1 : KeepsLine s (s.setPort p { s.port p with whole := none }) := quiet rfl
    exact ite (h1.trans (arrive p _ _)) (h1.trans (discardFrame p _))
  · exact refl s

theorem huntByte (p : Port) (b : Byte) (s : State) : KeepsLine s (huntByte p b s) := ite (quiet rfl) (refl s)

theorem frameByte (p : Port) (bs : List Byte) (b : Byte) (stopGood : Bool) (s : State) :
    KeepsLine s (frameByte p bs b stopGood s) :=
  ite (dropPartFrame p s) (ite (dropPartFrame p s) (ite (quiet rfl) (quiet rfl)))

theorem receive (p : Port) (b : Byte) (stopGood : Bool) (s : State) : KeepsLine s (receive p b stopGood s) := by
  have h1 : KeepsLine s (Machine.endGap p (Machine.settle p s)) := (settle p s).trans (endGap p _)
  unfold Machine.receive
  dsimp only
  split
  · exact h1.trans (huntByte p b _)
  · exact h1.trans (frameByte p _ b stopGood _)

theorem expireSilence (p : Port) (s : State) : KeepsLine s (expireSilence p s) := by
  unfold Machine.expireSilence
  split
  · have h1 : KeepsLine s (s.setPort p { s.port p with silence := .silent, silenceExpiry := none }) := quiet rfl
    exact ite (h1.trans (raisePortSilent p _)) (refl s)
  · exact refl s

theorem expireReservation (slot : Nat) (s : State) : KeepsLine s (expireReservation slot s) := by
  rcases expireReservation_cases slot s with ⟨r, v, -, -, -, h⟩ | ⟨-, h⟩ <;> rw [h]
  · exact (endReservation slot r v s).trans (raise _ _)
  · exact refl s

theorem expireTab (entry : Nat) (s : State) : KeepsLine s (expireTab entry s) := by
  rcases expireTab_cases entry s with ⟨t, -, -, h⟩ | ⟨-, h⟩ <;> rw [h]
  · exact (releaseTab entry t s).trans (raise _ _)
  · exact refl s

theorem expireWatchdog (s : State) : KeepsLine s (expireWatchdog s) := by
  have hmanagement (m : ManagementPort) : KeepsLine s { s with management := m } := quiet rfl
  unfold Machine.expireWatchdog
  split
  · exact ite ((hmanagement _).trans (raise _ _)) (refl s)
  · exact refl s

theorem sweepExpiries (s : State) : KeepsLine s (sweepExpiries s) := by
  have hreservations := forEach expireReservation (Table.keys s.store.records) s
  have htabs := hreservations.trans (forEach expireTab (Table.keys s.tabs.entries) _)
  exact htabs.trans (forEach expireSilence (List.finRange 6) _)

theorem sweep (s : State) : KeepsLine s (sweep s) := by
  have hlinks : KeepsLine s (sweepLinks s) := forEach (fun p t => (settle p t).trans (endGap p _)) _ s
  have hexpiries := hlinks.trans (sweepExpiries _)
  have hwatchdog := hexpiries.trans (expireWatchdog _)
  have hpulse := hwatchdog.trans (endPulse _)
  exact hpulse.trans (endHoldoff _)

theorem advance (s : State) : KeepsLine s (advance s) :=
  have htick : KeepsLine s (tick s) := quiet rfl
  ite htick (htick.trans (rolloverTest _))

end KeepsLine

end Sys2Proof.Machine
end

section
/-! O6, second part: every command keeps the law of the NOTICE line. -/

namespace Sys2Proof.Machine

/-! ### Requests of the host and of the terminals -/

namespace KeepsLine

variable {s : State}

theorem checked {α : Type} {p : Parsed α} {run : α → Decision} (h : ∀ a, KeepsLine s (run a).state) :
    KeepsLine s (checked p s run).state := by
  cases p with
  | good a => exact h a
  | badRequest => exact refl s
  | range => exact refl s

theorem withRecord {slot : Nat} {run : Record → Decision} (h : ∀ r, KeepsLine s (run r).state) :
    KeepsLine s (withRecord slot s run).state := by
  unfold Machine.withRecord
  split
  · exact h _
  · exact refl s

theorem withFolio {slot : Nat} {run : Folio → Decision} (h : ∀ f, KeepsLine s (run f).state) :
    KeepsLine s (withFolio slot s run).state := by
  unfold Machine.withFolio
  split
  · exact h _
  · exact refl s

/-- A check that refuses, and what the request does when the check passes. -/
theorem refuseIf {c : Prop} [Decidable c] {code : ReplyCode} {d : Decision} (h : KeepsLine s d.state) :
    KeepsLine s (if c then refuse code s else d).state := by
  split
  · exact refl s
  · exact h

/-- An ordered list of checks that may refuse, and what the request does when all pass. -/
theorem refuseBy {o : Option ReplyCode} {d : Decision} (h : KeepsLine s d.state) :
    KeepsLine s
      (match o with
        | some c => refuse c s
        | none => d).state := by
  cases o with
  | some c => exact refl s
  | none => exact h

/-- The take and the answer of a request are at the management port alone. -/
theorem manage {d : State → Decision} (kind : Byte) (body : List Byte) (h : ∀ s, KeepsLine s (d s).state)
    (s : State) : KeepsLine s (manage kind body d s) := by
  unfold Machine.manage
  split
  · have ht : KeepsLine s (takeWrite kind body s) := quiet rfl
    refine (ht.trans ?_ : KeepsLine s (_ : Decision).state).thenQuiet rfl
    split
    · exact refl _
    · exact h _
  · exact quiet rfl

/-- A terminal request keeps the law as its judgement does; the report of a refusal is an event (R194). -/
theorem takeRequest {d : TerminalEntry → Frame → State → Verdict} {p : Port} (kind : Byte)
    (permitted : TerminalEntry → Bool) (size : Nat) (h : ∀ e f s, KeepsLine s (d e f s).state) (s : State) :
    KeepsLine s (takeRequest p kind permitted size d s) := by
  have ht : KeepsLine s (takeFrame p s) := quiet rfl
  have ha (f : Frame) (v : Verdict) (hv : KeepsLine s v.state) : KeepsLine s (answer p f v) :=
    (hv.trans (reportRefusal p f.term v.result v.credential v.slot v.state)).thenQuiet rfl
  unfold Machine.takeRequest
  split
  · split
    · dsimp only
      split
      · exact ha _ _ ht
      · exact ha _ _ (ht.trans (h _ _ _))
    · exact quiet rfl
  · exact quiet rfl

theorem takeUnknownKind (p : Port) (s : State) : KeepsLine s (takeUnknownKind p s) := by
  unfold Machine.takeUnknownKind
  split
  · split
    · exact quiet rfl
    · exact ((quiet rfl : KeepsLine s (takeFrame p s)).trans (reportRefusal _ _ _ _ _ _)).thenQuiet rfl
  · exact quiet rfl

theorem takeUnlisted (kind : Byte) (body : List Byte) (s : State) : KeepsLine s (takeUnlisted kind body s) :=
  ite (refl s) (ite (quiet rfl) (quiet rfl))

theorem writeDiscarded {t : State} {bytes : List Byte} (h : exec (.writeDiscarded bytes) s = .next t) :
    KeepsLine s t := by
  cases h
  cases bytes with
  | nil => exact refl s
  | cons first rest =>
    dsimp only
    split
    · exact ite (refl s) (quiet rfl)
    · exact refl s
    · exact refl s

theorem readReply {t : State} {bytes : List Byte} (h : exec (.readReply bytes) s = .next t) : KeepsLine s t := by
  cases h
  cases bytes with
  | nil => exact refl s
  | cons first rest =>
    dsimp only
    split
    · exact quiet rfl
    · exact quiet rfl
    · exact refl s

end KeepsLine

/-! ### Requests of the host -/

section
variable (body : List Byte) (s : State)

theorem decideIssue_keepsLine : KeepsLine s (decideIssue body s).state :=
  .checked fun q => .withFolio fun f => .refuseIf <| .refuseIf <| by
    split
    · exact .refl s
    · rename_i slot _
      have h1 : KeepsLine s (gainMember q.folio (s.putRecord slot (issuedRecord q))) := .quiet State.lineView_congr
      have h2 := h1.thenQuiet (u := State.setCounts _ (addCell s.passage.counts q.cls q.location)) rfl
      exact (h2.trans (.reconcile _ _)).trans (.report _ _)

theorem decideReserve_keepsLine : KeepsLine s (decideReserve body s).state :=
  .checked fun q => .withRecord fun r => .refuseBy <| by
    have h1 : KeepsLine s (reserved q r s) := .quiet rfl
    exact h1.trans (.report _ _)

theorem decideConfirm_keepsLine : KeepsLine s (decideConfirm body s).state :=
  .checked fun q => .withRecord fun r => by
    have hconfirm (v : Reservation) (t : State) : KeepsLine t (confirmInto q.1 v t) := by
      unfold confirmInto
      split <;> exact .quiet rfl
    split
    · exact .refl s
    · refine .refuseIf ?_
      split
      · exact (KeepsLine.revoke _ _ _ s).trans (hconfirm _ _)
      · exact hconfirm _ s

theorem decideCancel_keepsLine : KeepsLine s (decideCancel body s).state :=
  .checked fun q => .withRecord fun r => by
    split
    · exact .refl s
    · exact .refuseIf (.endReservation _ _ _ s)

theorem decideRevoke_keepsLine : KeepsLine s (decideRevoke body s).state :=
  .checked fun q => by
    split
    · exact .revoke _ _ _ s
    · exact .refl s
    · exact .refuseIf (.refl s)

theorem decideRemoveRevoked_keepsLine : KeepsLine s (decideRemoveRevoked body s).state :=
  .checked fun n => by
    have hstore (store : RecordStore) : KeepsLine s { s with store := store } := .quiet rfl
    split
    · exact (hstore _).trans (.report _ _)
    · exact .refl s

theorem decideSetLocation_keepsLine : KeepsLine s (decideSetLocation body s).state :=
  .checked fun q => .withRecord fun r => by
    split
    · exact .refl s
    · exact (KeepsLine.changeLocation _ _ _ s).trans (.setLastPassage _ _ _)

theorem decideLink_keepsLine : KeepsLine s (decideLink body s).state :=
  .checked fun q => .withRecord fun r => .withFolio fun f => .refuseBy <| .quiet <|
    State.lineView_congr (by simp [done, relink]) (by simp [done, relink]) (by simp [done, relink])

theorem decideSetTime_keepsLine : KeepsLine s (decideSetTime body s).state :=
  .checked fun t => by
    have h1 : KeepsLine s (setShipTime t s) := .quiet rfl
    cases hs : s.clock.status with
    | unset =>
      simp only [done]
      exact .quiet rfl
    | set =>
      simp only [done]
      exact h1.trans (.rolloverTest _)

theorem phaseChange_keepsLine (p : Phase) : KeepsLine s (phaseChange p s).state := by
  have hphase (q : Phase) (t : State) : KeepsLine t (setPhase q t) := .quiet rfl
  have hmuster : KeepsLine s (enterMuster s) := .quiet rfl
  unfold phaseChange
  split
  case h_1 | h_2 | h_4 => exact hphase _ s
  case h_3 => exact (hphase _ s).trans (.enterCutoff _)
  case h_5 => exact (KeepsLine.ite (.refl s) (.raise .ashoreAtSailing s)).trans (hphase _ _)
  case h_6 | h_7 | h_8 => exact hmuster
  case h_9 => exact .refl s

theorem decideEndMuster_keepsLine : KeepsLine s (decideEndMuster body s).state :=
  .checked fun _ => .refuseIf <| by
    have hmuster (m : MusterUnit) : KeepsLine s { s with muster := m } := .quiet rfl
    exact .ite ((hmuster _).trans (.enterCutoff _)) (hmuster _)

theorem decideHostVoidTab_keepsLine : KeepsLine s (decideHostVoidTab body s).state :=
  .checked fun n => by
    split
    · exact .refl s
    · exact .releaseTab _ _ s

/-- A SERVICE_RESET negates the line with nothing pending, and the reports that follow are events (R190, R198). -/
theorem emptyReporting_lineGood : (emptyReporting s).lineGood :=
  ⟨by simp [State.demand, State.pendingConditions, emptyReporting, NoticeUnit.powerOn, anyFlag], rfl⟩

theorem decideServiceReset_keepsLine : KeepsLine s (decideServiceReset body s).state :=
  .checked fun _ => by
    have h1 : KeepsLine s (reportAll (emptyReporting s)) :=
      KeepsLine.trans ⟨fun _ => emptyReporting_lineGood s⟩ (.reportAll _)
    refine h1.thenQuiet ?_
    dsimp only [done]
    unfold resetService
    split <;> rfl

theorem applySetting_keepsLine (v : SettingValue) : KeepsLine s (applySetting v s) := by
  cases v with
  | rolloverHour n =>
    have h1 : KeepsLine s { s with settings := { s.settings with rolloverHour := n } } := .quiet rfl
    exact h1.trans (.rolloverTest _)
  | threshold n =>
    have h1 : KeepsLine s { s with settings := { s.settings with threshold := n } } := .quiet rfl
    exact h1.trans (.reportAll _)
  | enables e => exact .setEnables e s
  | latchMode m => exact .setLatchMode m s
  | lineMode m => exact .setLineMode m s
  | reservationCode | blankingCode | watchdogCode | policy | standaloneLimit | refusalMask | ackMode | pulseCode
      | holdoff => exact .quiet rfl

theorem decideReadNotices_keepsLine : KeepsLine s (decideReadNotices body s).state :=
  .checked fun _ => by
    cases s.settings.ackMode
    · exact .acknowledge _ s
    · exact .refl s

end

/-! ### Requests of the terminals -/

section
variable (p : Port) (e : TerminalEntry) (f : Frame) (s : State)

theorem notFound_keepsLine (n : Nat) (l : Lookup) (body : List Byte) :
    KeepsLine s (notFound p f n l body s).state := by
  unfold notFound
  split
  · exact .refl s
  · exact (KeepsLine.raise .revokedPresented s).thenQuiet rfl
  · exact .refl s

theorem decideUnlock_keepsLine : KeepsLine s (decideUnlock p e f s).state := by
  unfold decideUnlock
  dsimp only
  split
  · exact .consumeMessage _ _ s
  · exact notFound_keepsLine _ _ s _ _ _

theorem decideLockMode_keepsLine : KeepsLine s (decideLockMode e f s).state := by
  unfold decideLockMode
  split
  · exact .refl s
  · dsimp only
    split <;> exact .quiet rfl

theorem postCharge_keepsLine (slot folio : Nat) (g : Folio) (q : Figures) (graced : Bool) :
    KeepsLine s (postCharge slot folio g q graced s) :=
  (KeepsLine.ite (.refl s) (.storeReevaluated _ _ s)).trans (.postToRecord slot q _)

theorem computeCharge_keepsLine (slot : Nat) (r : Record) (amount : Nat) (flags : ItemFlags) (v : Venue) (g : Folio)
    (message : Option Nat) : KeepsLine s (computeCharge slot r amount flags v g message s).2.2 := by
  unfold computeCharge
  dsimp only
  split
  · exact .refl s
  · dsimp only
    split
    · exact .declineLimit _ _ _ _ s
    · exact postCharge_keepsLine s _ _ _ _ _
    · exact postCharge_keepsLine s _ _ _ _ _

theorem decideCharge_keepsLine : KeepsLine s (decideCharge p e f s).state := by
  unfold decideCharge
  dsimp only
  split
  · exact .refl s
  · exact .refl s
  · split
    · split
      · exact .consumeMessage _ _ s
      · exact (KeepsLine.consumeMessage _ _ s).trans (computeCharge_keepsLine _ _ _ _ _ _ _ _)
    · exact notFound_keepsLine _ _ s _ _ _

theorem openTab_keepsLine (entry : Nat) (t : Tab) (g : Folio) : KeepsLine s (openTab entry t g s) := by
  have htabs (tabs : TabTable) : KeepsLine s { s with tabs := tabs } := .quiet rfl
  exact ((htabs _).trans (.storeReevaluated _ _ _)).trans (.report _ _)

theorem decideOpenTab_keepsLine : KeepsLine s (decideOpenTab p e f s).state := by
  unfold decideOpenTab
  dsimp only
  split
  · exact .refl s
  · split
    · split
      · exact .refl s
      · split
        · exact .refl s
        · exact .refl s
        · exact openTab_keepsLine s _ _ _
    · exact notFound_keepsLine _ _ s _ _ _

theorem postClose_keepsLine (entry : Nat) (t : Tab) (g : Folio) (q : Figures) (graced : Bool) :
    KeepsLine s (postClose entry t g q graced s) := by
  have hfree : KeepsLine s (freeTab entry s) := .quiet rfl
  have hposted := hfree.trans (.storeReevaluated t.folio ((g.released t.hold).posted q graced) _)
  exact (hposted.trans (.postToRecord t.opener q _)).trans (.report _ _)

theorem computeClose_keepsLine (entry : Nat) (t : Tab) (amount : Nat) (flags : ItemFlags) (v : Venue) (r : Record)
    (g : Folio) : KeepsLine s (computeClose entry t amount flags v r g s).state := by
  unfold computeClose
  dsimp only
  split
  · exact .refl s
  · split
    · exact .refl s
    · split
      · exact .declineLimit _ _ _ _ s
      · exact postClose_keepsLine s _ _ _ _ _

theorem decideCloseTab_keepsLine : KeepsLine s (decideCloseTab e f s).state := by
  unfold decideCloseTab
  dsimp only
  split
  · exact .refl s
  · split
    · exact .refl s
    · split
      · exact .refl s
      · split
        · exact .refl s
        · split
          · exact .releaseTab _ _ s
          · split
            · exact computeClose_keepsLine s _ _ _ _ _ _ _
            · exact .refl s

theorem decideVoidTab_keepsLine : KeepsLine s (decideVoidTab e f s).state := by
  unfold decideVoidTab
  split
  · exact .refl s
  · split
    · exact .refl s
    · exact .releaseTab _ _ s

theorem passEffect_keepsLine (slot : Nat) (r : Record) (gangway : Nat) (d : Direction) (o : Result × Option Location) :
    KeepsLine s (passEffect slot r gangway d o s) := by
  unfold passEffect
  dsimp only
  split
  · exact (KeepsLine.changeLocation _ _ _ s).trans (.setLastPassage _ _ _)
  · exact .ite (.setLastPassage _ _ s) (.refl s)

theorem decideGangway_keepsLine : KeepsLine s (decideGangway p e f s).state := by
  unfold decideGangway
  dsimp only
  split
  · exact .refl s
  · split
    · exact .refl s
    · split
      · exact (KeepsLine.consumeMessage _ _ s).trans (passEffect_keepsLine _ _ _ _ _ _)
      · exact notFound_keepsLine _ _ s _ _ _

theorem decideMusterTap_keepsLine : KeepsLine s (decideMusterTap p e f s).state := by
  unfold decideMusterTap
  dsimp only
  split
  · exact .refl s
  · split
    · split
      · exact (KeepsLine.consumeMessage _ _ s).thenQuiet rfl
      · exact .consumeMessage _ _ s
    · exact notFound_keepsLine _ _ s _ _ _

theorem decideLookup_keepsLine : KeepsLine s (decideLookup p e f s).state := by
  unfold decideLookup
  dsimp only
  split
  · exact .refl s
  · exact notFound_keepsLine _ _ s _ _ _

end

/-! ### Every command -/

theorem exec_keepsLine {i : Instr} {s t : State} (h : exec i s = .next t) : KeepsLine s t := by
  cases i
  case writeDiscarded => exact .writeDiscarded h
  case readReply => exact .readReply h
  case runTimeAdvance =>
    obtain rfl : advance (sweep s) = t := Host.Outcome.next.inj h
    exact (KeepsLine.sweep s).trans (.advance _)
  all_goals cases h
  case powerOnReset => exact ⟨fun _ => reset_lineGood⟩
  case frameArrival p => exact .settle p s
  case interByteGap p => exact .endGap p s
  case receivedByte p b g => exact .receive p b g s
  case portSilenceExpiry p => exact .expireSilence p s
  case unknownRequestKind p => exact .takeUnknownKind p s
  case unknownKind kind body => exact .takeUnlisted kind body s
  case reservationExpiry slot => exact .expireReservation slot s
  case tabExpiry entry => exact .expireTab entry s
  case serverWatchdogExpiry => exact .expireWatchdog s
  case rollover => exact .rolloverTest s
  case pulseEnd => exact .endPulse s
  case holdoffEnd => exact .endHoldoff s
  case ping => exact .takeRequest _ _ _ (fun _ _ s => .refl s) s
  case unlock p => exact .takeRequest _ _ _ (decideUnlock_keepsLine p) s
  case lockMode => exact .takeRequest _ _ _ decideLockMode_keepsLine s
  case charge p => exact .takeRequest _ _ _ (decideCharge_keepsLine p) s
  case openTab p => exact .takeRequest _ _ _ (decideOpenTab_keepsLine p) s
  case closeTab => exact .takeRequest _ _ _ decideCloseTab_keepsLine s
  case voidTab => exact .takeRequest _ _ _ decideVoidTab_keepsLine s
  case gangway p => exact .takeRequest _ _ _ (decideGangway_keepsLine p) s
  case musterTap p => exact .takeRequest _ _ _ (decideMusterTap_keepsLine p) s
  case lookup p => exact .takeRequest _ _ _ (decideLookup_keepsLine p) s
  case issueRecord body => exact .manage _ _ (decideIssue_keepsLine body) s
  case reserveCredential body => exact .manage _ _ (decideReserve_keepsLine body) s
  case confirmCredential body => exact .manage _ _ (decideConfirm_keepsLine body) s
  case cancelCredential body => exact .manage _ _ (decideCancel_keepsLine body) s
  case revokeCredential body => exact .manage _ _ (decideRevoke_keepsLine body) s
  case removeRevoked body => exact .manage _ _ (decideRemoveRevoked_keepsLine body) s
  case retireRecord =>
    exact .manage _ _ (fun s => .checked fun _ => .withRecord fun _ => .refuseBy (.retire _ _ s)) s
  case setLocation body => exact .manage _ _ (decideSetLocation_keepsLine body) s
  case linkRecord body => exact .manage _ _ (decideLink_keepsLine body) s
  case readWatch => exact .manage _ _ (fun s => .checked fun _ => .setWatch _ s) s
  case setTime body => exact .manage _ _ (decideSetTime_keepsLine body) s
  case setPhase => exact .manage _ _ (fun s => .checked (phaseChange_keepsLine s)) s
  case endMuster body => exact .manage _ _ (decideEndMuster_keepsLine body) s
  case hostVoidTab body => exact .manage _ _ (decideHostVoidTab_keepsLine body) s
  case serviceReset body => exact .manage _ _ (decideServiceReset_keepsLine body) s
  case setSetting => exact .manage _ _ (fun s => .checked (applySetting_keepsLine s)) s
  case readNotices body => exact .manage _ _ (decideReadNotices_keepsLine body) s
  case ackNotices => exact .manage _ _ (fun s => .checked fun set => .acknowledge set s) s
  case setLimits =>
    exact .manage _ _ (fun s => .checked fun _ => .withFolio fun _ => .refuseIf (.storeReevaluated _ _ s)) s
  case postPayment | postRefund | postAdjustment =>
    exact .manage _ _
      (fun s => .checked fun _ => .withFolio fun _ => .refuseIf (.refuseIf (.storeReevaluated _ _ s))) s
  case closeFolio =>
    exact .manage _ _ (fun s => .checked fun _ => .withFolio fun _ => .refuseBy (by split <;> exact .quiet rfl)) s
  case resumeFolio =>
    exact .manage _ _
      (fun s => .checked fun _ => .withFolio fun _ => .refuseIf (by
        split
        · exact .quiet rfl
        · split <;> exact .quiet rfl)) s
  case openFolio => exact .manage _ _ (fun s => .checked fun _ => by split <;> exact .quiet rfl) s
  case setCabinZones =>
    exact .manage _ _
      (fun s => .checked fun q => by
        rw [done, loadZones_eq]
        exact .quiet rfl) s
  case assignCabin =>
    exact .manage _ _ (fun _ => .checked fun _ => .withRecord fun _ => .refuseBy (.quiet rfl)) s
  case readRecord =>
    exact .manage _ _ (fun s => .checked fun slot => by cases s.record slot <;> exact .refl s) s
  case readFolio => exact .manage _ _ (fun s => .checked fun slot => by cases s.folio slot <;> exact .refl s) s
  case readTab => exact .manage _ _ (fun s => .checked fun n => by cases s.tab n <;> exact .refl s) s
  case setMessage | setWatch | setFinal | setTier | setCap | setStation =>
    exact .manage _ _ (fun _ => .checked fun _ => .withRecord fun _ => .quiet rfl) s
  case holdRecord | releaseRecord | vacateCabin | setRole =>
    exact .manage _ _ (fun _ => .checked fun _ => .withRecord fun _ => .refuseIf (.quiet rfl)) s
  case reopenFolio | suspendFolio | addPrepaid =>
    exact .manage _ _ (fun _ => .checked fun _ => .withFolio fun _ => .refuseIf (.quiet rfl)) s
  case setTerminalEnabled | resumeService =>
    exact .manage _ _ (fun _ => .checked fun _ => .refuseIf (.quiet rfl)) s
  case openService => exact .manage _ _ (fun _ => .checked fun _ => .refuseIf (.refuseIf (.quiet rfl))) s
  case findCredential | readRevoked | readCabin | readRole | readCounts | scan | readTime | readMuster | readVenue
      | readTier | listTabs | readTerminals | readSettings | readService | setCabinMode | loadRole | setClassPolicy
      | loadVenue | setVenueOpen | loadTier | loadTerminal | portReset | readPort =>
    exact .manage _ _ (fun _ => .checked fun _ => .quiet rfl) s

/-- Settles O6: a step takes a command from the queue and is then a chain of changes that the law does not read, of
events that the line follows, and of changes of the line mode and ends of a pulse or a holdoff; each keeps the law. -/
theorem stepKeepsLineWithDemand : Obligations.StepKeepsLineWithDemand := by
  intro s t hs h
  unfold step at h
  split at h
  · cases h
    exact hs
  · rename_i c rest _
    have hrest : KeepsLine s { s with pending := rest } := .quiet rfl
    exact (hrest.trans (exec_keepsLine h)).keeps hs

end Sys2Proof.Machine
end
